-- ==== Sys2Proof/Word.lean ====
section
/-! DEFINITION. The plain word types of the stack and the two limits every counter of the spec uses:
saturation at 0xFFFF_FFFF and wrapping at a width (R48). -/

namespace Sys2Proof

/-- One byte. -/
abbrev Byte := BitVec 8
/-- A 16-bit register field. -/
abbrev Word16 := BitVec 16
/-- A 32-bit register. -/
abbrev Word32 := BitVec 32
/-- A 64-bit register pair or word of memory. -/
abbrev Word64 := BitVec 64
/-- A stack address (R50: 37 bits). -/
abbrev Addr := BitVec 37
/-- The transaction tag of a Gallery request (R108). -/
abbrev Tag := BitVec 9
/-- A frame sequence number (R113). -/
abbrev Fseq := BitVec 10
/-- A stack identifier (R62). -/
abbrev StackId := BitVec 12

/-- The count after one more event on a 32-bit counter that saturates (R48). -/
def satInc (n : Nat) : Nat := if n < 0xFFFFFFFF then n + 1 else 0xFFFFFFFF

/-- The count after `k` more events on a 32-bit counter that saturates (R48). -/
def satAdd (n k : Nat) : Nat := min (n + k) 0xFFFFFFFF

end Sys2Proof
end

