-- ==== Sys2Proof/Syntax.lean ====
section
/-! DEFINITION. The commands of the block: one constructor of `Instr` for each row of spec/opcode_table.json,
with the operands the row needs. A down frame carries its header fields and its data as received; an event
that depends on something outside the stack (a lane's signal, a symbol read wrongly from a die, a measured
temperature) carries that observation. -/

namespace Sys2Proof

/-- A Gallery port, 0 to 31. -/
abbrev PortId := Fin 32
/-- A channel, 0 to 31. -/
abbrev ChanId := Fin 32
/-- A controller cluster, 0 to 7. -/
abbrev CluId := Fin 8
/-- A die, 0 to 15. -/
abbrev DieId := Fin 16
/-- A bank of a channel, 0 to 127. -/
abbrev BankId := Fin 128
/-- A Renjan mailbox: 0 to 3 normal, 4 the fast mailbox (R312, R343). -/
abbrev Mb := Fin 5
/-- One of the two spare lanes of a direction: 0 for S00, 1 for S01 (R67). -/
abbrev Spare := Fin 2

/-- Direction of a Gallery lane (R67). -/
inductive Dir where
  | down | up
  deriving DecidableEq, Repr

/-- The sequence number and the acknowledgement of a received sequenced frame (R100, R113). -/
structure Hdr where
  fseq : Fseq
  ack : Fseq
  deriving DecidableEq, Repr

/-- The fields of a down request in the request layout, with its 128 data bytes (R98, R100). -/
structure ReqF where
  tag : Tag
  sect : BitVec 3
  stack : StackId
  addr : Addr
  mask : BitVec 16 := 0
  operand : BitVec 32 := 0
  poison : Bool := false
  orig : StackId := 0
  data : List Byte := []
  deriving DecidableEq, Repr

/-- The fields of a down RELAY_RSP, in the response layout (R100, R127). -/
structure RspF where
  tag : Tag
  sect : BitVec 3
  stack : StackId
  orig : StackId
  status : BitVec 4
  detail : BitVec 8
  poison : Bool := false
  data : List Byte := []
  deriving DecidableEq, Repr

/-- A PLL whose lock the ports depend on (R70). -/
inductive Pll where
  | frame
  | quad (q : Fin 4)
  deriving DecidableEq, Repr

/-- The order in which a receiver finds the lanes of one group (R76). -/
inductive GroupOrder where
  | identity | reversed | other
  deriving DecidableEq, Repr

/-- A symbol of one granule of a chunk that the die or its TSVs deliver wrongly: `val` is what is XORed
into the stored symbol (R163, R164). -/
structure SymErr where
  granule : Fin 2
  symbol : Fin 68
  val : BitVec 8
  deriving DecidableEq, Repr

/-- What a read of one word of a Keeper SRAM macro finds (R301, R302): no error, a correctable or an uncorrectable one. -/
inductive MacroErr where
  | clean | ce | ue
  deriving DecidableEq, Repr

/-- The ring configuration registers whose writes R334 governs. -/
inductive BcnReg where
  | baseLo | baseHi | size | wbLo | wbHi | ctl
  deriving DecidableEq, Repr

/-- A BAR0 write as it reaches the register block (R286): the byte offset, the 4-byte words it carries with
their byte enables, whether it is poisoned, and whether it is of a type that the function does not implement, such as an AtomicOp (R279). -/
structure BusWrite where
  off : Nat
  words : List Word32
  be : List (BitVec 4)
  poisoned : Bool := false
  other : Bool := false
  deriving DecidableEq, Repr

/-- What Lantern's sensors read in one round (R377, R378): the 64 die sensors and the 12 base sensors in quarters of a
degree, none where a sensor gives no valid reading, and the ten supply monitors in millivolts. A reading that the list
does not reach is none. -/
structure LanRound where
  die : List (Option Int)
  base : List (Option Int)
  volt : List Nat
  deriving DecidableEq, Repr

/-- What the fuses of one word read at a sense, at normal and at the tightened margin (R397). -/
structure FuseRead where
  bank : Fin 129
  word : Fin 256
  normal : BitVec 64
  margin : BitVec 64
  deriving DecidableEq, Repr

/-- A command to the stack: one step of spec/opcode_table.json. -/
inductive Instr where
  /-- RD64 (R105). A down RD64 request is checked on receipt and queued in its class queue to read one granule. -/
  | rd64 (p : PortId) (h : Hdr) (r : ReqF)
  /-- RD128 (R105). A down RD128 request is checked on receipt and queued in its class queue to read one chunk. -/
  | rd128 (p : PortId) (h : Hdr) (r : ReqF)
  /-- WR64 (R105). A down WR64 request carrying 64 B is checked and queued to write one granule, or poison it when POISON is 1. -/
  | wr64 (p : PortId) (h : Hdr) (r : ReqF)
  /-- WR128 (R105). A down WR128 request carrying 128 B is checked and queued to write one chunk. -/
  | wr128 (p : PortId) (h : Hdr) (r : ReqF)
  /-- WRM (R105). A down masked write is checked and queued; partly covered granules go through the merge buffer. -/
  | wrm (p : PortId) (h : Hdr) (r : ReqF)
  /-- AT_ADD (R106). A 64-bit atomic add is checked, queued and applied as one access, returning the old word. -/
  | atAdd (p : PortId) (h : Hdr) (r : ReqF)
  /-- AT_SWAP (R106). A 64-bit atomic swap is checked, queued and applied, returning the old word. -/
  | atSwap (p : PortId) (h : Hdr) (r : ReqF)
  /-- AT_CAS (R106). A 64-bit compare-and-swap is checked, queued and applied, returning the old word. -/
  | atCas (p : PortId) (h : Hdr) (r : ReqF)
  /-- AT_AND (R106). A 64-bit atomic AND is checked, queued and applied. -/
  | atAnd (p : PortId) (h : Hdr) (r : ReqF)
  /-- AT_OR (R106). A 64-bit atomic OR is checked, queued and applied. -/
  | atOr (p : PortId) (h : Hdr) (r : ReqF)
  /-- AT_XOR (R106). A 64-bit atomic XOR is checked, queued and applied. -/
  | atXor (p : PortId) (h : Hdr) (r : ReqF)
  /-- AT_SMAX (R106). A signed 64-bit atomic maximum is checked, queued and applied. -/
  | atSmax (p : PortId) (h : Hdr) (r : ReqF)
  /-- AT_SMIN (R106). A signed 64-bit atomic minimum is checked, queued and applied. -/
  | atSmin (p : PortId) (h : Hdr) (r : ReqF)
  /-- AT_UMAX (R106). An unsigned 64-bit atomic maximum is checked, queued and applied. -/
  | atUmax (p : PortId) (h : Hdr) (r : ReqF)
  /-- AT_UMIN (R106). An unsigned 64-bit atomic minimum is checked, queued and applied. -/
  | atUmin (p : PortId) (h : Hdr) (r : ReqF)
  /-- FENCE (R120). A FENCE request is queued and holds every later request of the port until all earlier requests complete. -/
  | fence (p : PortId) (h : Hdr) (r : ReqF)
  /-- START (R249). A doorbell with command START is queued, then decided against the stream's state and generation, clearing progress and reading the descriptor. -/
  | start (p : PortId) (h : Hdr) (r : ReqF)
  /-- RESUME (R249). A doorbell with command RESUME is queued and decided, queuing a STOPPED stream with its progress kept. -/
  | resume (p : PortId) (h : Hdr) (r : ReqF)
  /-- ABORT (R249). A doorbell with command ABORT is queued and decided, stopping the stream with cause ABORT. -/
  | abort (p : PortId) (h : Hdr) (r : ReqF)
  /-- RELAYED (R127). A RELAYED request with an ordinary read, write or atomic inner opcode is checked and served for an origin stack. -/
  | relayed (p : PortId) (h : Hdr) (r : ReqF)
  /-- RACC_ADD (R129). A RELAYED remote add accumulation is checked, region-checked and applied at the target controller. -/
  | raccAdd (p : PortId) (h : Hdr) (r : ReqF)
  /-- RACC_MIN (R129). A RELAYED remote minimum accumulation is checked and applied. -/
  | raccMin (p : PortId) (h : Hdr) (r : ReqF)
  /-- RACC_MAX (R129). A RELAYED remote maximum accumulation is checked and applied. -/
  | raccMax (p : PortId) (h : Hdr) (r : ReqF)
  /-- RACC_FW (R129). A RELAYED remote fixed-window accumulation of FP64 addends is checked and applied inside a region. -/
  | raccFw (p : PortId) (h : Hdr) (r : ReqF)
  /-- RELAY_RSP (R130). A RELAY_RSP from the host is matched to an outstanding RTAG, or discarded, and its outcome is applied to the origin stream's elements. -/
  | relayRsp (p : PortId) (h : Hdr) (r : RspF)
  /-- RLY_CREDIT (R130). An RLY_CREDIT frame adds relay credit to the port, saturating at 512. -/
  | rlyCredit (p : PortId) (h : Hdr) (count : BitVec 10)
  /-- IDLE (R114). An IDLE frame is received and its ACK and THR fields are used without an FSEQ check. -/
  | idle (p : PortId) (ack : Fseq)
  /-- NAK (R114). A NAK frame is received; it acts as an ACK of E-1 and starts a replay episode at E, or fences on a protocol error. -/
  | nak (p : PortId) (ack : Fseq) (e : Fseq)
  /-- SWAP_REQ (R82). A LANE_CTL SWAP_REQ asks the transmitter of a direction to mirror a lane onto a spare. -/
  | swapReq (p : PortId) (h : Hdr) (dir : Dir) (lane : BitVec 7) (spare : Spare)
  /-- MIRROR (R82). A LANE_CTL MIRROR makes the receiver start comparing the spare with the lane frame by frame. -/
  | mirror (p : PortId) (h : Hdr) (dir : Dir) (lane : BitVec 7) (spare : Spare)
  /-- SWITCHED (R82). A LANE_CTL SWITCHED makes the transmitter stop driving the lane's stream on the lane. -/
  | switched (p : PortId) (h : Hdr) (dir : Dir) (lane : BitVec 7) (spare : Spare)
  /-- SWAP_FAIL (R83). A LANE_CTL SWAP_FAIL abandons a swap or restore and leaves the lane map unchanged. -/
  | swapFail (p : PortId) (h : Hdr) (dir : Dir) (lane : BitVec 7) (spare : Spare)
  /-- RESTORE_REQ (R82). A LANE_CTL RESTORE_REQ asks the transmitter to mirror a spared lane back onto its own lane. -/
  | restoreReq (p : PortId) (h : Hdr) (dir : Dir) (lane : BitVec 7) (spare : Spare)
  /-- RESTORE (R82). A LANE_CTL RESTORE makes the receiver compare the own lane with the spare before switching back. -/
  | restore (p : PortId) (h : Hdr) (dir : Dir) (lane : BitVec 7) (spare : Spare)
  /-- RESTORED (R82). A LANE_CTL RESTORED makes the transmitter return the spare to IDLE training words. -/
  | restored (p : PortId) (h : Hdr) (dir : Dir) (lane : BitVec 7) (spare : Spare)
  /-- REPAIR (R84). A LANE_CTL REPAIR makes the transmitter send a REPAIR marker block, drive the lane on the spare and replay. -/
  | repair (p : PortId) (h : Hdr) (dir : Dir) (lane : BitVec 7) (spare : Spare)
  /-- BIST_RESULT (R95). A LANE_CTL BIST_RESULT reports the host's error count for an up lane under BIST. -/
  | bistResult (p : PortId) (h : Hdr) (dir : Dir) (lane : BitVec 7) (errors : BitVec 19)
  /-- RESERVED_OPCODE_REQUEST (R117). A down frame with a reserved or up-only opcode is answered with ERR_RSP, BAD_REQUEST 0x10. -/
  | reservedOpcodeRequest (p : PortId) (h : Hdr) (opc : BitVec 8) (r : ReqF)
  /-- DOWN_LINK_FRAME_DISCARD (R116). A CREDITS or UNFENCE frame received on the down direction is discarded and sets GAL_FEVT.BAD_REQ. -/
  | downLinkFrameDiscard (p : PortId) (h : Hdr) (unfence : Bool)
  /-- FRAME_CRC_FAILURE (R114). A received frame fails its CRC; it is discarded, counted and in NORMAL answered with NAK. -/
  | frameCrcFailure (p : PortId)
  /-- OCCULT_BLOCK (R88). A block of OCCULT words is received and the receiver suppresses loss-of-signal reactions on that direction. -/
  | occultBlock (p : PortId)
  /-- REQUEST_COMMIT (R112). The head of a class queue is committed when budgets, channel places, holds and the address checks allow, or answered if a check fails. -/
  | requestCommit (p : PortId) (cls : BitVec 3)
  /-- REQUEST_PERFORMED (R109). A controller finishes a read, write or atomic and the port sends the response, with its status. -/
  | requestPerformed (p : PortId) (tag : Tag)
  /-- WR_DONE_COALESCE_TIMEOUT (R110). A performed write tag held for coalescing reaches 32 frames and a WR_DONE carrying up to eight tags is sent. -/
  | wrDoneCoalesceTimeout (p : PortId)
  /-- NAK_RESEND_TIMEOUT (R114). 512 frames pass in NAK_WAIT since the last NAK; the receiver resends the NAK, or retrains after the fourth. -/
  | nakResendTimeout (p : PortId)
  /-- REPLAY_TIMEOUT (R114). The oldest unacknowledged frame waits 1,024 frames; a timeout replay episode starts, or after the fourth the link retrains. -/
  | replayTimeout (p : PortId)
  /-- RELAY (R130). The stack sends a queued RELAY for a Tender access on an eligible port with credit and a free RTAG. -/
  | relay (p : PortId)
  /-- RELAY_TIMEOUT (R132). A RELAY has no accepted RELAY_RSP by the end of tick n+TMO; its RTAG becomes a zombie and its elements are not applied or in doubt. -/
  | relayTimeout (p : PortId) (rtag : Tag)
  /-- OCCULT_ENTRY (R87). After the idle-frame count with nothing owed, the transmitter sends an OCCULT block and lets its lanes fall to electrical idle. -/
  | occultEntry (p : PortId)
  /-- OCCULT_EXIT (R89). Something is queued on an occulting direction; the transmitter sends a wake burst and resumes frames within 8 frames. -/
  | occultExit (p : PortId)
  /-- SIGNAL_RETURN (R71). At least 76 down lanes show signal on a DOWN port and the link enters TRAIN. -/
  | signalReturn (p : PortId) (lanes : BitVec 78)
  /-- LOSS_OF_SIGNAL (R91). A lane, or all down lanes, show loss of signal outside occulting; the stack repairs, marks a spare bad, retrains or goes DOWN. -/
  | lossOfSignal (p : PortId) (lanes : BitVec 78)
  /-- PLL_LOCK (R70). A PLL has shown continuous lock for 16 ticks and is declared locked; the quadrant's ports go to DOWN. -/
  | pllLock (pll : Pll)
  /-- LOSS_OF_LOCK (R91). A quadrant PLL loses lock; its ports go OFF, fenced, with up lanes idle. -/
  | lossOfLock (q : Fin 4)
  /-- FRAME_CLOCK_LOSS_OF_LOCK (R91). The frame-clock PLL loses lock, raising a C3 fault and changing the Daymark source. -/
  | frameClockLossOfLock
  /-- DETECT (R73). The DETECT stage ends at a tick boundary; with signal on 76 lanes PHASE begins, otherwise the attempt fails. -/
  | detect (p : PortId) (signal : BitVec 78) (hostLag : Bool)
  /-- PHASE (R73). The 5-tick PHASE stage ends and its sampling-phase criterion is judged. -/
  | phase (p : PortId) (locked : BitVec 78) (hostLag : Bool)
  /-- ADAPT (R73). The 32-tick ADAPT stage ends and equalisation is judged. -/
  | adapt (p : PortId) (settled : Bool) (hostLag : Bool)
  /-- IDENT (R76). The 4-tick IDENT stage ends; lane order and reversal of each group are judged. -/
  | ident (p : PortId) (data ctl spare : List (Option (BitVec 16))) (hostLag : Bool)
  /-- DESKEW (R77). The 4-tick DESKEW stage ends; skew within 24 UI is judged and lanes aligned. -/
  | deskew (p : PortId) (delays : List (Option Nat)) (hostLag : Bool)
  /-- LANETEST (R78). The 48-tick LANETEST stage ends; failing lanes are assigned good spares or the attempt fails. -/
  | lanetest (p : PortId) (failing : BitVec 78) (hostLag : Bool)
  /-- PARAM (R79). The 2-tick PARAM stage ends; with a valid parameter block the link becomes ACTIVE and sends CREDITS first. -/
  | param (p : PortId) (copies : List (List (BitVec 64))) (hostLag : Bool)
  /-- SWAP_MATCH (R82). After 256 consecutive matching frames the receiver switches the lane to the spare and sends SWITCHED or RESTORED. -/
  | swapMatch (p : PortId)
  /-- SWAP_NO_MATCH_TIMEOUT (R83). No match within 1,024 frames of MIRROR or RESTORE; the receiver sends SWAP_FAIL. -/
  | swapNoMatchTimeout (p : PortId)
  /-- REPAIR_MARKER (R84). The receiver sees a valid REPAIR block and maps the spare to the lane from the next frame. -/
  | repairMarker (p : PortId) (validLanes : Fin 79)
  /-- REPAIR_TIMEOUT (R84). No REPAIR marker within 1 tick of REPAIR; the receiver's end retrains with cause 9. -/
  | repairTimeout (p : PortId)
  /-- LANE_BIST_SLICE (R95). At the first tick of a round each ACTIVE port swaps lane position m mod 156 out of service for PRBS31 test. -/
  | laneBistSlice (p : PortId)
  /-- LANE_BIST_RESTORE (R95). In tick T0+62 a passing lane is restored, or a failing lane keeps its spare with a C1 record. -/
  | laneBistRestore (p : PortId) (errors : BitVec 19)
  /-- RETRAIN (R74). A write of 1 to GAL_LINK_CTL.RETRAIN makes the link start DETECT at the next boundary. -/
  | retrain (p : PortId) (v : Word32)
  /-- TEST_EN (R71). A write to TEST_EN takes the link into TEST when allowed, or back to DOWN when cleared. -/
  | testEn (p : PortId) (v : Word32)
  /-- GAL_PG_CTL_MODE (R94). A write of a pattern MODE acts only in TEST; otherwise it is discarded and TEST_REFUSED set. -/
  | galPgCtlMode (p : PortId) (v : Word32)
  /-- GAL_PG_CTL_CLR (R97). A write of 1 to GAL_PG_CTL.CLR clears checker counts and GAL_PC_FAIL at the next boundary. -/
  | galPgCtlClr (p : PortId) (v : Word32)
  /-- GAL_CRED_WRITE (R133). Credit register writes take effect at the boundary unless their sum exceeds 512, which keeps the old values and sets CRED_REFUSED. -/
  | galCredWrite (p : PortId) (reg : Fin 4) (v : Word32)
  /-- TICK_BOUNDARY (R35). The tick counter advances; staged RT values and Renjan effects apply, then hardware reactions, and every per-tick action begins. -/
  | tickBoundary
  /-- POWER_GOOD (R428). A switching domain reports power-good and its units begin their start-up. -/
  | powerGood (dom : Fin 50)
  /-- PWR_DOMAIN (R428). A domain has not reported power-good within 2 ticks; a C2 fault is raised and the domain is switched off. -/
  | pwrDomain (dom : Fin 50)
  /-- LATE_CLR (R44). A write to DAY_CNT_CLR.LATE_CLR clears DAY_LATE of the named classes at the next boundary. -/
  | lateClr (v : Word32)
  /-- OVR_CLR (R34). A write to DAY_CNT_CLR.OVR_CLR clears DAY_MW_OVERRUN at the next boundary. -/
  | ovrClr (v : Word32)
  /-- DAY_TS_RATE_WRITE (R47). A write to DAY_TS_RATE is discarded while SERVO_EN is 1, and otherwise clamped and applied at the boundary. -/
  | dayTsRateWrite (hi : Bool) (v : Word32)
  /-- PTM_DIALOGUE (R47). Every 2^(10+PERIOD_EXP) ticks Keeper runs a PTM dialogue and corrects the timestamp by step, rate or slew. -/
  | ptmDialogue (offset : Option Int)
  /-- SCHEDULER_ISSUE (R138). In a controller clock the scheduler picks at most one row and one column command by the priority order. -/
  | schedulerIssue (ch : ChanId)
  /-- ACT (R147). An ACT opens a row; the bank's RAA and tracker are updated and the bank may become due for RFMT. -/
  | act (ch : ChanId) (bank : BankId) (row : Nat)
  /-- PRE (R134). A PRE closes the open row of one bank. -/
  | pre (ch : ChanId) (bank : BankId)
  /-- PREA (R134). A PREA closes every open row of one slice. -/
  | prea (ch : ChanId) (die : DieId)
  /-- REFPB (R145). A REFPB closes any open row and refreshes the next 4 rows of a bank, advancing its pointer. -/
  | refpb (ch : ChanId) (bank : BankId)
  /-- RFMT (R148). An RFMT refreshes the neighbours of the tracked row with the largest estimate and resets the bank's RAA. -/
  | rfmt (ch : ChanId) (bank : BankId)
  /-- SRE (R153). An SRE puts a slice into self-refresh at the rate set by the controller. -/
  | sre (ch : ChanId) (die : DieId)
  /-- SRX (R153). An SRX takes a slice out of self-refresh; the next command waits tXSR. -/
  | srx (ch : ChanId) (die : DieId)
  /-- PCLR (R159). A PCLR clears a die's parity alert so that it executes commands again. -/
  | pclr (ch : ChanId) (die : DieId)
  /-- MRR (R155). An MRR reads a die's pattern register for training of data capture. -/
  | mrr (ch : ChanId) (die : DieId) (pattern : Bool)
  /-- RDC (R167). An RDC reads one chunk; each granule is decoded as clean, corrected, poisoned or uncorrectable and acted on. -/
  | rdc (ch : ChanId) (bank : BankId) (col : Fin 8) (errs : List SymErr)
  /-- WRC (R135). A WRC writes one chunk with one enable per granule. -/
  | wrc (ch : ChanId) (bank : BankId) (col : Fin 8)
  /-- OPEN_MAX_EXPIRY (R142). An open row idle for OPEN_MAX clocks is precharged and C is set. -/
  | openMaxExpiry (ch : ChanId) (bank : BankId)
  /-- SR_IDLE_EXPIRY (R152). A queue empty for SR_IDLE ticks puts every slice of the channel into self-refresh. -/
  | srIdleExpiry (ch : ChanId)
  /-- PARITY_ALERT (R159). A die raises its parity alert; the controller runs a replay episode from its retry buffer. -/
  | parityAlert (ch : ChanId) (die : DieId)
  /-- FREQ_STEP_T1 (R155). A step begins: PREA and SRE to all slices, the cluster clock moves to the new frequency and the timing sets swap. -/
  | freqStepT1 (k : CluId)
  /-- FREQ_STEP_T2 (R155). In the step's second tick the TSV PHYs lock to the new clock and calibrate by loopback. -/
  | freqStepT2 (k : CluId) (locked : Bool)
  /-- FREQ_STEP_T3 (R155). In the step's third tick SRX goes to all slices and MRR training runs. -/
  | freqStepT3 (k : CluId) (trained : Bool)
  /-- FREQ_STEP_END (R155). After T3 the cluster serves at the new step, held requests issue and CLUSTER_STEP responds. -/
  | freqStepEnd (k : CluId)
  /-- STEP_FAIL (R157). Step commands not accepted by the end of their tick leave the cluster not ready; held requests complete NOT_READY. -/
  | stepFail (k : CluId)
  /-- REFRESH_RATE_RETURN (R146). A die's refresh returns to normal after 6,144 ticks with no round above 85 °C. -/
  | refreshRateReturn (die : DieId)
  /-- MERGE_FILL_RETURN (R169). A merge entry's fill read returns; waiting partial writes are merged or answered POISON. -/
  | mergeFillReturn (ch : ChanId) (granule : Nat) (errs : List SymErr)
  /-- MERGE_ENTRY_TIMEOUT (R171). A merge entry reaches 2,048 frames since allocation and closes, writing its granule. -/
  | mergeEntryTimeout (ch : ChanId) (granule : Nat) (errs : List SymErr)
  /-- TSV_LOOPBACK_TEST (R174). A suspected TSV is tested by loopback in the next maintenance window and spared, declared or retired on failure. -/
  | tsvLoopbackTest (ch : ChanId) (tsv : Fin 324) (fails : Bool) (dies : BitVec 16)
  /-- MOORING_ROUND_END (R182). At the end of a round each mooring candidate is dropped or its granule moved to a spare row. -/
  | mooringRoundEnd (ch : ChanId)
  /-- DESCRIPTOR_READ_COMPLETE (R250). The descriptor read for START or RESUME finishes; DCOPY is loaded and the stream QUEUED, or STOPPED on failure. -/
  | descriptorReadComplete (stream : BitVec 18)
  /-- DOORBELL_CONTEXT_READ (R250). A non-resident context is read from the store so that a waiting doorbell can be decided. -/
  | doorbellContextRead (stream : BitVec 18)
  /-- STREAM_FILL_COMPLETE (R254). A QUEUED or PREEMPTED stream is granted a cache entry and its fill completes; it becomes RUNNING. -/
  | streamFillComplete (stream : BitVec 18)
  /-- ELEMENT_ISSUE (R238). A RUNNING stream issues an element access within its 64-element window, highest class first. -/
  | elementIssue (t : Fin 4)
  /-- XLATE_WALK_COMPLETE (R258). A page-table walk finishes, yielding a local or remote address or a translation fault. -/
  | xlateWalkComplete (asid : BitVec 16) (vpn : Nat)
  /-- ELEMENT_APPLIED (R260). An element's access completes and the element counts as applied, advancing CURSOR or AHEAD. -/
  | elementApplied (stream : BitVec 18) (k : Nat)
  /-- STREAM_DRAIN_COMPLETE (R265). A STOPPING stream has nothing outstanding; progress is stored, it becomes STOPPED or PREEMPTED and writes STREAM_STOP. -/
  | streamDrainComplete (stream : BitVec 18)
  /-- FINAL_WRITES_COMPLETE (R263). The final writes complete; the stream becomes DONE and writes STREAM_DONE when NOTIFY is 1. -/
  | finalWritesComplete (stream : BitVec 18)
  /-- PREEMPTION (R270). A waiting higher-class stream finds no free entry; a lower-class RUNNING victim stops with cause PREEMPT. -/
  | preemption (t : Fin 4)
  /-- CONTEXT_EVICT (R254). An unpinned context-cache entry is evicted and written back when changed. -/
  | contextEvict (t : Fin 4)
  /-- CONTEXT_SCAN (R275). After LIGHTSHIP_EXIT Keeper reads every stored context and marks RUNNING or STOPPING ones UNUSABLE with STREAM_LOST. -/
  | contextScan
  /-- CONTEXT_WRITE_COMPLETE (R434). The contexts of the ready clusters are written FREE and the translation unit, then the Tender clusters, become ready. -/
  | contextWriteComplete
  /-- GO (R313). An MB_HDR write with GO = 1 submits a mailbox command, or is discarded with LOST while PENDING or BUSY. -/
  | go (m : Mb) (v : Word32)
  /-- KEEPER_TAKE (R315). Keeper takes a PENDING command, fast mailbox first then normal ones in rotation, and decides it. -/
  | keeperTake
  /-- IDENT_GET (R320). Returns the identity, capability, serial, versions, lifecycle and stack identifier. -/
  | identGet (m : Mb)
  /-- STACK_ID_SET (R64). Assigns or unassigns the stack identifier at the boundary unless relay is enabled or relayed traffic is outstanding. -/
  | stackIdSet (m : Mb)
  /-- PORT_POWER (R321). Switches named port domains on or off, refusing to leave a quadrant's port 8q off while others stay on. -/
  | portPower (m : Mb)
  /-- PORT_FENCE (R321). Sets fence cause MANAGER on the named ports at the boundary. -/
  | portFence (m : Mb)
  /-- PORT_UNFENCE (R321). Clears MANAGER, PORT_FAULT and PROTOCOL on ACTIVE named ports at the boundary. -/
  | portUnfence (m : Mb)
  /-- RELAY_SET (R321). Sets RLY_EN on the named ports at the boundary, refused while the identifier is unassigned. -/
  | relaySet (m : Mb)
  /-- ZOMBIE_RELEASE (R321). Frees every zombie RTAG of a port at the boundary. -/
  | zombieRelease (m : Mb)
  /-- CLUSTER_STEP (R154). Requests a frequency step of a cluster; the response follows the end of the step. -/
  | clusterStep (m : Mb)
  /-- CLUSTER_POWER (R322). Switches a controller cluster off via self-refresh, or on with start-up training. -/
  | clusterPower (m : Mb)
  /-- SECT_ADMIT (R199). Sets the admitted place counts of classes 0 to 6 at the boundary when every admission condition holds. -/
  | sectAdmit (m : Mb)
  /-- SECT_QUERY (R323). Returns admitted and effective counts, D_MIN, N_LIVE and the throttle level. -/
  | sectQuery (m : Mb)
  /-- STREAM_ALLOC (R252). Allocates a FREE stream with its descriptor address, ASID, class and cluster, advancing GEN. -/
  | streamAlloc (m : Mb)
  /-- STREAM_FREE (R252). Frees a stream, rewriting its context and advancing GEN. -/
  | streamFree (m : Mb)
  /-- STREAM_QUERY (R246). Returns the 128 B context in effect. -/
  | streamQuery (m : Mb)
  /-- STREAM_RESUME (R252). Resumes a STOPPED stream as RESUME does, without a generation. -/
  | streamResume (m : Mb)
  /-- STREAM_ABORT (R252). Aborts a stream as ABORT does, without a generation. -/
  | streamAbort (m : Mb)
  /-- ASID_SET (R255). Writes a valid ASID table entry and invalidates the space's cached translations. -/
  | asidSet (m : Mb)
  /-- ASID_CLEAR (R255). Writes VALID 0 to an ASID entry with invalidation. -/
  | asidClear (m : Mb)
  /-- XLATE_INVAL (R259). Invalidates cached translations for all spaces, an ASID or a range, responding after old walks and accesses finish. -/
  | xlateInval (m : Mb)
  /-- FW_REGION_SET (R228). Registers a fixed-window region with base, size and unit exponent at the boundary. -/
  | fwRegionSet (m : Mb)
  /-- FW_REGION_CLEAR (R228). Removes a registered fixed-window region at the boundary. -/
  | fwRegionClear (m : Mb)
  /-- TND_POWER (R324). Switches Tender clusters or the translation unit on or off. -/
  | tndPower (m : Mb)
  /-- MOORING_LOAD (R185). Loads a manager mooring entry and moves its granules; responds after the move takes effect. -/
  | mooringLoad (m : Mb)
  /-- MOORING_FREE (R185). Copies redirected granules back into a repaired row and frees the entry. -/
  | mooringFree (m : Mb)
  /-- MOORING_READ (R325). Returns 16 mooring entries of a channel. -/
  | mooringRead (m : Mb)
  /-- CHANNEL_RETIRE (R176). Retires a channel at the boundary with a CH_RETIRED record. -/
  | channelRetire (m : Mb)
  /-- INTEGRITY_GET (R186). Returns a channel's integrity counters, decode mode, spare maps and mooring state, optionally clearing counters. -/
  | integrityGet (m : Mb)
  /-- FUSE_READ (R325). Returns normal and margin reads of Light list words. -/
  | fuseRead (m : Mb)
  /-- FUSE_PROGRAM (R410). Burns and verifies words of a bank, writing the verified values to the shadow. -/
  | fuseProgram (m : Mb)
  /-- FUSE_SEAL (R411). Burns a bank's CRC and MARK, senses it, and activates its ROW repairs. -/
  | fuseSeal (m : Mb)
  /-- FUSE_LOCK (R412). Burns a sealed bank's LOCK bit after a fresh sense shows a valid seal. -/
  | fuseLock (m : Mb)
  /-- FUSE_REBURN (R325). Burns again the bits of a word that read 1 at normal margin to mend a WEAK word. -/
  | fuseReburn (m : Mb)
  /-- LAN_SENSOR_RESTORE (R382). Returns a die's SUSPECT sensors to use after 64 agreeing rounds. -/
  | lanSensorRestore (m : Mb)
  /-- LAN_OVERRIDE (R326). Sets a throttle floor, doubled refresh and a step limit from the boundary for a duration. -/
  | lanOverride (m : Mb)
  /-- OVERRIDE_END (R326). A LAN_OVERRIDE's duration of 64*n ticks runs out and the override ends. -/
  | overrideEnd
  /-- LAN_CONFIG (R385). Sets the grace period for throttle requests that begin from the boundary. -/
  | lanConfig (m : Mb)
  /-- LAN_READ (R326). Returns sensor readings, die estimates and voltage monitors. -/
  | lanRead (m : Mb)
  /-- BIST_STATUS (R327). Returns TSV and lane pass durations, skips and counts. -/
  | bistStatus (m : Mb)
  /-- TSV_TEST (R444). Tests every TSV of a channel by loopback, one group per tick, responding after the last slice. -/
  | tsvTest (m : Mb)
  /-- WATCH_SELECT (R452). Selects a Watch signal group and enable at the boundary, denied outside the field set in FIELD. -/
  | watchSelect (m : Mb)
  /-- SNAPSHOT (R328). Requests a snapshot served at the command's boundary and returns SNAP_SEQ. -/
  | snapshot (m : Mb)
  /-- LOG_READ (R328). Returns bytes of the Keeper log ring. -/
  | logRead (m : Mb)
  /-- FW_PATCH_LOAD (R309). Checks and authenticates a patch image and starts a Keeper-only reset with cause PATCH to run it. -/
  | fwPatchLoad (m : Mb)
  /-- LIFECYCLE_ADVANCE (R416). Burns the next lifecycle bit in both copies, taking effect at the boundary after verification. -/
  | lifecycleAdvance (m : Mb)
  /-- KEEPER_RESET (R329). Writes its response and starts a Keeper-only reset with cause MANAGER at the next boundary. -/
  | keeperReset (m : Mb)
  /-- FAULT_INJECT (R375). Arms a checker to invert check bits for the next count events of a unit. -/
  | faultInject (m : Mb)
  /-- FOGHORN_DRIVE (R365). Sets FLT_FH.DRIVE at the boundary, taking precedence until the next C3 capture or clear. -/
  | foghornDrive (m : Mb)
  /-- LIGHTSHIP_EXIT (R372). Leaves lightship mode at the boundary when causes have cleared, restoring domains and the retention array. -/
  | lightshipExit (m : Mb)
  /-- WATCHDOG (R304). Beleb has not served the watchdog for 4,096 ticks, or boot exceeds 8,192 ticks; a Keeper-only reset starts. -/
  | watchdog
  /-- KEEPER_RUN (R306). Beleb finishes booting and verifying, enters RUN, takes pending commands and writes KEEPER_RESTART. -/
  | keeperRun
  /-- LIGHTSHIP_CAUSE4_CLEAR (R304). STATE has read RUN for 488,282 ticks without watchdog failure and cause 4 clears. -/
  | lightshipCause4Clear
  /-- SRAM_SCRUB_READ (R301). The Keeper SRAM scrubber reads one word per macro and corrects, remaps or resets on errors. -/
  | sramScrubRead (word : BitVec 12) (errs : List MacroErr)
  /-- FAULT_EVENT (R358). A fault event reaches the collector; it sets the source bit, counts, captures and starts class reactions. -/
  | faultEvent (src : Fin 56) (inst : BitVec 8) (info : BitVec 64)
  /-- FOGHORN_PULSE_END (R363). A Foghorn pulse reaches its length and FH_N is released unless DRIVE holds it. -/
  | foghornPulseEnd
  /-- LIGHTSHIP_DOMAINS_OFF (R367). At the first boundary with every cluster in self-refresh and every port drained, state moves to the retention array and domains switch off. -/
  | lightshipDomainsOff
  /-- FLT_CLR (R359). A matching clear write clears the fault word, captures and FLT_LATER at the next boundary. -/
  | fltClr (v : Word32)
  /-- FLT_CNT_CLR (R376). A write to FLT_CNT_CLR clears the named class counters at the next boundary. -/
  | fltCntClr (v : Word32)
  /-- SQ_CLEAR (R291). A write to an SQ register with a matching sequence number clears its status bits at the next boundary. -/
  | sqClear (off : BitVec 16) (v : Word32)
  /-- BCN_LSRC_PEND (R346). A matching clear of BCN_LSRC_PEND clears pending bits; a still-active level source captures again. -/
  | bcnLsrcPend (v : Word32)
  /-- BEACON_RECORD_WRITE (R335). A queued record of an unblocked, not-full ring is written by DMA, with HEAD write-back. -/
  | beaconRecordWrite (fast : Bool)
  /-- TAIL (R339). A TAIL write takes effect at once, or is discarded with BAD_TAIL, and may signal the ring's vector. -/
  | tail (fast : Bool) (v : Word32)
  /-- BCN_CONFIG_WRITE (R334). A ring configuration write is discarded while EN is 1; EN stays 0 at the boundary for a misaligned BASE. -/
  | bcnConfigWrite (fast : Bool) (reg : BcnReg) (v : Word32)
  /-- BCN_MASK (R350). A mask-table write stops or allows record capture of a source, at most one record in the two ticks. -/
  | bcnMask (unit : Fin 18) (w : Fin 8) (v : Word32)
  /-- QUENCH (R347). A level or edge source active for 1,024 consecutive ticks is masked, marked quenched and reports one QUENCH record. -/
  | quench (l : Fin 13)
  /-- LANTERN_PUBLISH (R378). Lantern publishes a round: effective temperatures, refresh rate, throttle, step limits, critical and supply decisions. -/
  | lanternPublish (round : LanRound)
  /-- GRACE_END (R385). A grace period runs out and throttle enforcement begins at the request's level. -/
  | graceEnd
  /-- TRIP_N (R387). Filtered TRIP_N changes; it applies or removes the TRIP_FLOOR throttle and may enter lightship mode. -/
  | tripN (samples : List Bool)
  /-- SR_N (R426). Filtered SR_N changes; while low, idle clusters self-refresh and up directions occult early. -/
  | srN (samples : List Bool)
  /-- PERST_N_FALL (R424). Filtered PERST_N falls and a stack reset begins: ports fenced, merge entries written back, slices into self-refresh. -/
  | perstNFall
  /-- STACK_RESET_DOMAINS_OFF (R424). At the first boundary with every cluster in self-refresh every switched domain switches off and state resets. -/
  | stackResetDomainsOff
  /-- PERST_N_RISE (R432). Filtered PERST_N rises and, with supplies in window, domains begin to switch on. -/
  | perstNRise
  /-- ALWAYS_ON_RESET (R421). VDD_AON falls below 650 mV and the always-on reset clears all state. -/
  | alwaysOnReset
  /-- ALWAYS_ON_RESET_RELEASE (R421). VDD_AON above 690 mV for 100 µs releases the reset, starting the tick counter and bank 0 sensing. -/
  | alwaysOnResetRelease
  /-- TEST_RESET (R422). TRST_N low or five TCK cycles with TMS high reset the test access port and die wrappers. -/
  | testReset
  /-- FUNCTION_RESET (R281). A PCI Express hot reset or link down resets the function's configuration space and MSI-X table. -/
  | functionReset
  /-- D3HOT (R281). The function enters D3hot; BAR accesses answer Unsupported Request and DMA stops. -/
  | d3hot
  /-- RETURN_TO_D0 (R281). The function returns to D0 with its state preserved. -/
  | returnToD0
  /-- CONFIGURATION_READY (R282). The configuration space becomes ready within 20 ms of PERST_N release and stops answering retry status. -/
  | configurationReady
  /-- CLK_REF (R356). REFCLK is lost; a C3 fault is raised and Daymark moves to the RC oscillator. -/
  | clkRef
  /-- CLK_MGREF (R356). MG_REFCLK is lost; a C2 fault is raised and the management link goes down. -/
  | clkMgref
  /-- BANK0_SENSE (R401). Bank 0 is sensed at both margins and accepted, or the stack stays in reset. -/
  | bank0Sense (reads : List FuseRead)
  /-- BULK_SENSE (R403). Banks 1 to 128 are sensed and decided, repairs checked, and LL_BULK becomes 1. -/
  | bulkSense (reads : List FuseRead)
  /-- RESENSE_PASS_START (R407). Every 2^20 ticks a re-sense pass of the Light list begins. -/
  | resensePassStart
  /-- RESENSE_BANK_END (R408). A bank's re-sense ends; drift is recorded, or the bank is withdrawn and its row repairs moved to mooring. -/
  | resenseBankEnd (reads : List FuseRead)
  /-- CRITICAL_SHADOW_CHECK (R408). Once per round the bank 0 shadow CRC is recomputed, raising LL_CRITICAL on mismatch. -/
  | criticalShadowCheck
  /-- CLUSTER_STAGE_CLOCK (R433). The cluster PLL shows lock for 16 ticks and stage 1 ends. -/
  | clusterStageClock (k : CluId)
  /-- CLUSTER_STAGE_REPAIR (R433). After 256 ticks the die repair latches and TSV multiplexers are loaded and stage 2 ends. -/
  | clusterStageRepair (k : CluId)
  /-- CLUSTER_STAGE_TSVS (R433). After 1,536 ticks every TSV is tested and spared, declared or retired and stage 3 ends; a failing TSV is
given as channel, TSV and the dies that cannot receive it (R177). -/
  | clusterStageTsvs (k : CluId) (failing : List (Nat × Nat × BitVec 16))
  /-- CLUSTER_STAGE_DIES (R433). After 1,120 ticks the dies are initialised and trained and the cluster becomes ready. -/
  | clusterStageDies (k : CluId)
  /-- CLUSTER_STAGE_FAIL (R433). A start-up stage fails; the cluster restarts from stage 1 once, or stays not ready with DCC_STEP_FAIL. -/
  | clusterStageFail (k : CluId)
  /-- TSV_BIST_SLICE (R441). The TSV pointer's group is moved onto stand-ins and tested by PRBS15 loopback in the test window. -/
  | tsvBistSlice (failing : List Nat)
  /-- TSV_CONFIRM_TEST (R442). A TSV that failed a slice is retested in the next window and returned, or handed to sparing; `fails` is
none where it passes, else the dies that the test finds unable to receive a command TSV (R177). -/
  | tsvConfirmTest (fails : Option (BitVec 16))
  /-- TRIGGER (R292). A write of 1 to KPR_SNAP_CTL.TRIGGER requests a snapshot at the next boundary. -/
  | trigger (v : Word32)
  /-- BAR0_WRITE (R286). A BAR0 write to a register without behaviour of its own is checked and performed or refused with a bus error. -/
  | bar0Write (w : BusWrite)
  /-- BAR2_READ (R296). A BAR2 read is checked per chunk and served as class 7 reads of stack memory. -/
  | bar2Read (off : Nat) (len : Nat)
  /-- BAR2_WRITE (R296). A BAR2 write is checked per chunk and performed as class 7 writes. -/
  | bar2Write (off : Nat) (data : List Byte) (be : List Bool) (poisoned : Bool)
  /-- IDCODE (R448). The IDCODE instruction selects the identification register. -/
  | idcode
  /-- SAMPLE_PRELOAD (R447). The SAMPLE/PRELOAD instruction samples or preloads boundary-scan cells. -/
  | samplePreload (cells : Option (BitVec 64))
  /-- EXTEST (R449). The EXTEST instruction drives boundary-scan outputs while every switched domain is off. -/
  | extest
  /-- CLAMP (R449). The CLAMP instruction holds outputs while selecting bypass, when domains are off. -/
  | clamp
  /-- HIGHZ (R449). The HIGHZ instruction sets outputs to high impedance when domains are off. -/
  | highz
  /-- STATUS (R448). The STATUS instruction reads the hold reason, lifecycle and tick without Keeper. -/
  | status
  /-- DIE_SEL (R450). The DIE_SEL instruction joins the selected die wrappers into the scan chain. -/
  | dieSel (sel : BitVec 16)
  /-- FUSE (R447). The FUSE instruction gives fuse access through the test access port in FACTORY only. -/
  | fuse (bank : Fin 129) (word : Fin 256) (bits : BitVec 64)
  /-- KDBG (R447). The KDBG instruction gives Keeper debug access when KPR_DBG is 1. -/
  | kdbg
  /-- BYPASS (R447). The BYPASS instruction, or any unavailable code, selects the bypass register. -/
  | bypass
  /-- WAKE_BURST (R88). The host leaves occulting on the down direction; the stack's receiver sees the wake burst, regains sampling phase and accepts frames again. -/
  | wakeBurst (p : PortId)
  /-- CLK_CLUSTER (R356). A controller cluster's PLL loses lock; the cluster is handled as a step failure and its ready bit falls. -/
  | clkCluster (k : CluId)
  /-- REFCLK_RETURN (R29). REFCLK becomes present again, so Daymark may leave the RC oscillator and the frame-clock PLL can reacquire lock. -/
  | refclkReturn
  /-- MANAGEMENT_LINK_UP (R336). The PCI Express management link comes up, ending the blocking of the Beacon rings so that queued records are written. -/
  | managementLinkUp
  /-- BUS_MASTER_ENABLE (R280). A configuration write sets Bus Master Enable; waiting Beacon records and pending MSI-X messages may then be sent. -/
  | busMasterEnable (bme mse : Bool)
  /-- MSIX_UNMASK (R294). A vector or the Function Mask is unmasked, and a message whose pending bit is set is sent. -/
  | msixUnmask (v : Fin 8) (masked en fmask : Bool)
  /-- FH_N_LEVEL (R462). Another stack pulls or releases the shared FH_N line, changing FLT_FH.LEVEL here. -/
  | fhNLevel (low : Bool)
  /-- SWAP_REQ_UNANSWERED (R96). The host does not answer a SWAP_REQ or RESTORE_REQ for a down-lane BIST slice, so the slice is skipped and counted as not covered. -/
  | swapReqUnanswered (p : PortId)
  /-- LANE_CTL_DISCARD (R81). A LANE_CTL frame with a reserved ACTION or a LANE above 75 is received and discarded. -/
  | laneCtlDiscard (p : PortId) (h : Hdr) (action : BitVec 4) (lane : BitVec 7)
  /-- DOORBELL_UNDEFINED_COMMAND (R249). A DOORBELL whose command is undefined is decided and answered DB_DONE with BAD_REQUEST 0x42. -/
  | doorbellUndefinedCommand (p : PortId) (h : Hdr) (r : ReqF)
  /-- FUSE_BURN_COMPLETE (R410). The AON burn logic finishes burning and verifying a word, writing the verified value into the shadow. -/
  | fuseBurnComplete (verified : Bool)
  /-- KEEPER_CORE_SRAM_READ (R303). A read by the Keeper core finds a correctable or uncorrectable SRAM error, correcting and remapping it or starting a Keeper-only reset with cause SRAM_UE. -/
  | keeperCoreSramRead (mac : Fin 16) (word : BitVec 12) (err : MacroErr)
  deriving DecidableEq, Repr

end Sys2Proof
end

