-- ==== Sys2Proof/Decode.lean ====
section
/-! DEFINITION. The table of commands gives no row any bits: its rows are events and operations at the stack's interfaces, not
words of a program. So no word spells a command. -/

namespace Sys2Proof

/-- The command that `nbits` bits of value `w` spell by spec/opcode_table.json: none, for every row's list of fields is empty.
DESIGN CHOICE, log entry 46. -/
def decodeTableWord (_nbits _w : Nat) : Option Instr := none

end Sys2Proof
end

