-- ==== Sys2Proof/Machine/Tab.lean ====
section
/-! DEFINITION. A sparse table: a list of keys and values in rising key order; a key that is not listed
holds the default the reader names. Every bank of like units of the stack (ports, channels, banks of a
channel, tags of a port, streams) is held this way, so that a state lists only what differs from reset. -/

namespace Sys2Proof.Machine

/-- A sparse table from numbers to values. -/
abbrev Tab (α : Type) := List (Nat × α)

/-- The value at key `k`, `d` where the table does not list it. -/
def tget {α : Type} (d : α) : List (Nat × α) → Nat → α
  | [], _ => d
  | (j, v) :: t, k => if k = j then v else if k < j then d else tget d t k

/-- The table with `v` at key `k`. -/
def tset {α : Type} : List (Nat × α) → Nat → α → List (Nat × α)
  | [], k, v => [(k, v)]
  | (j, w) :: t, k, v =>
    if k = j then (k, v) :: t
    else if k < j then (k, v) :: (j, w) :: t
    else (j, w) :: tset t k v

/-- The table with the value at key `k` changed by `f`. -/
def tmod {α : Type} (d : α) (t : List (Nat × α)) (k : Nat) (f : α → α) : List (Nat × α) :=
  tset t k (f (tget d t k))

/-- The table with every key below `n` changed by `f` (which also sees the key). -/
def tmodAll {α : Type} (d : α) (n : Nat) (t : List (Nat × α)) (f : Nat → α → α) : List (Nat × α) :=
  (List.range n).foldl (fun u k => tmod d u k (f k)) t

/-- `x` put into a list before the first element it need not follow. -/
def insertBy {α : Type} (le : α → α → Bool) (x : α) : List α → List α
  | [] => [x]
  | y :: ys => if le x y then x :: y :: ys else y :: insertBy le x ys

/-- The list in the order of `le`, by insertion; elements that are equal in it keep their order. -/
def sortBy {α : Type} (le : α → α → Bool) (l : List α) : List α := l.foldr (insertBy le) []

end Sys2Proof.Machine
end

