-- ==== Sys2Proof/Machine/Base.lean ====
section
/-! DEFINITION. The plain data of the units that every other unit uses: SQ status registers (R8, R9), the
Daymark (R27 to R47), Beacon records and rings (R332 to R353), the fault collector, Foghorn and lightship
mode (R354 to R376). -/

namespace Sys2Proof.Machine

/-- A status register with SQ bits (R8, R9): `seq` and `bits` are what a read shows, `now` holds the bits that
events of the current tick set at its boundary, `clr` that a matching clear was accepted in this tick. -/
structure Sq where
  seq : BitVec 16 := 0
  bits : BitVec 16 := 0
  now : BitVec 16 := 0
  clr : Bool := false
  deriving DecidableEq, Repr

/-- The four classes of R354. -/
inductive Cls where
  | c0 | c1 | c2 | c3
  deriving DecidableEq, Repr

/-- The sources a tick is counted from (R29), in their order of preference. -/
inductive TickSrc where
  | pll | ref | rc
  deriving DecidableEq, Repr

/-- Daymark (R27 to R47). `ts` counts in units of 2^-32 ns (R45, R47). -/
structure Day where
  tick : Nat := 0
  cyc : Nat := 0
  src : TickSrc := .ref
  phase : Nat := 0
  ts : Nat := 0
  rate : Nat := 0x100000000
  servoEn : Bool := true
  stepEn : Bool := true
  periodExp : Nat := 6
  aligned : Bool := false
  slewing : Bool := false
  uncertain : Bool := false
  ptm : Sq := {}
  ptmLastOk : Bool := false
  ptmOfs : Int := 0
  tsStep : Nat := 0
  nextPtm : Nat := 0
  scrubChunks : Nat := 16
  tsvBistEn : Bool := true
  laneBistEn : Bool := true
  overrun : Nat := 0
  late : Tab Nat := []
  lateNow : Tab Nat := []
  lateClr : BitVec 8 := 0
  ovrClr : Bool := false
  deriving DecidableEq, Repr

/-- A Beacon record (R340). -/
structure Rec where
  seq : BitVec 32
  ts : BitVec 64
  unit : Nat
  inst : Nat
  cls : Cls
  level : Bool := false
  quench : Bool := false
  lostBefore : Bool := false
  weak : Bool := false
  edge : Bool := false
  edges : Nat := 0
  active : Bool := false
  tick : Nat
  payload : BitVec 96 := 0
  deriving DecidableEq, Repr

/-- What the payload of an event that waits for its capture copies (R343): a value fixed at the event, or a
pair of registers read when the record is captured. -/
inductive Payload where
  | value (v : BitVec 96)
  | galLink (p : Nat)
  | galFrame (p : Nat)
  | dccCluster (k : Nat)
  deriving DecidableEq, Repr

/-- An event of a Beacon source that waits in its unit for its capture (R342). -/
structure Ev where
  unit : Nat
  inst : Nat
  cls : Cls
  fast : Bool := false
  payload : Payload := .value 0
  /-- The record is captured only at the next tick boundary, after the event register it copies (R343). -/
  atBoundary : Bool := false
  deriving DecidableEq, Repr

/-- One Beacon ring with its on-die queue (R332 to R339, R352). -/
structure Ring where
  base : BitVec 64 := 0
  /-- BCN_SIZE.LOG2 as written, and the nearest size that the ring allows (R332). -/
  sizeW : Nat := 6
  log2 : Nat := 6
  en : Bool := false
  wbEn : Bool := false
  wb : BitVec 64 := 0
  head : BitVec 32 := 0
  tail : BitVec 32 := 0
  next : BitVec 32 := 0
  lost : Nat := 0
  evt : Sq := {}
  written : Nat := 0
  queue : List Rec := []
  lostMark : Bool := false
  /-- The last tick at whose end the ring could not write: blocked or full (R336). -/
  shut : Nat := 0
  deriving DecidableEq, Repr

/-- One level or edge source (R344 to R348). -/
structure LSrc where
  active : Bool := false
  pending : Bool := false
  quenched : Bool := false
  count : Nat := 0
  /-- Edges sampled in the current tick, and the record that counts them (R348). -/
  edges : Nat := 0
  edgeRec : Option (BitVec 32) := none
  /-- Became pending in the current tick, so that a clear accepted in it leaves it standing. -/
  pendNow : Bool := false
  /-- The payload its records carry (R392). -/
  payload : BitVec 96 := 0
  deriving DecidableEq, Repr

/-- The Beacon unit (R332 to R353). -/
structure Bcn where
  normal : Ring := {}
  fast : Ring := {}
  lsrc : Tab LSrc := []
  /-- BCN_LSRC_PEND.SEQ, and whether a matching clear was accepted in this tick. -/
  pendSeq : BitVec 16 := 0
  pendClr : Bool := false
  /-- Mask bits in effect and written in this tick, by unit and instance. -/
  masked : List (Nat × Nat) := [(0x0A, 1)]
  maskStaged : List ((Nat × Nat) × Bool) := []
  /-- Sources that captured in the current tick and in the tick before (R342, R350). -/
  capNow : List (Nat × Nat) := []
  capPrev : List (Nat × Nat) := []
  /-- Events that wait in their units, in order (R342); sources that lost an event. -/
  wait : List Ev := []
  lostSrc : List (Nat × Nat) := []
  deriving DecidableEq, Repr

/-- One fault event on its way to the collector (R356). -/
structure FaultEv where
  src : Nat
  inst : Nat
  cls : Cls
  detail : BitVec 64 := 0
  injected : Bool := false
  /-- The cause of R366 that the event is, 0 where it is none; a C3 event is cause 2. -/
  lsCause : Nat := 0
  deriving DecidableEq, Repr

/-- A capture of the collector (R358). -/
structure Cap where
  src : Nat
  inst : Nat
  cls : Cls
  injected : Bool
  tick : BitVec 32
  /-- The timestamp at the capture (R45). -/
  ts : BitVec 64 := 0
  detail : BitVec 64
  /-- The tick in which the capture was made (R359 clears only older ones). -/
  at_ : Nat
  deriving DecidableEq, Repr

/-- The armed injection of R375. -/
structure Inj where
  checker : Nat
  unit : Nat
  two : Bool
  remaining : Nat
  /-- The tick in which the command was decided and the tick of the last injection. -/
  decided : Nat
  last : Option Nat := none
  deriving DecidableEq, Repr

/-- The fault collector and Foghorn (R354 to R365, R376). -/
structure Flt where
  /-- Events raised by units in this command and not yet taken by the collector. -/
  line : List FaultEv := []
  src : BitVec 56 := 0
  later : Bool := false
  injected : Bool := false
  lightship : Bool := false
  fhPulsed : Bool := false
  cap : Option Cap := none
  esc : Option Cap := none
  laterCnt : Nat := 0
  cnt : Tab Nat := []
  events : Nat := 0
  clrSeq : BitVec 16 := 0
  changed : Bool := false
  clr : Bool := false
  cntClr : BitVec 4 := 0
  /-- What the current tick added, which a clear leaves standing (R359). -/
  nowSrc : BitVec 56 := 0
  nowLater : Nat := 0
  nowLightship : Bool := false
  nowFhPulsed : Bool := false
  nowClass : Nat := 0
  fhC2 : Bool := false
  pulse : Bool := false
  pulseC3 : Bool := false
  drive : Bool := false
  driveHeld : Bool := false
  extLow : Bool := false
  lastClass : Nat := 0
  pulses : Nat := 0
  inj : Option Inj := none
  deriving DecidableEq, Repr

/-- The place in the sequence of R367. -/
inductive LsPhase where
  | off
  | entered
  | dark
  deriving DecidableEq, Repr

/-- Lightship mode (R366 to R372). -/
structure Ls where
  on : Bool := false
  cause : Nat := 0
  entryTick : BitVec 16 := 0
  phase : LsPhase := .off
  raised : BitVec 4 := 0
  exitTick : BitVec 16 := 0
  /-- A staged LIGHTSHIP_EXIT, and causes that arose after it in the same tick (R370). -/
  exitStaged : Bool := false
  after : List Nat := []
  /-- Domains that were on at entry (R372). -/
  domains : List Nat := []
  /-- Cause 4 has not cleared since it last arose (R304). -/
  c4 : Bool := false
  /-- The controllers' part of the sequence is still to run in this command (R367). -/
  ctl : Bool := false
  deriving DecidableEq, Repr

/-- Something the management port has sent to the host, in order (R280, R294, R335). -/
inductive PcieOut where
  | write (addr : BitVec 64) (data : List (BitVec 8))
  | msi (addr : BitVec 64) (data : BitVec 32)
  deriving DecidableEq, Repr

/-- One entry of the MSI-X table (R294). -/
structure MsixEntry where
  addr : BitVec 64 := 0
  data : BitVec 32 := 0
  masked : Bool := true
  deriving DecidableEq, Repr

/-- The last completion the management port gave a request (R286, R297); `ep` is a read completion marked EP (R296). -/
inductive Cpl where
  | success (data : List (BitVec 8))
  | ep (data : List (BitVec 8))
  | ur
  | ca
  | poisoned
  | none_
  deriving DecidableEq, Repr

/-- What the AER header log keeps of a request (R288): which BAR, write or read, its offset and its first byte enables. -/
structure ReqHdr where
  bar2 : Bool
  wr : Bool
  off : Nat
  be : Nat
  deriving DecidableEq, Repr

/-- A BAR2 request in its stream (R295, R296): the stack address of its first byte and EN, as they stood in the tick of its acceptance,
its offset in the window, and for a write its bytes with their enables. -/
structure B2Req where
  wr : Bool
  en : Bool
  a : Nat
  off : Nat
  n : Nat
  data : List (BitVec 8) := []
  be : List Bool := []
  poisoned : Bool := false
  deriving DecidableEq, Repr

/-- The PCI Express function (R276 to R298). -/
structure Pcie where
  cfgReady : Bool := false
  linkUp : Bool := false
  /-- Speed in tenths of GT/s and width of the trained link, 0 while it is down (R277). -/
  speed : Nat := 0
  width : Nat := 0
  d3hot : Bool := false
  mse : Bool := false
  bme : Bool := false
  msixEn : Bool := false
  fmask : Bool := false
  msix : Tab MsixEntry := []
  pba : BitVec 8 := 0
  regErr : Sq := {}
  regErrInfo : BitVec 32 := 0
  regErrCnt : Nat := 0
  b2Base : BitVec 64 := 0
  b2En : Bool := false
  cpl : Cpl := .none_
  /-- Errors reported to AER, by their KIND, 0 for one that REG_ERR does not log; the header of the first (R288). -/
  aer : List Nat := []
  aerHdr : Option ReqHdr := none
  /-- BAR2 requests of the stream that wait for a cluster in a frequency step (R155, R296). -/
  b2 : List B2Req := []
  out : List PcieOut := []
  deriving DecidableEq, Repr

end Sys2Proof.Machine
end

