-- ==== Sys2Proof/Machine/PortData.lean ====
section
/-! DEFINITION. The plain data of one Gallery port: link and training (R71 to R79, R97), lanes, swaps and lane
BIST (R81 to R96), frames, tags and credits (R108 to R112, R122 to R126, R133), link retry (R113 to R115)
and relay (R127 to R132). -/

namespace Sys2Proof.Machine

/-- The link states of R71; the number is GAL_LINK.LSTATE. -/
inductive LState where
  | off | down | train | active | failed | test
  deriving DecidableEq, Repr

/-- The training stages of R73. -/
inductive Stage where
  | detect | phase | adapt | ident | deskew | laneTest | param
  deriving DecidableEq, Repr

/-- The spare mapping of one direction (GAL_MAP, R97): the lane each spare carries, bad marks, reversal. -/
structure LaneMap where
  s0 : Option Nat := none
  s0Bad : Bool := false
  s1 : Option Nat := none
  s1Bad : Bool := false
  rev : BitVec 3 := 0
  deriving DecidableEq, Repr

/-- What R82 to R84 have in progress on a direction. -/
inductive SwapKind where
  | swap | restore | repair
  deriving DecidableEq, Repr

/-- How far a swap, restore or repair has come: requested of the host, mirroring, waiting for a marker. -/
inductive SwapPhase where
  | requested | mirroring | marker
  deriving DecidableEq, Repr

/-- A swap, restore or repair in progress (R82 to R85). -/
structure Swap where
  kind : SwapKind
  lane : Nat
  spare : Spare
  phase : SwapPhase
  deriving DecidableEq, Repr

/-- The lane BIST slice in progress (R95): its position, the tick it began in, whether a spare stands in, the
host's count for an up lane. -/
structure LaneSlice where
  pos : Nat
  start : Nat
  spare : Option Spare
  inTest : Bool
  errors : Option Nat := none
  /-- The lane passed and its restore is in progress. -/
  restoring : Bool := false
  deriving DecidableEq, Repr

/-- Link state and training of a port (R71 to R79, R87 to R91, R97). -/
structure Link where
  lstate : LState := .off
  stage : Stage := .detect
  stageTicks : Nat := 0
  attempt : Nat := 0
  failCause : Nat := 0
  dnOcc : Bool := false
  upOcc : Bool := false
  testEn : Bool := false
  retrainReq : Bool := false
  upIdle : Nat := 512
  upOccEn : Bool := true
  sig : BitVec 78 := 0
  levt : Sq := {}
  cntRetrain : Nat := 0
  cntRepair : Nat := 0
  cntLos : Nat := 0
  cntBskip : Nat := 0
  /-- PARAM has passed and the first ACTIVE up frame leaves at the next boundary (R79). -/
  goActive : Bool := false
  /-- The tick of the first ACTIVE frame since the last entry, for the lifting of cause LINK (R122). -/
  activeTick : Option Nat := none
  /-- The frame-clock PLL has lost lock, so that the port cannot frame (R91). -/
  noClk : Bool := false
  deriving DecidableEq, Repr

/-- The pattern checker of one down lane (R93): its register, the run of correctly predicted bits, the last 64 comparisons
(a 1 marks a wrong bit), whether it is synchronised, and the pattern frame that a WALK checker expects next. -/
structure Checker where
  reg : BitVec 31 := 0
  run : Nat := 0
  wrong : BitVec 64 := 0
  sync : Bool := false
  frame : Nat := 0
  deriving DecidableEq, Repr

/-- Lanes of a port (R68, R77 to R85, R93 to R97). `skewDn` is the delay in UI by which DESKEW found each physical down lane to
arrive, `scrUp` and `scrDn` count the frames since the first ACTIVE frame, which fix the scrambler states (R80), and `checkers` and
`pgFrame` are what the checkers and the generators of R93 hold. -/
structure Lanes where
  mapDn : LaneMap := {}
  mapUp : LaneMap := {}
  force : BitVec 32 := 0
  swapDn : Option Swap := none
  swapUp : Option Swap := none
  outDn : List Nat := []
  outUp : List Nat := []
  /-- Lanes that lost signal and wait for the repair in progress (R83, R84). -/
  waitRepair : List Nat := []
  slice : Option LaneSlice := none
  /-- The position whose slice waits for the domain of the test logic (R427). -/
  bistWait : Option Nat := none
  pgMode : Nat := 0
  pgLane : Nat := 0
  pgClr : Bool := false
  pcSync : BitVec 78 := 0
  pcErr : Tab Nat := []
  pcBits : Tab Nat := []
  pcFail : BitVec 78 := 0
  checkers : Tab Checker := []
  pgFrame : Nat := 0
  skewDn : List (Option Nat) := []
  scrUp : Nat := 0
  scrDn : Nat := 0
  bistPos : Nat := 0xFF
  bistPass : Bool := false
  bistSkipped : Bool := false
  bistErrors : Nat := 0
  deriving DecidableEq, Repr

/-- The kind of a request, which fixes its response opcode (R102). -/
inductive Kind where
  | read | write | atomic | fence | doorbell | relayed | unknown
  deriving DecidableEq, Repr

/-- The outcome of a tag as R123 records it. -/
inductive TagOut where
  | notPerformed | performed | partly
  deriving DecidableEq, Repr

/-- Where a tag stands (R108, R123, R126). -/
inductive TagSt where
  | free | held | issued | answered | recover
  deriving DecidableEq, Repr

/-- The tick bound of an accepted request: the tick of acceptance and the S, U and A of R40. -/
structure Bound where
  accepted : Nat
  s : Nat := 0
  u : Nat := 0
  a : Nat := 0
  deriving DecidableEq, Repr

/-- A transaction tag of a port (R108, R123, R126). -/
structure TagRec where
  st : TagSt := .free
  kind : Kind := .read
  sect : Nat := 0
  arr : Nat := 0
  stack : StackId := 0
  orig : StackId := 0
  writes : Bool := false
  outcome : TagOut := .notPerformed
  bound : Option Bound := none
  throttled : Bool := false
  /-- Holds a source and a stack-wide count (R190). -/
  holds : Bool := false
  /-- ISSUED when the port was last fenced, and not done since (R122 DRAINED, R123): such a tag may already stand in RECOVER
  where the link has left ACTIVE (R125). -/
  fenced : Bool := false
  deriving DecidableEq, Repr

/-- A request as received: its outer opcode, fields and number of arrival at the port (R112, R120). -/
structure Req where
  opc : BitVec 8
  f : ReqF
  arr : Nat := 0
  deriving DecidableEq, Repr

/-- The content of an up frame (R100 to R102), without FSEQ, ACK, THR and CRC, which are set at each
transmission (R113). -/
inductive UpBody where
  /-- The response layout: opcode, TAG, SECT, STACK, ORIG, STATUS, DETAIL, further tags, data. -/
  | rsp (opc : BitVec 8) (tag : Tag) (sect : Nat) (stack orig : StackId) (status detail : Nat)
      (xtags : List Tag) (data : List Byte)
  | credits (c : List Nat)
  | unfence (n : Nat)
  | laneCtl (action : Nat) (dir : Dir) (lane : Nat) (spare : Spare)
  | relay (rtag : Tag) (sect : Nat) (stack orig : StackId) (addr : Addr) (mask : BitVec 16)
      (operand : BitVec 32) (poison : Bool) (data : List Byte)
  /-- The IDLE frame that R101 sends to carry a changed THR. -/
  | idle
  /-- NAK with OPERAND[9:0] = E (R114). -/
  | nak (e : Fseq)
  deriving DecidableEq, Repr

/-- One transmission of an up frame (R113): the FSEQ, the ACK and the THR that it carries, and its content. -/
structure UpFrame where
  fseq : Fseq
  ack : Fseq
  thr : Bool
  body : UpBody
  deriving DecidableEq, Repr

/-- What the transmitter of an ACTIVE port has put on its up lanes (R84, R88, R98): a frame, a frame-long block of OCCULT or
REPAIR words on all lanes, or a wake burst. The IDLE frames between them are not listed. -/
inductive UpSent where
  | frame (f : UpFrame)
  | occult
  | repair
  | wake
  deriving DecidableEq, Repr

/-- A frame of the replay buffer (R113): its FSEQ, content and the tick of its latest transmission (R39). -/
structure TxFrame where
  fseq : Fseq
  body : UpBody
  sent : Nat
  deriving DecidableEq, Repr

/-- A performed write tag held for coalescing (R110). -/
structure Coal where
  tag : Tag
  sect : Nat
  status : Nat
  detail : Nat
  deriving DecidableEq, Repr

/-- Link retry of a port (R113 to R115). -/
structure Retry where
  rxE : Fseq := 0
  nakWait : Bool := false
  naks : Nat := 0
  ackOwed : Bool := false
  /-- A NAK is owed and has not left yet (R114). -/
  nakOwed : Bool := false
  txNext : Fseq := 0
  replay : List TxFrame := []
  unsent : List UpBody := []
  episodes : Nat := 0
  coal : List Coal := []
  deriving DecidableEq, Repr

/-- GAL_ERR_INFO (R133). -/
structure ErrInfo where
  opc : BitVec 8 := 0
  tag : Tag := 0
  detail : Nat := 0
  protocol : Bool := false
  deriving DecidableEq, Repr

/-- A RELAY tag (R130, R132). -/
inductive RtSt where
  | free | outstanding | zombie
  deriving DecidableEq, Repr

/-- What an outstanding RELAY serves (R130 to R132, R236): serving stack, stream and its elements. -/
structure RTag where
  st : RtSt := .free
  stack : StackId := 0
  stream : Nat := 0
  elems : List Nat := []
  sent : Nat := 0
  iopc : BitVec 8 := 0
  addr : Addr := 0
  mask : BitVec 16 := 0
  deriving DecidableEq, Repr

/-- Fencing, tags, class queues and credits of a port (R108 to R112, R117 to R126, R133). -/
structure Frames where
  fLink : Bool := false
  fFault : Bool := false
  fProto : Bool := false
  fMgr : Bool := false
  fStack : Bool := false
  tags : Tab TagRec := []
  cq : Tab (List Req) := []
  arr : Nat := 0
  cred : Tab Nat := []
  credOld : Tab Nat := []
  /-- FSEQ of the CREDITS frame that no ACK covers yet. -/
  credFrame : Bool := false
  fevt : Sq := {}
  cntCrc : Nat := 0
  cntReplay : Nat := 0
  cntBadreq : Nat := 0
  err : ErrInfo := {}
  framesDn : BitVec 32 := 0
  framesUp : BitVec 32 := 0
  /-- Frames sent in the current tick; IDLE frames fill the rest of it (R98, R133). -/
  upTick : Nat := 0
  /-- THR in the up frames (R101). -/
  thrSent : Bool := false
  deriving DecidableEq, Repr

/-- Relay of a port (R130 to R133). -/
structure Relay where
  tmo : Nat := 4096
  en : Bool := false
  credit : Nat := 0
  cntTmo : Nat := 0
  rtags : Tab RTag := []
  deriving DecidableEq, Repr

/-- One Gallery port. -/
structure Port where
  link : Link := {}
  lane : Lanes := {}
  fr : Frames := {}
  rty : Retry := {}
  rly : Relay := {}
  /-- What the up lanes have carried, oldest first. -/
  tx : List UpSent := []
  deriving DecidableEq, Repr

/-- The credit of class `c` after reset (R133). -/
def credReset (c : Nat) : Nat := if c = 0 then 512 else 0

/-- The port's frames as they are after reset, with the credit of class 0 at 512. -/
def Port.reset : Port := { fr := { cred := [(0, 512)] } }

end Sys2Proof.Machine
end

