-- ==== Sys2Proof/Machine/ChanData.lean ====
section
/-! DEFINITION. The plain data of the channel controllers and clusters (R134 to R162), of stored-data integrity
and in-field repair (R163 to R187), and of the sector classes (R188 to R204). -/

namespace Sys2Proof.Machine

/-- Who issued an access to a channel (R188). -/
inductive Src where
  | port (p tag : Nat)
  | tender (t stream k : Nat)
  | bar2
  deriving DecidableEq, Repr

/-- The source-side crossbar link of an access (R17): a port's own, or the link of Tender cluster `t` that serves channels whose number
is the same modulo 4.
DESIGN CHOICE, log entry 67. -/
def Src.xlink (ch : Nat) : Src → Nat
  | .port p _ => p
  | .tender t _ _ => 32 + 4 * t + ch % 4
  | .bar2 => 48

/-- The operations of a remote accumulation (R129). -/
inductive RaccOp where
  | add | min | max | fw
  deriving DecidableEq, Repr

/-- Element types; the number is the code of R129 and R209. -/
inductive Ty where
  | fp64 | fp32 | int64 | uint64 | int32
  deriving DecidableEq, Repr

/-- What an access does to its chunk (R105, R106, R129, R223). `en` enables 8-byte units of the chunk for a write and 4-byte
halves of them for an accumulation; `data` lists
the chunk's bytes. -/
inductive AccOp where
  | read
  | write (poison : Bool) (en : BitVec 16) (data : List (BitVec 8))
  | atomic (opc : BitVec 8) (unit : Nat) (x y : Word64)
  | racc (op : RaccOp) (ty : Ty) (en : BitVec 32) (data : List (BitVec 8))
  | put4 (unit : Nat) (hi : Bool) (v : Word32)
  /-- FINALIZE of the fixed-window element at 8-byte unit `unit`: mode 0 IN_PLACE, 1 COPY_OUT, 2 DRAIN (R234). -/
  | fin (mode unit dst : Nat)
  deriving DecidableEq, Repr

/-- An entry of the transaction queue (R136), or of the crossbar link before it. `need` has bit g set while granule g
of the chunk is still to be served; the results gather in `data` and the poison bits. -/
structure Entry where
  id : Nat
  src : Src
  cls : Nat
  guar : Bool := false
  chunk : Nat
  op : AccOp
  need : BitVec 2
  /-- The request is one granule whose bytes travel in bytes 0 to 63 of its frame: RD64, WR64, an atomic (R104, R105). -/
  low : Bool := false
  /-- The tick of acceptance (R39), and of entry into the queue (R139); S and A of R40 so far. -/
  accepted : Nat := 0
  entered : Nat := 0
  s : Nat := 0
  a : Nat := 0
  /-- The new bytes of granules that an atomic or accumulation has read and computed, whose write is still to issue. -/
  held : List (BitVec 8) := []
  heldG : BitVec 2 := 0
  data : List (BitVec 8) := []
  old : Word64 := 0
  poisonBits : BitVec 2 := 0
  unc : Bool := false
  /-- Granules written so far (R123 partly performed). -/
  applied : BitVec 2 := 0
  /-- Flags of R226 that the controller reports, and whether the region check of R233 and R237 failed. -/
  flags : BitVec 6 := 0
  badRegion : Bool := false
  /-- DRAIN's write of DST[i] was refused, and nothing was cleared (R234): 1 for a poisoned granule, 2 for a retired one. -/
  refused : Nat := 0
  deriving DecidableEq, Repr

/-- How a finished entry ended. -/
inductive Fin_ where
  | performed | retired | notReady
  /-- Left by a controller that entered self-refresh for lightship mode or a reset (R123, R368). -/
  | stopped
  deriving DecidableEq, Repr

/-- A finished entry whose answer has not yet been taken. -/
structure Done where
  e : Entry
  how : Fin_
  deriving DecidableEq, Repr

/-- One bank as its controller and its die keep it (R141, R143, R145, R147). -/
structure Bank where
  row : Option Nat := none
  p : Nat := 2
  l : Option Nat := none
  c : Bool := false
  /-- No column command has reached the open row yet (DCC_HIT). -/
  fresh : Bool := false
  lastUse : Nat := 0
  raa : Nat := 0
  blocked : Bool := false
  tracker : List (Nat × Nat) := []
  floor : Nat := 0
  /-- Rows queued for RFMT at the start of the refresh window (R150), and whether the window's clear is due. -/
  flush : List Nat := []
  clearDue : Bool := false
  ptr : Nat := 0
  rdyAct : Nat := 0
  rdyCol : Nat := 0
  rdyPre : Nat := 0
  /-- The end of the last refresh of the bank (tRFCpb, tRFM). -/
  rdyRef : Nat := 0
  deriving DecidableEq, Repr

/-- One slice (R143, R153, R158, R160). -/
structure Slice where
  sr : Bool := true
  srDoubled : Bool := false
  srSince : Nat := 0
  alert : Bool := false
  alertsTick : Nat := 0
  alertsRound : Nat := 0
  acts : List Nat := []
  rdy : Nat := 0
  deriving DecidableEq, Repr

/-- The command codes of DCC_PAR_INFO (R162). -/
inductive DramCmd where
  | act | pre | prea | refpb | rfmt | sre | srx | pclr | mrr | rdc | wrc
  deriving DecidableEq, Repr

/-- What a scrub slot does (R173, R182): a rewrite, a queued visit, a re-read, a step of a mooring move, or the chunk of the
pointer. -/
inductive ScrubJob where
  | rewrite (g : Nat) (d : List (BitVec 8))
  | visit (g : Nat)
  | reread (g : Nat)
  | move (g entry : Nat)
  | pointer (chunk : Nat)
  deriving DecidableEq, Repr

/-- A command as the retry buffer keeps it (R159): when it was issued, its die, bank and row or column, the scrub job that a column
command serves, and the die's eight banks and slice as they were before it, where they stay when its parity was wrong (R158). -/
structure Issued where
  clk : Nat
  cmd : DramCmd
  die : Nat
  bank : Nat := 0
  arg : Nat := 0
  job : Option ScrubJob := none
  banks : List Bank := []
  slice : Slice := {}
  deriving DecidableEq, Repr

/-- A column command in flight: its data are taken, or its write stands, at clock `due`, later than the alert that its parity could
raise (R143, R158). -/
structure Flight where
  due : Nat
  rd : Bool
  clk : Nat
  bank : Nat
  row : Nat
  col : Nat
  errs : List SymErr := []
  job : Option ScrubJob := none
  /-- The entry that a WRC writes for. -/
  entry : Option Nat := none
  deriving DecidableEq, Repr

/-- A parity alert on its way (R158): the die, the clock of its arrival, and whether it was injected. -/
structure AlertDue where
  die : Nat
  clk : Nat
  injected : Bool
  deriving DecidableEq, Repr

/-- A maintenance command of the current tick (R32, R138 order 2). -/
inductive Maint where
  | srePrea (die : Nat)
  | srx (die : Nat)
  | refpb (bank : Nat)
  | rfmt (bank : Nat)
  | scrubSlot
  deriving DecidableEq, Repr

/-- The 64-bit performance counters of a channel (R162). -/
structure PerfCnt where
  act : Nat := 0
  col : Nat := 0
  hit : Nat := 0
  deriving DecidableEq, Repr

/-- Queue, schedule and dies of a channel (R134 to R162). -/
structure Sched where
  queue : List Entry := []
  link : List Entry := []
  done : List Done := []
  nextId : Nat := 0
  writeMode : Bool := false
  clk : Nat := 0
  /-- The clock of the last column command, its die, bank group and direction; ends of the last read and write data. -/
  lastCol : Nat := 0
  lastDie : Nat := 0
  lastGroup : Nat := 0
  lastRead : Bool := false
  readEnd : Nat := 0
  writeEnd : Nat := 0
  banks : Tab Bank := []
  slices : Tab Slice := []
  doubled : BitVec 16 := 0
  maint : List Maint := []
  winEnd : Nat := 0
  retry : List Issued := []
  /-- A replay episode: the commands still to reissue, in order, and the clock from which they may, with the original spacing from the
  first of them (R159). -/
  replay : List Issued := []
  replayFrom : Nat := 0
  replayBase : Nat := 0
  flights : List Flight := []
  alertDue : Option AlertDue := none
  /-- Row commands that the scrubber has used in this tick (R32). -/
  scrubRows : Nat := 0
  emptyTicks : Nat := 0
  /-- The queue has held a request in this tick (R152). -/
  busy : Bool := false
  overran : Bool := false
  /-- The source link that entered a request last (R20). -/
  turn : Nat := 0
  cnt : PerfCnt := {}
  /-- ACT and column commands to each die in the current round (R380). -/
  dieAct : Tab Nat := []
  dieCol : Tab Nat := []
  parCnt : Nat := 0
  parInfo : Word32 := 0
  rfmCnt : Nat := 0
  rfmBlock : Nat := 0
  /-- Places in use by class (R190), and classes without a guarantee that the channel holds (R193). -/
  places : Tab Nat := []
  holds : BitVec 8 := 0
  deriving DecidableEq, Repr

/-- The state of the fill of a merge entry (R169). -/
inductive Fill where
  | waiting
  | base (data : List (BitVec 8)) (corrected : Bool)
  /-- POISONED; `write` when the granule is to be written as poisoned on closing. -/
  | poisoned (write : Bool)
  deriving DecidableEq, Repr

/-- An entry of the merge buffer (R168). -/
structure MergeE where
  gran : Nat
  born : Nat
  data : List (BitVec 8) := []
  cover : BitVec 8 := 0
  fill : Fill := .waiting
  /-- It is to close as soon as its fill has returned and commands may go to its slice (R171, R172). -/
  due : Bool := false
  /-- It closes to make room (R171, MERGE_EARLY). -/
  early : Bool := false
  deriving DecidableEq, Repr

/-- A TSV spare (R175, R177). -/
inductive SpareSt where
  | free
  | carries (pos : Nat)
  | withdrawn
  deriving DecidableEq, Repr

/-- A mooring entry (R181). -/
structure Moor where
  source : Nat
  bank : Nat
  row : Nat
  mask : BitVec 16
  deriving DecidableEq, Repr

/-- The entry number of a move that serves no mooring entry: it copies a row to its redundant row (R413). -/
def latchMove : Nat := 32

/-- A mooring move in progress (R182, R184, R185), or the activation of a row repair (R413): `todo` lists the granules still to copy, each in a scrub slot; a copied granule is
written at both places until the boundary at which the move takes effect. -/
structure Move where
  entry : Nat
  source : Nat
  bank : Nat
  row : Nat
  mask : BitVec 16
  /-- The first granule moved, for the record. -/
  gran : Nat
  /-- The entry that a move under R184 frees; a MOORING_FREE copies back instead. -/
  freeOld : Option Nat := none
  back : Bool := false
  todo : List Nat := []
  deriving DecidableEq, Repr

/-- A mooring candidate (R182): the granule, the position of its error bits where it is one, and the tick in which it became one. -/
structure Cand where
  gran : Nat
  pos : Option Nat
  tick : Nat
  deriving DecidableEq, Repr

/-- The counters of R186. -/
structure IntegCnt where
  ce : Nat := 0
  ue : Nat := 0
  poisonRd : Nat := 0
  scrubFix : Nat := 0
  scrubPass : Nat := 0
  mergeFull : Nat := 0
  mergeRmw : Nat := 0
  mergeEarly : Nat := 0
  tsvSpared : Nat := 0
  moored : Nat := 0
  deriving DecidableEq, Repr

/-- A retirement that waits for its boundary (R178). -/
structure Retire where
  slices : BitVec 16 := 0
  channel : Bool := false
  /-- A data-class position to spare or declare, and a command-class TSV to spare, at the boundary (R175, R177). -/
  data : List Nat := []
  cmd : List (Nat × BitVec 16) := []
  deriving DecidableEq, Repr

/-- Stored-data integrity and in-field repair of a channel (R163 to R187). -/
structure Integ where
  merge : List MergeE := []
  mergeNext : Nat := 0
  scrubPtr : Nat := 0
  visits : List Nat := []
  rereads : List Nat := []
  rewrites : List (Nat × List (BitVec 8)) := []
  cand : List Cand := []
  /-- Positions spared or declared in the current round, with the tick (R182). -/
  repaired : List (Nat × Nat) := []
  teErr : Tab Nat := []
  /-- Suspected TSVs and the tick of the suspicion, and the tick in which a command TSV was last tested (R174). -/
  suspects : List (Nat × Nat) := []
  cmdTest : Nat := 0
  spareD : Tab SpareSt := []
  spareC : Tab SpareSt := []
  failing : List Nat := []
  declared : List Nat := []
  retSlices : BitVec 16 := 0
  retChan : Bool := false
  pend : Retire := {}
  mooring : Tab (Option Moor) := []
  moves : List Move := []
  badSpare : List Nat := []
  cnt : IntegCnt := {}
  ceTick : Nat := 0
  ceFirst : BitVec 64 := 0
  rowRepair : List (Nat × Nat × Nat) := []
  init : Bool := false
  deriving DecidableEq, Repr

/-- One channel. -/
structure Chan where
  q : Sched := {}
  i : Integ := {}
  deriving DecidableEq, Repr

/-- The stages of a cluster's start-up (R433). -/
inductive Stage4 where
  | off | clock | repair | tsvs | dies | up | failed
  deriving DecidableEq, Repr

/-- One controller cluster (R154 to R162, R433). -/
structure Clu where
  step : Nat := 0
  target : Nat := 0
  stepTick : Nat := 0
  stepTo : Nat := 0
  /-- The step before the one in progress, for the effective step of R197. -/
  stepFrom : Nat := 0
  held : Option Nat := none
  sinceEnd : Nat := 8
  mgrTarget : Nat := 0
  limit : Nat := 0
  t1Done : Bool := false
  t3Done : Bool := false
  /-- The TSV PHYs did not lock or calibrate in T2. -/
  phyBad : Bool := false
  abandoned : Bool := false
  stage : Stage4 := .off
  stageTicks : Nat := 0
  /-- The running stage has done its work and ends at the coming boundary (R433). -/
  stageEnded : Bool := false
  restarted : Bool := false
  wrHi : Nat := 48
  wrLo : Nat := 16
  predEn : Bool := true
  openMax : Nat := 64
  srIdle : Nat := 16
  stepCnt : Nat := 0
  stepFail : Nat := 0
  evt : Sq := {}
  cap : Sq := {}
  clkStop : Bool := true
  /-- Switched off by CLUSTER_POWER as soon as its queued requests are done (R322). -/
  draining : Bool := false
  deriving DecidableEq, Repr

/-- The cluster is in T1, T2 or T3 of a step (R155); 4 stands for the tick after T3, in which it serves at the new step. -/
def Clu.inStep (u : Clu) : Bool := u.stepTick == 1 || u.stepTick == 2 || u.stepTick == 3

/-- A fixed-window region (R228): base address, size in 4 KiB pages, unit exponent. -/
structure Region where
  base : Nat
  pages : Nat
  e : Int
  deriving DecidableEq, Repr

/-- The sector classes (R188 to R204). -/
structure Sec where
  port : Tab Nat := []
  tnd : Tab Nat := []
  stk : Tab Nat := []
  adm : Tab Nat := []
  eff : Tab Nat := []
  dMin : Nat := 6
  nLive : Nat := 32
  num : Nat := 0
  den : Nat := 0
  k : Nat := 0
  hwm : Nat := 112
  evt : Sq := {}
  holdCnt : Nat := 0
  out : Tab Nat := []
  /-- Counts against a source budget: source 0 to 31 a port, 32 + t a Tender cluster; key 8·source + class. -/
  srcOut : Tab Nat := []
  commit : Tab Nat := []
  /-- An admitted set took effect at this boundary; the ready clusters and the throttle level as of the last one (R201). -/
  admitted : Bool := false
  seenReady : BitVec 8 := 0
  seenK : Nat := 0
  /-- The effective steps of the clusters as of the last boundary (R201). -/
  seenStep : Tab Nat := []
  /-- The source whose request was last committed to each channel (R192). -/
  turn : Tab Nat := []
  deriving DecidableEq, Repr

end Sys2Proof.Machine
end

