-- ==== Sys2Proof/Machine/Float.lean ====
section
/-! DEFINITION. Element arithmetic (R211 to R214) and fixed-window accumulation (R229 to R234). A finite floating-point
value is an exact dyadic number; the only rounding is the one back into the format. -/

namespace Sys2Proof.Machine

/-- A floating-point value: NaN, an infinity, or (-1)^neg · m · 2^e. -/
inductive Fp where
  | nan
  | inf (neg : Bool)
  | fin (neg : Bool) (m : Nat) (e : Int)
  deriving DecidableEq, Repr

/-- A binary format: bits of the stored fraction and of the exponent. -/
structure Fmt where
  frac : Nat
  exp : Nat
  deriving DecidableEq, Repr

def f64 : Fmt := { frac := 52, exp := 11 }
def f32 : Fmt := { frac := 23, exp := 8 }

/-- The exponent of the unit in the last place of the format's subnormal numbers. -/
def Fmt.emin (f : Fmt) : Int := 2 - (2 ^ (f.exp - 1) : Nat) - f.frac

/-- The value of the encoded number `b` (R211, R212). -/
def Fmt.decode (f : Fmt) (b : Nat) : Fp :=
  let fr := b % 2 ^ f.frac
  let ex := b / 2 ^ f.frac % 2 ^ f.exp
  let neg := b / 2 ^ (f.frac + f.exp) % 2 = 1
  if ex = 2 ^ f.exp - 1 then (if fr = 0 then .inf neg else .nan)
  else if ex = 0 then .fin neg fr f.emin
  else .fin neg (fr + 2 ^ f.frac) (f.emin + (ex - 1 : Nat))

/-- `m` · 2^-r rounded to an integer, ties to even. -/
def roundShift (m r : Nat) : Nat :=
  let n := m / 2 ^ r
  let rem := m % 2 ^ r
  let half := 2 ^ r / 2
  if r = 0 then m
  else if rem > half || (rem = half && n % 2 = 1) then n + 1 else n

/-- `m` · 2^s rounded to an integer, ties to even. -/
def scaleRound (m : Nat) (s : Int) : Nat := if s ≥ 0 then m * 2 ^ s.toNat else roundShift m (-s).toNat

/-- The canonical quiet NaN (R212). -/
def Fmt.nan (f : Fmt) : Nat := (2 ^ f.exp - 1) * 2 ^ f.frac + 2 ^ (f.frac - 1)

def Fmt.infinity (f : Fmt) (neg : Bool) : Nat :=
  (if neg then 2 ^ (f.frac + f.exp) else 0) + (2 ^ f.exp - 1) * 2 ^ f.frac

/-- The encoding of a value, rounded to nearest even, with overflow to infinity and gradual underflow (R212). -/
def Fmt.encode (f : Fmt) : Fp → Nat
  | .nan => f.nan
  | .inf neg => f.infinity neg
  | .fin neg m e =>
    let sign := if neg then 2 ^ (f.frac + f.exp) else 0
    if m = 0 then sign
    else
      let len : Int := (Nat.log2 m + 1 : Nat)
      let q := max (e + len - (f.frac + 1)) f.emin
      let n := scaleRound m (e - q)
      let nq : Nat × Int := if n = 2 ^ (f.frac + 1) then (2 ^ f.frac, q + 1) else (n, q)
      if nq.1 < 2 ^ f.frac then sign + nq.1
      else
        let ex := (nq.2 - f.emin + 1).toNat
        if ex ≥ 2 ^ f.exp - 1 then f.infinity neg
        else sign + ex * 2 ^ f.frac + (nq.1 - 2 ^ f.frac)

/-- The signed integer of a finite value scaled to the exponent `e0`, which must not exceed its own. -/
def signedAt (neg : Bool) (m : Nat) (e e0 : Int) : Int :=
  let v : Int := (m * 2 ^ (e - e0).toNat : Nat)
  if neg then -v else v

/-- The exact sum (R212): infinities of opposite sign give NaN; an exact zero is +0 unless both addends are -0. -/
def Fp.add : Fp → Fp → Fp
  | .nan, _ => .nan
  | _, .nan => .nan
  | .inf a, .inf b => if a = b then .inf a else .nan
  | .inf a, .fin .. => .inf a
  | .fin .., .inf b => .inf b
  | .fin na ma ea, .fin nb mb eb =>
    let e0 := min ea eb
    let v := signedAt na ma ea e0 + signedAt nb mb eb e0
    if v = 0 then .fin (na && nb && ma = 0 && mb = 0) 0 e0 else .fin (decide (v < 0)) v.natAbs e0

/-- The exact product. -/
def Fp.mul : Fp → Fp → Fp
  | .nan, _ => .nan
  | _, .nan => .nan
  | .inf a, .inf b => .inf (a != b)
  | .inf a, .fin b m _ => if m = 0 then .nan else .inf (a != b)
  | .fin a m _, .inf b => if m = 0 then .nan else .inf (a != b)
  | .fin a m e, .fin b n g => .fin (a != b) (m * n) (e + g)

/-- `a` < `b` in the total order of numbers in which -0 is less than +0 (R214). -/
def Fp.below : Fp → Fp → Bool
  | .nan, _ => false
  | _, .nan => false
  | .inf a, .inf b => a && !b
  | .inf a, .fin .. => a
  | .fin .., .inf b => !b
  | .fin na ma ea, .fin nb mb eb =>
    let e0 := min ea eb
    let x := signedAt na ma ea e0
    let y := signedAt nb mb eb e0
    x < y || (x = 0 && y = 0 && na && !nb)

/-- IEEE equality (R214): -0 equals +0, NaN equals nothing. -/
def Fp.eq : Fp → Fp → Bool
  | .inf a, .inf b => a == b
  | .fin na ma ea, .fin nb mb eb =>
    let e0 := min ea eb
    signedAt na ma ea e0 == signedAt nb mb eb e0
  | _, _ => false

/-- IEEE less-than. -/
def Fp.lt (a b : Fp) : Bool := a.below b && !(a.eq b)

/-- Flags of R226. -/
def fNAN : BitVec 6 := 1
def fINF : BitVec 6 := 2
def fOVF : BitVec 6 := 4
def fUNDER : BitVec 6 := 8
def fPOISON : BitVec 6 := 16
def fSKIP : BitVec 6 := 32

/-- The flags for a value read or produced (R226). -/
def Fp.flags : Fp → BitVec 6
  | .nan => fNAN
  | .inf _ => fINF
  | .fin .. => 0

/-- The bytes of an element (R208). -/
def Ty.size : Ty → Nat
  | .fp64 | .int64 | .uint64 => 8
  | .fp32 | .int32 => 4

def Ty.isFp : Ty → Bool
  | .fp64 | .fp32 => true
  | _ => false

def Ty.fmt : Ty → Fmt
  | .fp32 => f32
  | _ => f64

def Ty.signed : Ty → Bool
  | .int64 | .int32 => true
  | _ => false

/-- The integer an element of an integer type stands for. -/
def Ty.toInt (t : Ty) (v : Nat) : Int :=
  let n := 8 * t.size
  let v := v % 2 ^ n
  if t.signed && v ≥ 2 ^ (n - 1) then (v : Int) - (2 ^ n : Nat) else v

/-- The element of an integer type nearest modulo its width (R213). -/
def Ty.wrap (t : Ty) (v : Int) : Nat := (v % ((2 ^ (8 * t.size) : Nat) : Int)).toNat

/-- ADD, MIN or MAX of two elements of type `t` (R212 to R214), with the flags it raises. -/
def Ty.combine (t : Ty) (op : RaccOp) (a b : Nat) : Nat × BitVec 6 :=
  if t.isFp then
    let x := t.fmt.decode a
    let y := t.fmt.decode b
    let r : Fp := match op with
      | .min => if x = .nan || y = .nan then .nan else if x.below y then x else y
      | .max => if x = .nan || y = .nan then .nan else if x.below y then y else x
      | _ => x.add y
    let n := t.fmt.encode r
    (n, x.flags ||| y.flags ||| (t.fmt.decode n).flags)
  else
    let x := t.toInt a
    let y := t.toInt b
    match op with
    | .min => (t.wrap (min x y), 0)
    | .max => (t.wrap (max x y), 0)
    | _ => (t.wrap (x + y), 0)

/-! ### Fixed-window elements -/

/-- The states of a fixed-window element (R229). -/
inductive Fw where
  | val (v : Int)
  | satPos
  | satNeg
  | nan
  deriving DecidableEq, Repr

/-- The element that 128 bits hold (R229). -/
def Fw.decode (b : BitVec 128) : Fw :=
  match b.getLsbD 127, b.getLsbD 126 with
  | false, true => if b = BitVec.ofNat 128 (2 ^ 127 - 1) then .satPos else .nan
  | true, false => if b = BitVec.ofNat 128 (2 ^ 127) then .satNeg else .nan
  | _, _ => .val b.toInt

/-- The bits of an element; the NAN state is held as 0b01 with every other bit 0. -/
def Fw.encode : Fw → BitVec 128
  | .val v => BitVec.ofInt 128 v
  | .satPos => BitVec.ofNat 128 (2 ^ 127 - 1)
  | .satNeg => BitVec.ofNat 128 (2 ^ 127)
  | .nan => BitVec.ofNat 128 (2 ^ 126)

/-- An addend in units of 2^E: the rounded integer, or an addend class of R231. -/
inductive Addend where
  | small (q : Int)
  | big (neg : Bool)
  | nan
  deriving DecidableEq, Repr

/-- q = x · 2^-E rounded to the nearest integer, ties to even (R230, R231). -/
def addend (e : Int) : Fp → Addend
  | .nan => .nan
  | .inf neg => .big neg
  | .fin neg m g =>
    let q := scaleRound m (g - e)
    if q < 2 ^ 126 then .small (if neg then -(q : Int) else q) else .big neg

/-- One accumulation into a fixed-window element of a region of unit exponent `e` (R230, R231). -/
def fwAdd (e : Int) (b : BitVec 128) (x : Fp) : BitVec 128 × BitVec 6 :=
  let under : BitVec 6 := match x, addend e x with
    | .fin _ m _, .small q => if m ≠ 0 ∧ q = 0 then fUNDER else 0
    | _, _ => 0
  let r : Fw × BitVec 6 := match Fw.decode b, addend e x with
    | .val v, .small q =>
      let t := v + q
      if -(2 ^ 126 : Int) ≤ t ∧ t < 2 ^ 126 then (.val t, 0)
      else if t > 0 then (.satPos, fOVF) else (.satNeg, fOVF)
    | .val _, .big neg => (if neg then .satNeg else .satPos, fOVF)
    | .satPos, .small _ => (.satPos, 0)
    | .satPos, .big neg => if neg then (.nan, fNAN) else (.satPos, fOVF)
    | .satNeg, .small _ => (.satNeg, 0)
    | .satNeg, .big neg => if neg then (.satNeg, fOVF) else (.nan, fNAN)
    | .nan, _ => (.nan, fNAN)
    | _, .nan => (.nan, fNAN)
  let keep := match Fw.decode b, r.1 with
    | .nan, _ => true
    | .val v, .val w => v = w
    | _, _ => false
  (if keep then b else r.1.encode, r.2 ||| under ||| x.flags)

/-- FINALIZE of one element (R234), rounded once into format `f`. -/
def fwFinal (f : Fmt) (e : Int) (b : BitVec 128) : Nat :=
  match Fw.decode b with
  | .val v => f.encode (.fin (decide (v < 0)) v.natAbs e)
  | .satPos => f.infinity false
  | .satNeg => f.infinity true
  | .nan => f.nan

end Sys2Proof.Machine
end

