-- ==== Sys2Proof/Config.lean ====
section
/-! DEFINITION. What the spec leaves to the implementation, as constants without a body: nothing can prove a value of
one. Each is applied to the operands it depends on, or to the state's counter `free` for a fresh value each time. -/

namespace Sys2Proof.Config

/-- A fresh byte that nothing in the spec fixes. DESIGN CHOICE, log entry 3. -/
opaque freeByte : Nat → BitVec 8
/-- A fresh 64-bit value that nothing in the spec fixes (log entry 3). -/
opaque freeWord : Nat → BitVec 64

/-- Where in its sequence the PRBS of ADAPT and LANETEST stands on an up lane when the stage begins (R73). DESIGN CHOICE, log entry 63. -/
opaque prbsStart : Nat → Nat
/-- What a down lane carries in a frame of a tick in TEST (R93): no row of the table reports it. Arguments: the state's counter, the
port, the lane, the frame. DESIGN CHOICE, log entry 63. -/
opaque testWord : Nat → Nat → Nat → Nat → BitVec 16

/-- Which of its speeds and widths, by their places in the lists of R277, the management link trains at: no row reports it. DESIGN
CHOICE, log entry 19. -/
opaque linkSpeed : Nat → Fin 5
opaque linkWidth : Nat → Fin 3

/-- A word of Keeper's log at a byte offset, at a given time (log entry 9). -/
opaque freeLog : Nat → Nat → BitVec 32

/-- Lantern's coefficients (R380): e_act, e_col and c of a die, a, and g of two dies, as functions of the words of banks 1 and 2
of the Light list, whose layout the spec does not give. DESIGN CHOICE, log entry 26. -/
opaque estAct : List (BitVec 64) → Nat → Rat
opaque estCol : List (BitVec 64) → Nat → Rat
opaque estC : List (BitVec 64) → Nat → Rat
opaque estA : List (BitVec 64) → Rat
opaque estG : List (BitVec 64) → Nat → Nat → Rat
/-- Whether a patch's signature verifies under ROM key `k` over the signed bytes (R308): the keys are not given (log entry
27). -/
opaque sigValid : Nat → List (BitVec 8) → List (BitVec 8) → Bool

/-- Where in its scratch area Keeper keeps the image of a patch (R309), in units of 64 B (log entry 27). -/
opaque patchPlace : Nat → Nat

end Sys2Proof.Config
end

