-- ==== Sys2Proof/Machine/SysData.lean ====
section
/-! DEFINITION. The plain data of Keeper and its mailboxes (R300 to R331), Lantern (R377 to R394), the Light list (R395 to
R418), power and resets (R421 to R437), the retention array (R369) and snapshots (R292, R293). -/

namespace Sys2Proof.Machine

/-! ### Keeper -/

/-- MB_HDR.STATE (R312, R313). -/
inductive MbSt where
  | idle | pending | busy | done | dropped
  deriving DecidableEq, Repr

/-- What a command that Keeper has taken waits for before its response (R316, R321 to R329). -/
inductive Wait where
  /-- Its effect is staged for the coming boundary (R316). -/
  | boundary
  /-- Every named port has reached DOWN (PORT_POWER). -/
  | ports (set : BitVec 32)
  /-- The step that the request leads to; `from_` is the step before it (CLUSTER_STEP). -/
  | step (k from_ : Nat)
  /-- The cluster is ready, or failed (CLUSTER_POWER). -/
  | cluOn (k : Nat)
  /-- The cluster's queued requests complete before it is switched off (CLUSTER_POWER). -/
  | cluOff (k : Nat)
  /-- The move of a mooring entry takes effect (MOORING_LOAD, MOORING_FREE). -/
  | moor (ch entry : Nat) (free : Bool)
  /-- The tests of TSV_TEST on a channel end. -/
  | tsv (ch : Nat)
  /-- The snapshot of the coming boundary (SNAPSHOT). -/
  | snap
  /-- Walks and accesses of address space, or of the named Tender streams' elements, begun before the invalidation, which took
  effect at the boundary that began the tick (R259). -/
  | inval (tick : Nat) (walks : List (Nat × Nat)) (els : List (Nat × Nat))
  /-- The ready bits of the named Tender clusters and of the translation unit (TND_POWER). -/
  | tnd (set : BitVec 4) (xlate : Bool)
  /-- The words that the AON logic burns (FUSE_ commands, LIFECYCLE_ADVANCE). -/
  | burn
  /-- Rows of a sealed bank that are being activated, for the coming boundary (R413). -/
  | activate
  /-- The lifecycle bits are verified; the state changes at the boundary (R416). -/
  | life
  /-- The patch runs once Keeper is in RUN again (FW_PATCH_LOAD). -/
  | patch
  deriving DecidableEq, Repr

/-- One mailbox (R312). -/
structure Mbx where
  cmd : BitVec 16 := 0
  tag : BitVec 8 := 0
  st : MbSt := .idle
  lost : Bool := false
  len : BitVec 6 := 0
  superseded : Bool := false
  status : BitVec 8 := 0
  seq : BitVec 16 := 0
  effTick : BitVec 32 := 0
  data : Tab (BitVec 32) := []
  /-- The tick of the last submission (R315). -/
  sub : Nat := 0
  /-- What a BUSY command waits for. -/
  wait : Option Wait := none
  deriving DecidableEq, Repr

/-- A command whose effect is staged for the coming boundary, as its mailbox held it when Keeper took it; after a Keeper-only
reset it takes effect without a response (R307). -/
structure Staged where
  mb : Nat
  req : Mbx
  dropped : Bool := false
  deriving DecidableEq, Repr

/-- KPR_STATE.STATE (R331). -/
inductive KState where
  | reset | boot | verify | run
  deriving DecidableEq, Repr

/-- Causes of a Keeper-only reset, as KPR_RST_INFO.CAUSE (R331). -/
inductive KCause where
  | none_ | sramUe | watchdog | manager | patch
  deriving DecidableEq, Repr

/-- Keeper (R300 to R331). -/
structure Kpr where
  mbx : Tab Mbx := []
  /-- The normal mailbox that Keeper took last (R315). -/
  last : Nat := 3
  /-- Commands staged for the coming boundary, in the order in which they were taken (R316). -/
  staged : List Staged := []
  st : KState := .reset
  rst : Sq := {}
  cause : KCause := .none_
  injected : Bool := false
  rstCnt : Nat := 0
  /-- A reset with cause MANAGER or PATCH begins at the coming boundary (R309, R329). -/
  resetDue : Option KCause := none
  remap : Tab (List Nat) := []
  /-- Words corrected once, whose next read decides whether they are remapped, as macro and word (R302). -/
  suspect : List (Nat × Nat) := []
  /-- The word that the scrubber reads next in every macro, and its reads of this tick (R301). -/
  scrub : Nat := 0
  scrubbed : Nat := 0
  remapFull : BitVec 16 := 0
  lastMacro : BitVec 4 := 0
  sramCe : Nat := 0
  sramUe : Nat := 0
  patchAddr : Nat := 0
  patchVersion : BitVec 16 := 0
  patchActive : Bool := false
  patchLost : Bool := false
  keyId : BitVec 2 := 0
  wdLast : Nat := 0
  /-- A watchdog failure has happened since stack reset. -/
  wdAny : Bool := false
  rstTick : Nat := 0
  /-- The tick in which Beleb last served the watchdog, or in which the boot period began (R304). -/
  served : Nat := 0
  /-- The tick in which STATE last became RUN, or of a later watchdog failure (R304, cause 4). -/
  runFrom : Nat := 0
  /-- Keeper is handling a fault (R305). -/
  handling : Bool := false
  deriving DecidableEq, Repr

/-! ### Lantern -/

/-- A LAN_OVERRIDE in force (R326). -/
structure Ovr where
  floor : Nat
  doubled : Bool
  limit : Nat
  /-- The boundary, by the tick it begins, at which the override ends. -/
  ends : Option Nat
  deriving DecidableEq, Repr

/-- Lantern (R377 to R394). Sensor readings are in quarters of a degree, temperatures derived from them in degrees. -/
structure Lan where
  rounds : Nat := 0
  round : Nat := 0
  published : Bool := false
  pubTick : Nat := 0
  /-- What the last publication decided acts at the coming boundary, A(m) (R378). -/
  due : Bool := false
  die : Tab (Option Int) := []
  base : Tab (Option Int) := []
  volt : Tab Nat := []
  failDie : BitVec 64 := 0
  failBase : BitVec 12 := 0
  heat : Tab Rat := []
  est : Tab (Option Rat) := []
  /-- T_d; none while it is not measured (R381). -/
  eff : Tab (Option Rat) := []
  suspect : BitVec 16 := 0
  /-- Dies whose restoration the next publication reports (R382). -/
  restored : BitVec 16 := 0
  excess : Tab Nat := []
  agree : Tab Nat := []
  /-- Dies that Lantern refreshes at the doubled rate (R146, R384), and the tick from which the return is counted. -/
  doubled : BitVec 16 := 0xFFFF
  /-- Dies whose refresh is doubled in the controllers, by Lantern or the override, for the RATE records. -/
  rate : BitVec 16 := 0xFFFF
  hotTick : Tab Nat := []
  /-- Dies whose refresh returns to the normal rate at the coming boundary (R146). -/
  returning : BitVec 16 := 0
  req : Bool := false
  graceEnd : Option Nat := none
  grace : Nat := 512
  /-- GRACE in effect for the request in force. -/
  graceUsed : Nat := 512
  enforcing : Bool := false
  level : Nat := 0
  low : Nat := 0
  /-- The filtered TRIP_N is active, the samples of another level since (R345), and as it acts since the last boundary (R387). -/
  trip : Bool := false
  tripRun : Nat := 0
  tripAct : Bool := false
  floor : Nat := 5
  tripLs : Bool := false
  ovr : Option Ovr := none
  /-- Limits of R388 on the clusters and the rounds that count toward loosening them. -/
  lim : Tab Nat := []
  cool : Tab Nat := []
  /-- Consecutive rounds in which a monitor read outside its trip window, and in which all read inside the operating
  window (R371, R391). -/
  supOut : Tab Nat := []
  supOk : Nat := 0
  cool100 : Nat := 0
  evt : Sq := {}
  thrTicks : Nat := 0
  deriving DecidableEq, Repr

/-! ### The Light list -/

/-- A bank's state (R398); the number is the code of R417. -/
inductive BankSt where
  | blank | open_ | sealed | locked | invalid | withdrawn
  deriving DecidableEq, Repr

/-- What a burn in progress belongs to (R325, R410). -/
inductive BurnKind where
  | program | crc | mark | lock | reburn | life
  deriving DecidableEq, Repr

/-- The burn in progress (R410): the mailbox that it answers, the bank, and the words still to burn with their bits. -/
structure Burn where
  mb : Nat
  kind : BurnKind
  bank : Nat
  todo : List (Nat × BitVec 64)
  failed : Option Nat := none
  /-- Copies of the lifecycle bit that have verified (R416). -/
  good : Nat := 0
  deriving DecidableEq, Repr

/-- The Light list (R395 to R418). A word is keyed 256·bank + word. -/
structure Ll where
  /-- Burned bits, and those of them that read 0 at the tightened margin. -/
  fuse : Tab (BitVec 64) := []
  weak : Tab (BitVec 64) := []
  shadow : Tab (BitVec 64) := []
  bank : Tab BankSt := []
  /-- Words marked WEAK, and banks in use from their margin reads. -/
  weakW : List Nat := []
  margin : List Nat := []
  /-- Bank 0 has been accepted; HOLD of R448 otherwise, once it is sensed. -/
  accepted : Bool := false
  hold : Nat := 0
  selCh : Nat := 0
  selBank : Nat := 0
  evt : Sq := {}
  reBank : Nat := 1
  reWord : Nat := 0
  reMargin : Bool := false
  pass : Bool := false
  passStart : Nat := 0
  passTicks : Nat := 0
  passes : Nat := 0
  cntWeak : Nat := 0
  cntDrift : Nat := 0
  cntIgnored : Nat := 0
  burn : Option Burn := none
  /-- Banks withdrawn before the last stack reset, whose repairs are not loaded again (R424). -/
  gone : List Nat := []
  /-- Lifecycle in effect: 0 FACTORY, 1 INTEGRATOR, 2 FIELD (R415, R416). -/
  life : Nat := 0
  deriving DecidableEq, Repr

/-! ### Power, resets, retention, snapshots -/

/-- Locks and references (R29, R69, R70, R356). -/
structure Clk where
  framePll : Bool := false
  quadPll : BitVec 4 := 0
  /-- The tick from which a PLL that is not declared locked may have shown lock without a break (R70). -/
  frameFrom : Nat := 0
  quadFrom : Tab Nat := []
  refclk : Bool := true
  mgref : Bool := true
  xbarGated : Bool := true
  deriving DecidableEq, Repr

/-- A switched power domain (R428): off, switching on with the ticks it has taken, or on. -/
inductive DomSt where
  | off
  | switching (ticks : Nat)
  | on
  deriving DecidableEq, Repr

/-- Power and resets (R421 to R429). -/
structure Pwr where
  dom : Tab DomSt := []
  /-- Domains that are to be switched on (R428). -/
  want : List Nat := []
  /-- The always-on reset is held (R421). -/
  held : Bool := false
  /-- Filtered PERST_N is low; a stack reset waits for its boundary (R424). -/
  perst : Bool := true
  resetting : Bool := false
  /-- The domains have begun to switch on since the last stack reset (R432). -/
  started : Bool := false
  /-- Domain 49 did not report power-good and stays off until it is asked for anew (R428). -/
  testBad : Bool := false
  /-- SR_N as filtered, low, the samples of another level since (R345), and as it acts since the last boundary (R426). -/
  srLow : Bool := false
  srRun : Nat := 0
  srAct : Bool := false
  deriving DecidableEq, Repr

/-- What the retention array holds of a channel (R369). -/
structure RetChan where
  mooring : Tab (Option Moor)
  badSpare : List Nat
  spareD : Tab SpareSt
  spareC : Tab SpareSt
  declared : List Nat
  retSlices : BitVec 16
  retChan : Bool
  deriving DecidableEq, Repr

/-- The retention array (R369). -/
structure Ret where
  tags : Tab (Tab TagRec) := []
  rtags : Tab (Tab RTag) := []
  chans : Tab (Option RetChan) := []
  deriving DecidableEq, Repr

/-- The snapshot bank (R292, R293): an entry by its offset. -/
structure Snap where
  seq : BitVec 16 := 0
  req : Bool := false
  vals : Tab Nat := []
  deriving DecidableEq, Repr

end Sys2Proof.Machine
end

