-- ==== Sys2Proof/Machine/TenderData.lean ====
section
/-! DEFINITION. The plain data of the Tender clusters, the translation unit and the streams (R205 to R275). -/

namespace Sys2Proof.Machine

/-- A stream context (R244, R245). For REDUCE `acc` holds the accumulator; for other operations its low half is DOUBT and
its high half DOUBT_TOTAL. -/
structure Ctx where
  dcopy : List (BitVec 8) := []
  desc : Nat := 0
  asid : Nat := 0
  cls : Nat := 0
  notify : Bool := false
  state : Nat := 0
  tcl : Nat := 0
  dloaded : Bool := false
  gen : BitVec 16 := 0
  cause : Nat := 0
  flags : BitVec 6 := 0
  cursor : Nat := 0
  skipped : Nat := 0
  ahead : BitVec 64 := 0
  outcnt : Nat := 0
  acc : BitVec 128 := 0
  detail : BitVec 64 := 0
  deriving DecidableEq, Repr

/-- One memory access of an element, at its virtual address (R215). -/
inductive TAcc where
  | read (va size : Nat)
  | write (va : Nat) (data : List (BitVec 8)) (pois : Bool)
  | acc (va : Nat) (op : RaccOp) (ty : Ty) (data : List (BitVec 8))
  /-- FINALIZE of a fixed-window element: mode 0 IN_PLACE, 1 COPY_OUT, 2 DRAIN (R234). -/
  | fin (va mode : Nat)
  deriving DecidableEq, Repr

/-- How far an element has come: index read, source read, write of its target. -/
inductive Ph where
  | idx | src | dst
  deriving DecidableEq, Repr

/-- Where the access of an element stands. -/
inductive ElSt where
  | want
  /-- Waits for the walk of a virtual page. -/
  | walk (vpn : Nat)
  /-- Committed to a channel of this stack. -/
  | out
  /-- Waits for a port to send its RELAY, and sent (R130, R265). -/
  | queued
  | relayed
  /-- Written together with the element whose index is given (R223). -/
  | ride (i : Nat)
  deriving DecidableEq, Repr

/-- An element in flight. Index COUNT is the write of REDUCE's DST[0], COUNT + 1 the result record (R263). -/
structure El where
  i : Nat
  ph : Ph
  st : ElSt := .want
  acc : TAcc
  pa : Nat := 0
  stack : Nat := 0
  /-- Index value, source bytes; the element is to be counted as skipped when applied; its source was poison (R225). -/
  idx : Nat := 0
  val : List (BitVec 8) := []
  skip : Bool := false
  pois : Bool := false
  flags : BitVec 6 := 0
  /-- X of the AT_CAS of a lone 4-byte remote write (R236). -/
  cas : Option Word64 := none
  deriving DecidableEq, Repr

/-- The failure of the lowest-indexed element (R267). -/
structure ElFail where
  i : Nat
  cause : Nat
  detail : BitVec 64
  deriving DecidableEq, Repr

/-- The run of a RUNNING or STOPPING stream. -/
structure Run where
  next : Nat := 0
  els : List El := []
  fail : Option ElFail := none
  abort : Option Nat := none
  preempt : Option (Nat × Nat) := none
  order : Nat := 0
  finDst : Bool := false
  finRes : Bool := false
  deriving DecidableEq, Repr

/-- A context-cache entry (R254). -/
structure Res where
  stream : Nat
  ctx : Ctx
  dirty : Bool := false
  run : Option Run := none
  deriving DecidableEq, Repr

/-- One Tender cluster (R242, R254). -/
structure TndClu where
  res : List Res := []
  elem : Nat := 0
  bytes : Nat := 0
  relay : Nat := 0
  skip : Nat := 0
  stop : Nat := 0
  /-- The stream of each class that issued last (R238). -/
  turns : Tab Nat := []
  deriving DecidableEq, Repr

/-- A cached table entry (R259): address space, level, virtual page number at that level, the entry. -/
structure TlbE where
  asid : Nat
  level : Nat
  vpn : Nat
  entry : BitVec 64
  deriving DecidableEq, Repr

/-- A stream that waits for a cache entry (R254). -/
structure WaitE where
  stream : Nat
  t : Nat
  cls : Nat
  preempted : Bool
  deriving DecidableEq, Repr

/-- A doorbell, or a manager's STREAM_RESUME, that waits for its decision or its descriptor read (R249 to R251). -/
structure Db where
  src : Option (Nat × Nat)
  stream : Nat
  gen : BitVec 16
  cmd : Nat
  reading : Bool := false
  deriving DecidableEq, Repr

/-- The Tender clusters, the translation unit and the streams of the stack. -/
structure Tnd where
  clus : Tab TndClu := []
  tlb : List TlbE := []
  walks : List (Nat × Nat) := []
  wait : List WaitE := []
  dbq : List Db := []
  order : Nat := 0
  /-- Contexts whose chunk is retired and that have been changed since (R274). -/
  lost : Tab Ctx := []
  /-- Streams freed with cause CTX_RETIRED, which STREAM_ALLOC refuses (R274). -/
  barred : List Nat := []
  /-- Clusters whose contexts have been written since stack reset (R434). -/
  written : BitVec 8 := 0
  /-- The context scan of R275 is due. -/
  scan : Bool := false
  deriving DecidableEq, Repr

end Sys2Proof.Machine
end

