-- ==== Sys2Proof/Machine/TestData.lean ====
section
/-! DEFINITION. The plain data of self-test, the test access port and the Watch multiplexer (R438 to R453). -/

namespace Sys2Proof.Machine

/-- A member that failed its slice and waits for its confirming test (R442). -/
structure Suspect where
  ch : Nat
  tsv : Nat
  spare : Option Nat
  /-- The tick in whose window the confirming test runs. -/
  due : Nat
  /-- It belongs to a TSV_TEST, which counts it there too (R444). -/
  cmd : Bool := false
  deriving DecidableEq, Repr

/-- A TSV_TEST in progress (R444): the channel, the group it has reached (0 to 40) and what it has counted. -/
structure TsvTest where
  ch : Nat
  group : Nat := 0
  /-- Members of the group tested so far. -/
  done : BitVec 8 := 0
  tested : Nat := 0
  failed : Nat := 0
  skipped : Nat := 0
  /-- The tick of its last slice. -/
  ranTick : Option Nat := none
  deriving DecidableEq, Repr

/-- Counts of a pass in progress (R446). -/
structure Pass where
  ticks : Nat := 0
  skip : Nat := 0
  tested : Nat := 0
  failed : Nat := 0
  deriving DecidableEq, Repr

/-- A slice of the current tick (R440, R441): how many TSVs it tests, the spares of which channels it borrows, and for a slice of a TSV_TEST
where that test stood before it. -/
structure SliceRun where
  count : Nat
  spares : List (Nat × Bool × Nat)
  due : Nat
  before : Option TsvTest := none
  deriving DecidableEq, Repr

/-- Self-test and test logic. -/
structure Wch where
  ptr : Nat := 0
  paused : Bool := false
  lastGroup : Nat := 0
  lastSkipped : Bool := false
  lastTested : BitVec 8 := 0
  lastFailed : BitVec 8 := 0
  rot : Tab Nat := []
  suspects : List Suspect := []
  slices : List SliceRun := []
  /-- The group of the current tick has had its slice. -/
  ran : Bool := false
  tsvTest : Option TsvTest := none
  run : Pass := {}
  passTicks : Nat := 0
  skip : Nat := 0
  fail : Nat := 0
  passes : Nat := 0
  laneRun : Pass := {}
  lanePassTicks : Nat := 0
  laneSkip : Nat := 0
  lanePasses : Nat := 0
  group : Nat := 0
  en : Bool := false
  ir : BitVec 8 := 0x01
  acting : Bool := false
  dieSel : BitVec 16 := 0
  /-- Boundary-scan cells preloaded from TDI (R449); the model takes the 64 bits the step gives. -/
  cells : BitVec 64 := 0
  evt : Sq := {}
  deriving DecidableEq, Repr

/-- A slice ends as not covered (R443): its members go back untested. -/
def Wch.uncover (w : Wch) (r : SliceRun) : Wch :=
  let cmd := r.before.isSome
  let w := { w with
    run := { w.run with tested := w.run.tested - r.count, skip := w.run.skip + (!cmd).toNat }
    suspects := w.suspects.filter (fun x => !(x.due = r.due && x.cmd == cmd))
    slices := w.slices.erase r }
  match r.before with
  | none => { w with lastSkipped := true, lastTested := 0, lastFailed := 0 }
  | some b => { w with tsvTest := w.tsvTest.map (fun t => { b with failed := t.failed, ranTick := t.ranTick }) }

/-- The slices in progress that `f` names end as not covered. -/
def Wch.uncoverAll (f : SliceRun → Bool) (w : Wch) : Wch := (w.slices.filter f).foldl Wch.uncover w

end Sys2Proof.Machine
end

