-- ==== Sys2Proof/Machine/State.lean ====
section
/-! DEFINITION. The whole state of the stack as plain data, and the state right after reset. -/

namespace Sys2Proof.Machine

/-- The state of the stack. -/
structure State where
  day : Day
  staged : List (Nat × BitVec 32)
  ports : Tab Port
  clk : Clk
  clus : Tab Clu
  chans : Tab Chan
  mem : List Host.Cell
  chk : List Host.Cell
  sec : Sec
  regions : Tab (Option Region)
  stackId : StackId
  tenderPart : Bool
  ready : BitVec 16
  bcn : Bcn
  flt : Flt
  ls : Ls
  pcie : Pcie
  pwr : Pwr
  ret : Ret
  snap : Snap
  kpr : Kpr
  lan : Lan
  ll : Ll
  wch : Wch
  tnd : Tnd
  rlyTurn : Nat
  free : Nat
  pending : List Instr
  deriving DecidableEq, Repr

/-- Faults of the model. No command of the table raises one: every command has an effect the spec gives it. -/
inductive Fault where
  /-- Raised by nothing; kept so that the type is not empty. Safe. -/
  | none_
  deriving DecidableEq, Repr

/-- Refusals of the model. -/
inductive Refusal where
  /-- A command whose meaning is not written yet; raised by its arm of `exec` alone. Safe. -/
  | notModelled (mnemonic : String)
  deriving DecidableEq, Repr

/-- The fuses of the part that the model describes (log entry 8): a -T part of stepping 1.0 in INTEGRATOR, with banks 0
to 8 sealed and locked (R399, R415) and every other bank blank.
DESIGN CHOICE, log entry 8. -/
def shippedFuses : Tab (BitVec 64) :=
  [(1, 0x1000001001), (3, 0xFFFFFFFFFFFFFFFF), (4, 0xFFFFFFFFFFFFFFFF), (5, 0xFFFFFFFFFFFFFFFF), (7, 0x800005A50D493245)] ++
    (List.range 8).map (fun b => (256 * (b + 1) + 255, 0x800000A58D60C6E9#64))

/-- The stack right after the always-on reset is released (R421): PERST_N still low, every switched domain off, every
register at its after-reset value, memory with nothing listed (log entries 2, 5, 6 and 8). -/
def State.reset : State where
  day := {}
  staged := []
  ports := []
  clk := {}
  clus := []
  chans := []
  mem := []
  chk := []
  sec := {}
  regions := []
  stackId := 0xFFF
  tenderPart := true
  ready := 0
  bcn := {}
  flt := {}
  ls := {}
  pcie := {}
  pwr := {}
  ret := {}
  snap := {}
  kpr := {}
  lan := {}
  ll := { fuse := shippedFuses, life := 1 }
  wch := {}
  tnd := {}
  rlyTurn := 0
  free := 0
  pending := []

end Sys2Proof.Machine
end

