-- ==== Sys2Proof/Machine/Ops.lean ====
section
/-! DEFINITION. The named reads and updates of the state's units: one way in and out of each table, on which every
meaning stands. -/

namespace Sys2Proof.Machine

/-- Port `p`. -/
def State.port (s : State) (p : Nat) : Port := tget Port.reset s.ports p
/-- The state with port `p` changed by `f`. -/
def State.modPort (s : State) (p : Nat) (f : Port → Port) : State :=
  { s with ports := tmod Port.reset s.ports p f }
/-- Channel `c`. -/
def State.chan (s : State) (c : Nat) : Chan := tget {} s.chans c
/-- The state with channel `c` changed by `f`. -/
def State.modChan (s : State) (c : Nat) (f : Chan → Chan) : State :=
  { s with chans := tmod {} s.chans c f }
/-- The state with the scheduler of channel `c` changed by `f`. -/
def State.modSched (s : State) (c : Nat) (f : Sched → Sched) : State :=
  s.modChan c (fun x => { x with q := f x.q })
/-- The state with the integrity unit of channel `c` changed by `f`. -/
def State.modInteg (s : State) (c : Nat) (f : Integ → Integ) : State :=
  s.modChan c (fun x => { x with i := f x.i })
/-- Cluster `k`. -/
def State.clu (s : State) (k : Nat) : Clu := tget {} s.clus k
/-- The state with cluster `k` changed by `f`. -/
def State.modClu (s : State) (k : Nat) (f : Clu → Clu) : State :=
  { s with clus := tmod {} s.clus k f }

def State.modDay (s : State) (f : Day → Day) : State := { s with day := f s.day }
def State.modSec (s : State) (f : Sec → Sec) : State := { s with sec := f s.sec }
def State.modFlt (s : State) (f : Flt → Flt) : State := { s with flt := f s.flt }
def State.modBcn (s : State) (f : Bcn → Bcn) : State := { s with bcn := f s.bcn }
def State.modPcie (s : State) (f : Pcie → Pcie) : State := { s with pcie := f s.pcie }

/-- Bank `b` of a channel. -/
def Sched.bank (q : Sched) (b : Nat) : Bank := tget {} q.banks b
def Sched.modBank (q : Sched) (b : Nat) (f : Bank → Bank) : Sched := { q with banks := tmod {} q.banks b f }
/-- Slice `d` of a channel. -/
def Sched.slice (q : Sched) (d : Nat) : Slice := tget {} q.slices d
def Sched.modSlice (q : Sched) (d : Nat) (f : Slice → Slice) : Sched :=
  { q with slices := tmod {} q.slices d f }

/-- The cluster that serves channel `c` (R16). -/
def cluOf (c : Nat) : Nat := c / 4

/-- Domain `n` is on (R428). -/
def State.domOn (s : State) (n : Nat) : Bool := tget .off s.pwr.dom n == .on

/-- The power domain of port `p` (R427). -/
def portDom (p : Nat) : Nat := 4 + p

/-- An event raised by a unit on its line to the collector (R354, R356). -/
def raise (src inst : Nat) (c : Cls) (detail : BitVec 64) (s : State) : State :=
  { s with flt := { s.flt with line := s.flt.line ++ [{ src := src, inst := inst, cls := c, detail := detail }] } }

/-- The same, for an injected error (R375). -/
def raiseInj (src inst : Nat) (c : Cls) (detail : BitVec 64) (inj : Bool) (s : State) : State :=
  { s with flt := { s.flt with line := s.flt.line ++
      [{ src := src, inst := inst, cls := c, detail := detail, injected := inj }] } }

/-- A number as a bit. -/
def b1 (b : Bool) : BitVec 1 := if b then 1 else 0

/-- A field of a register: `v` placed at bit `lo` of a 32-bit word. -/
def fld (v lo : Nat) : Word32 := BitVec.ofNat 32 (v * 2 ^ lo)

/-- Bits `lo` to `lo + n - 1` of a written word. -/
def bitsOf (v : Word32) (lo n : Nat) : Nat := v.toNat / 2 ^ lo % 2 ^ n

/-- The next `n` free values: values nothing in the spec fixes (log entry 3).
DESIGN CHOICE, log entry 3. -/
def State.takeFree (s : State) : State := { s with free := s.free + 1 }

end Sys2Proof.Machine
end

