-- ==== Sys2Proof/Machine/PortWords.lean ====
section
/-! DEFINITION. SQ registers, and the words of the port and cluster registers that records copy (R97, R133, R162). -/

namespace Sys2Proof.Machine

/-- An event sets bit `b` of the status at the end of the current tick (R8, R343). -/
def Sq.raise (q : Sq) (b : Nat) : Sq := { q with now := q.now ||| (1#16 <<< b) }

/-- The boundary: an accepted clear removes what stood, then the tick's events set their bits and SEQ adds 1. -/
def Sq.boundary (q : Sq) : Sq :=
  { seq := if q.now = 0 then q.seq else q.seq + 1
    bits := (if q.clr then 0 else q.bits) ||| q.now
    now := 0
    clr := false }

/-- A write of `v` to the register: it clears the status when its low 16 bits equal SEQ (R8, R291). -/
def Sq.write (q : Sq) (v : Word32) : Sq :=
  { q with clr := q.clr || v.extractLsb' 0 16 == q.seq }

/-- The register as it reads: SEQ in the low half, the status bits above it. -/
def Sq.word (q : Sq) : Word32 := q.bits ++ q.seq

/-- GAL_LINK.LSTATE (R71). -/
def LState.code : LState → Nat
  | .off => 0 | .down => 1 | .train => 2 | .active => 3 | .failed => 4 | .test => 5

/-- GAL_LINK.STAGE (R73). -/
def Stage.code : Stage → Nat
  | .detect => 0 | .phase => 1 | .adapt => 2 | .ident => 3 | .deskew => 4 | .laneTest => 5 | .param => 6

/-- The quadrant of port `p` (R16). -/
def quadOf (p : Nat) : Nat := p / 8

def State.quadLock (s : State) (q : Nat) : Bool := s.clk.quadPll.getLsbD q

/-- GAL_LINK of port `p` (R97). -/
def galLink (s : State) (p : Nat) : Word32 :=
  let x := s.port p
  let l := x.link
  fld l.lstate.code 0 ||| (if l.lstate = .train then fld l.stage.code 3 else 0)
    ||| fld (s.quadLock (quadOf p)).toNat 6 ||| fld l.dnOcc.toNat 7 ||| fld l.upOcc.toNat 8
    ||| fld (x.lane.swapDn.isSome || x.lane.swapUp.isSome).toNat 9
    ||| fld l.attempt 10 ||| fld l.failCause 12

/-- GAL_ERR_INFO (R133). -/
def galErr (s : State) (p : Nat) : Word32 :=
  let e := (s.port p).fr.err
  fld e.opc.toNat 0 ||| fld e.tag.toNat 8 ||| fld e.detail 17 ||| fld e.protocol.toNat 25

/-- Every slice of channel `c` is in self-refresh (DCC_CLU_STAT.SR, R162). -/
def chanSr (s : State) (c : Nat) : Bool :=
  (List.range 16).all (fun d => ((s.chan c).q.slice d).sr)

/-- DCC_CLU_STAT of cluster `k` (R162). -/
def dccStat (s : State) (k : Nat) : Word32 :=
  let u := s.clu k
  fld u.step 0 ||| fld u.target 2 ||| fld (u.stepTick % 4) 4 ||| fld u.held.isSome.toNat 6
    ||| fld (decide (u.mgrTarget < u.limit)).toNat 7
    ||| (List.range 4).foldl (fun w j => w ||| fld (chanSr s (4 * k + j)).toNat (8 + j)) 0

/-- The payload of an event record as its registers stand now (R343). -/
def payloadNow (s : State) : Payload → BitVec 96
  | .value v => v
  | .galLink p => 0#32 ++ galLink s p ++ (s.port p).link.levt.word
  | .galFrame p => 0#32 ++ galErr s p ++ (s.port p).fr.fevt.word
  | .dccCluster k => 0#32 ++ dccStat s k ++ (s.clu k).evt.word

/-- What a register's payload will read once the boundary has set the bits of this tick (R343, R356): the DETAIL of a
fault whose own record copies an event register.
DEDUCED, log entry 39. -/
def payloadSoon (s : State) : Payload → BitVec 64
  | .value v => v.extractLsb' 0 64
  | .galLink p => galLink s p ++ (s.port p).link.levt.boundary.word
  | .galFrame p => galErr s p ++ (s.port p).fr.fevt.boundary.word
  | .dccCluster k => dccStat s k ++ (s.clu k).evt.boundary.word

end Sys2Proof.Machine
end

