-- ==== Sys2Proof/Machine/Beacon.lean ====
section
/-! DEFINITION. SQ registers, MSI-X messages, and the capture and queueing of Beacon records
(R8, R9, R291, R294, R332 to R353). -/

namespace Sys2Proof.Machine

/-! ### The tick and the timestamp -/

/-- DAY_TS as a record carries it (R45, R340): whole nanoseconds. -/
def Day.tsNow (d : Day) : BitVec 64 := BitVec.ofNat 64 (d.ts / 0x100000000)

/-! ### MSI-X -/

/-- The function may send a posted write (R280, R336): the link is up, Bus Master Enable is 1 and the function is
not in D3hot.
PRESUMED, log entry 6. -/
def Pcie.mayDma (c : Pcie) : Bool := c.linkUp && c.bme && !c.d3hot

/-- Vector `v` is signalled (R294): its message is sent; where it is masked, or Bus Master Enable is 0, its pending bit is
set; while the link is down or MSI-X Enable is 0 the condition is lost. -/
def Pcie.signal (c : Pcie) (v : Nat) : Pcie :=
  let e := tget {} c.msix v
  if !c.linkUp || !c.msixEn then c
  else if c.mayDma && !c.fmask && !e.masked then { c with out := c.out ++ [.msi e.addr e.data] }
  else { c with pba := c.pba ||| (1#8 <<< v) }

def msi (v : Nat) (s : State) : State := { s with pcie := s.pcie.signal v }

/-! ### Rings -/

/-- The number of records the ring holds in host memory (R332). -/
def Ring.size (r : Ring) : Nat := 2 ^ r.log2

/-- The ring is full (R333). -/
def Ring.full (r : Ring) : Bool := (r.head - r.tail).toNat == r.size

/-- The places of the on-die queue (R332). -/
def queueSize (fast : Bool) : Nat := if fast then 32 else 64

/-- The record joins the queue of its ring, taking the ring's next SEQ; with the queue full it is dropped and
counted (R337, R341). -/
def Ring.push (r : Ring) (fast : Bool) (x : Rec) : Ring :=
  if r.queue.length < queueSize fast then
    { r with next := r.next + 1, queue := r.queue ++ [{ x with seq := r.next }] }
  else
    { r with next := r.next + 1, lost := satInc r.lost, lostMark := true,
             evt := r.evt.raise (if r.full then 0 else 1) }

def Bcn.ring (b : Bcn) (fast : Bool) : Ring := if fast then b.fast else b.normal

def Bcn.setRing (b : Bcn) (fast : Bool) (r : Ring) : Bcn :=
  if fast then { b with fast := r } else { b with normal := r }

/-- The staged mask bit of a source, where a write of this tick names it (R9: the last one). -/
def Bcn.stagedMask (b : Bcn) (x : Nat × Nat) : Option Bool :=
  (b.maskStaged.reverse.find? (fun y => y.1 = x)).map (·.2)

/-- The source may capture now: its mask in effect is 0, and where a mask of 1 is staged it has captured nothing in
this tick or the one before (R349, R350). -/
def Bcn.mayCapture (b : Bcn) (x : Nat × Nat) : Bool :=
  !(b.masked.contains x) &&
    (b.stagedMask x != some true || !(b.capNow.contains x || b.capPrev.contains x))

/-- A record goes to the fast ring when its source does or its class is C3 (R332). -/
def ringOf (fast : Bool) (c : Cls) : Bool := fast || c == .c3

/-- The record `x` of source (`x.unit`, `x.inst`) is captured now (R340, R341, R350). -/
def Bcn.capture (b : Bcn) (d : Day) (fast : Bool) (x : Rec) : Bcn :=
  let src := (x.unit, x.inst)
  if b.mayCapture src then
    let f := ringOf fast x.cls
    let x := { x with ts := d.tsNow, weak := d.uncertain, tick := d.tick % 65536 }
    { (b.setRing f ((b.ring f).push f x)) with capNow := src :: b.capNow }
  else b

/-- The event is captured now; the source's next record after a lost event carries LOST_BEFORE (R342). -/
def captureEv (e : Ev) (s : State) : State :=
  let src := (e.unit, e.inst)
  let x : Rec := { seq := 0, ts := 0, unit := e.unit, inst := e.inst, cls := e.cls, tick := 0,
                   payload := payloadNow s e.payload, lostBefore := s.bcn.lostSrc.contains src }
  let b := s.bcn.capture s.day e.fast x
  { s with bcn := if s.bcn.mayCapture src then { b with lostSrc := b.lostSrc.filter (· ≠ src) } else b }

/-- The events a unit keeps waiting for one source (R342, R343). -/
def waitLimit (unit : Nat) : Nat := if unit = 0x07 ∨ unit = 0x08 then 512 else 16

/-- A source raises an event (R342, R343): it is captured at once where the source has captured nothing in this tick
and nothing of it waits; else it waits in its unit, or is lost where the unit is full. -/
def emit (e : Ev) (s : State) : State :=
  let src := (e.unit, e.inst)
  let waiting := (s.bcn.wait.filter (fun w => (w.unit, w.inst) = src)).length
  if !e.atBoundary && waiting = 0 && !(s.bcn.capNow.contains src) then captureEv e s
  else if waiting < waitLimit e.unit then { s with bcn := { s.bcn with wait := s.bcn.wait ++ [e] } }
  else
    { s with bcn := { s.bcn with lostSrc := src :: s.bcn.lostSrc.filter (· ≠ src) } }

/-- At a tick boundary each source with waiting events captures the oldest (R342, R343). -/
def emitWaiting (s : State) : State :=
  let step := fun (acc : State × List Ev) (e : Ev) =>
    let src := (e.unit, e.inst)
    if acc.1.bcn.capNow.contains src then (acc.1, acc.2 ++ [e])
    else (captureEv { e with atBoundary := false } acc.1, acc.2)
  let r := s.bcn.wait.foldl step (s, [])
  { r.1 with bcn := { r.1.bcn with wait := r.2 } }

/-- The records that ring `r` captured since its next SEQ was `n`, in the order of SOURCE: those of one boundary are captured
at one instant, at which the lower SOURCE takes the lower SEQ (R341). -/
def Ring.bySource (n : BitVec 32) (r : Ring) : Ring :=
  let new := r.queue.filter (fun x => (x.seq - n).toNat < (r.next - n).toNat)
  let sorted := sortBy (fun (a b : Rec) => a.unit * 256 + a.inst ≤ b.unit * 256 + b.inst) new
  { r with queue := r.queue.filter (fun x => !((x.seq - n).toNat < (r.next - n).toNat)) ++
      (new.zip sorted).map (fun (p : Rec × Rec) => { p.2 with seq := p.1.seq }) }

/-- The same for both rings; `b` is the unit before the boundary. -/
def Bcn.bySource (b c : Bcn) : Bcn := { c with normal := c.normal.bySource b.normal.next, fast := c.fast.bySource b.fast.next }

/-! ### Level and edge sources -/

/-- Unit and instance of level or edge source `l` (R344). -/
def lsrcOf (l : Nat) : Nat × Nat :=
  if l = 0 then (0x10, 0) else if l = 1 then (0x10, 1) else if l = 2 then (0x0C, 0x00)
  else (0x0C, 0x30 + (l - 3))

/-- Level sources of the pins and THROTTLE_REQ report on the fast ring (R343). -/
def lsrcFast (l : Nat) : Bool := l < 3

/-- Level or edge source `l`. -/
def Bcn.src (b : Bcn) (l : Nat) : LSrc := tget {} b.lsrc l
def Bcn.modSrc (b : Bcn) (l : Nat) (f : LSrc → LSrc) : Bcn := { b with lsrc := tmod {} b.lsrc l f }

/-- The record of level or edge source `l`, class C0 (R340, R343, R344, R392). -/
def lsrcRec (l : Nat) (x : LSrc) (quench : Bool) : Rec :=
  { seq := 0, ts := 0, unit := (lsrcOf l).1, inst := (lsrcOf l).2, cls := .c0, level := l != 1,
    quench := quench, edge := l == 1, active := x.active, tick := 0, payload := x.payload }

/-- One sample of an input that passes a filter of `n` samples (R345, R423): the filtered level follows a change that has lasted for `n` of them;
`p` is the filtered level and the samples so far that differ from it. -/
def filterStep (n : Nat) (p : Bool × Nat) (x : Bool) : Bool × Nat :=
  if x = p.1 then (p.1, 0) else if p.2 + 1 < n then (p.1, p.2 + 1) else (x, 0)

/-- A level source that is active, not pending, not quenched and not masked captures a record and becomes pending
(R342, R346), at most one in a tick; one that is to be quenched captures nothing but the quench record (R347). -/
def lsrcTry (d : Day) (l : Nat) (b : Bcn) : Bcn :=
  let x := b.src l
  if x.active && !x.pending && !x.quenched && x.count < 1024 && b.mayCapture (lsrcOf l) && !(b.capNow.contains (lsrcOf l)) then
    (b.capture d (lsrcFast l) (lsrcRec l x false)).modSrc l (fun y => { y with pending := true, pendNow := true })
  else b

/-- Level source `l` takes the state `a` (R342, R346). -/
def lsrcSet (d : Day) (l : Nat) (a : Bool) (b : Bcn) : Bcn :=
  lsrcTry d l (b.modSrc l (fun y => { y with active := a }))

/-- An edge is sampled on source 1, SR_N (R342, R348): the first edge of a tick captures a record, which later edges of the
tick count in; it is completed at the boundary. -/
def edgeSample (d : Day) (low : Bool) (b : Bcn) : Bcn :=
  let b := b.modSrc 1 (fun y => { y with active := low, edges := min (y.edges + 1) 255 })
  if (b.src 1).edges = 1 && b.mayCapture (lsrcOf 1) && !(b.src 1).quenched then
    let n := b.fast.next
    (b.capture d true (lsrcRec 1 (b.src 1) false)).modSrc 1 (fun y => { y with edgeRec := some n })
  else b

/-- The edge record of the ended tick is completed with its edge count and the level at the last sample (R348). -/
def edgeComplete (b : Bcn) : Bcn :=
  let y := b.src 1
  let fix := fun (x : Rec) => if some x.seq = y.edgeRec && x.edge then { x with edges := y.edges, active := y.active } else x
  { (b.modSrc 1 (fun z => { z with edges := 0, edgeRec := none })) with
    fast := { b.fast with queue := b.fast.queue.map fix } }

/-- The tick that ends was an active tick of source `l` (R347). -/
def lsrcCount (b : Bcn) (l : Nat) : Bcn :=
  let y := b.src l
  let was := if l = 1 then y.edges > 0 else y.active
  if b.masked.contains (lsrcOf l) then b
  else b.modSrc l (fun z => { z with count := if was then z.count + 1 else 0 })

/-- One staged mask bit takes effect (R349, R350); clearing the mask of a quenched source ends its quench (R347). -/
def maskApply (b : Bcn) (m : (Nat × Nat) × Bool) : Bcn :=
  let b := { b with masked := if m.2 then (if b.masked.contains m.1 then b.masked else m.1 :: b.masked)
                              else b.masked.filter (· ≠ m.1) }
  if m.2 then b
  else (List.range 13).foldl (fun b l =>
    if lsrcOf l = m.1 && (b.src l).quenched then b.modSrc l (fun z => { z with quenched := false, count := 0 }) else b) b

/-- The staged mask bits of which the last write of each source is left (R9). -/
def lastMasks : List ((Nat × Nat) × Bool) → List ((Nat × Nat) × Bool)
  | [] => []
  | m :: ms => if ms.any (fun n => n.1 = m.1) then lastMasks ms else m :: lastMasks ms

/-- Every level source is a source that may be pending; source 1 never is (R348). -/
def levelSources : List Nat := (List.range 13).filter (· ≠ 1)

/-- The Beacon unit at a tick boundary (R346 to R350, R352): records of edges are completed, active ticks counted, masks
applied, an accepted clear removes what was pending before the tick, event registers advance, and level sources that
are active capture. -/
def Bcn.boundary (d : Day) (b : Bcn) : Bcn :=
  let b := (List.range 13).foldl lsrcCount b
  let b := edgeComplete b
  let b := (lastMasks b.maskStaged).foldl maskApply b
  let set := levelSources.any (fun l => (b.src l).pendNow)
  let b := levelSources.foldl (fun b l => b.modSrc l (fun y =>
    { y with pending := y.pending && !(b.pendClr && !y.pendNow), pendNow := false })) b
  let b := { b with pendSeq := if set then b.pendSeq + 1 else b.pendSeq, pendClr := false, maskStaged := []
                    capPrev := b.capNow, capNow := []
                    normal := { b.normal with evt := b.normal.evt.boundary }
                    fast := { b.fast with evt := b.fast.evt.boundary } }
  levelSources.foldl (fun b l => lsrcTry d l b) b

end Sys2Proof.Machine
end

