-- ==== Sys2Proof/Machine/PortOps.lean ====
section
/-! DEFINITION. The shared operations of a Gallery port: fencing and the outcome of tags (R122 to R126), responses and
coalescing (R102, R109, R110), link retry (R113 to R115), leaving ACTIVE (R125). -/

namespace Sys2Proof.Machine

/-! ### Tags and fencing -/

def Frames.tag (f : Frames) (t : Nat) : TagRec := tget {} f.tags t
def Frames.modTag (f : Frames) (t : Nat) (g : TagRec → TagRec) : Frames := { f with tags := tmod {} f.tags t g }

/-- The port is fenced: some cause bit is set (R122). -/
def Frames.fenced (f : Frames) : Bool := f.fLink || f.fFault || f.fProto || f.fMgr || f.fStack

/-- DRAINED (R122, R133): no request that was ISSUED at the last fencing remains. -/
def Frames.drained (f : Frames) : Bool := f.tags.all (fun x => !x.2.fenced)

/-- Tags in RECOVER (R126, R133). -/
def Frames.recovering (f : Frames) : List Nat := (f.tags.filter (fun x => x.2.st == .recover)).map (·.1)

/-- A tag is outstanding at the stack (R108). -/
def TagRec.outstanding (t : TagRec) : Bool := t.st != .free

/-- Requests of class `c` outstanding on the port (R111). -/
def Frames.outClass (f : Frames) (c : Nat) : Nat :=
  (f.tags.filter (fun x => x.2.outstanding && x.2.sect = c)).length

/-- The credit that the stack enforces for class `c` (R111): the larger of the old and the new value until an ACK covers
the CREDITS frame. -/
def Frames.credit (f : Frames) (c : Nat) : Nat :=
  if f.credFrame then max (tget 0 f.cred c) (tget 0 f.credOld c) else tget 0 f.cred c

/-- The causes of R122. -/
inductive Cause where
  | link | fault | proto | mgr | stack
  deriving DecidableEq, Repr

def Frames.setCause (f : Frames) : Cause → Frames
  | .link => { f with fLink := true }
  | .fault => { f with fFault := true }
  | .proto => { f with fProto := true }
  | .mgr => { f with fMgr := true }
  | .stack => { f with fStack := true }

/-- The response opcode of a kind (R102). -/
def Kind.rsp : Kind → BitVec 8
  | .read => 0x80 | .write => 0x84 | .atomic => 0x90 | .fence => 0xA0 | .doorbell => 0xB0
  | .relayed => 0xC1 | .unknown => 0x8F

/-- The data bytes a response of the kind carries when it has none to give: zero data (R102). -/
def zeroData (n : Nat) : List (BitVec 8) := List.replicate n 0

/-- Status codes (R103). -/
def stOK := 0
def stHINT := 1
def stPOISON := 2
def stUNMAPPED := 3
def stRETIRED := 4
def stNOTREADY := 5
def stWRONG := 6
def stUNSUP := 7
def stFENCED := 8
def stBAD := 9

/-! ### The transmitter -/

/-- The frames that leave while the replay buffer has room: each takes the next FSEQ (R113, R114). The IDLE frame of
R101 takes none. -/
def pumpList (tick : Nat) : Nat → List UpBody → Fseq → List TxFrame × List UpBody × Fseq
  | _, [], n => ([], [], n)
  | room, b :: bs, n =>
    if b = .idle then pumpList tick room bs n
    else match room with
      | 0 => ([], b :: bs, n)
      | room + 1 =>
        let r := pumpList tick room bs (n + 1)
        ({ fseq := n, body := b, sent := tick } :: r.1, r.2.1, r.2.2)

/-- The receiver's ACK: the FSEQ of the last sequenced frame it has accepted (R113). -/
def Retry.ack (r : Retry) : Fseq := r.rxE - 1

/-- One transmission of content `b` under FSEQ `n`: it carries the ACK and the THR of this moment (R101, R113). -/
def Port.frameOf (x : Port) (n : Fseq) (b : UpBody) : UpSent :=
  .frame { fseq := n, ack := x.rty.ack, thr := x.fr.thrSent, body := b }

/-- The port has put `l` on its up lanes: each is a frame, on which GAL_FRAMES_UP and the scrambler count (R80, R133). -/
def Port.emitFrames (l : List UpSent) (x : Port) : Port :=
  { x with
    fr := { x.fr with framesUp := x.fr.framesUp + BitVec.ofNat 32 l.length, upTick := x.fr.upTick + l.length }
    lane := { x.lane with scrUp := x.lane.scrUp + l.length }
    tx := x.tx ++ l }

/-- The port can send frames now: the link is ACTIVE with its frame clock, and the up direction does not occult (R89, R91, R98). -/
def Port.framing (x : Port) : Bool := x.link.lstate == .active && !x.link.upOcc && !x.link.noClk

/-- The NAK that is owed leaves, in STALL too (R114). -/
def Port.payNak (x : Port) : Port :=
  if x.rty.nakOwed then { x with rty := { x.rty with nakOwed := false } }.emitFrames [x.frameOf 0 (.nak x.rty.rxE)] else x

/-- The IDLE frames of R101 that wait leave, and then the sequenced frames while the replay buffer has room (R114 SEND and STALL). -/
def Port.pumpFrames (tick : Nat) (x : Port) : Port :=
  let idle := (x.rty.unsent.filter (· == .idle)).map (x.frameOf 0)
  let r := pumpList tick (256 - x.rty.replay.length) x.rty.unsent x.rty.txNext
  Port.emitFrames
    (idle ++ r.1.map (fun (f : TxFrame) => x.frameOf f.fseq f.body))
    { x with rty := { x.rty with replay := x.rty.replay ++ r.1, unsent := r.2.1, txNext := r.2.2, ackOwed := false } }

/-- The transmitter sends what it may. -/
def Port.pump (tick : Nat) (x : Port) : Port := if x.framing then x.payNak.pumpFrames tick else x

/-- A frame is queued on the up direction (R113); where the link is not ACTIVE there is nothing to send it on. -/
def Port.send (tick : Nat) (b : UpBody) (x : Port) : Port :=
  if x.link.lstate = .active then
    { x with rty := { x.rty with unsent := x.rty.unsent ++ [b] } }.pump tick
  else x

/-- The response of tag `t` with the status given (R102, R109, R127). `me` is this stack's identifier in effect. -/
def rspBody (me : StackId) (r : TagRec) (t : Nat) (status detail : Nat) (xt : List Tag) (data : List (BitVec 8)) :
    UpBody :=
  .rsp r.kind.rsp (BitVec.ofNat 9 t) r.sect me r.orig status detail xt data

/-- The tag is done: it is answered where the link is ACTIVE and the tag does not stand in RECOVER already, and otherwise waits
there with its outcome (R109, R125). -/
def TagRec.finish (active : Bool) (r : TagRec) : TagRec :=
  { r with st := if active && r.st != .recover then .answered else .recover, fenced := false }

/-- The tag's response may be sent as a normal one (R124, R125). -/
def Port.answers (x : Port) (t : Nat) : Bool := x.link.lstate == .active && (x.fr.tag t).st != .recover

/-- The tag is answered (R109): its response is queued; where the link is not ACTIVE, or has not been since the request, the tag
goes to RECOVER with its outcome (R125). -/
def Port.answer (tick : Nat) (me : StackId) (t status detail : Nat) (data : List (BitVec 8)) (x : Port) : Port :=
  let r := x.fr.tag t
  let y := { x with fr := x.fr.modTag t (TagRec.finish (x.link.lstate == .active)) }
  if x.answers t then y.send tick (rspBody me r t status detail [] data) else y

/-- A performed write is answered through the coalescing store (R110); its group leaves at once when it holds eight tags. -/
def Port.coalesce (me : StackId) (tick : Nat) (x : Port) : Port :=
  match x.rty.coal with
  | [] => x
  | c :: cs =>
    let same := ((c :: cs).filter (fun d => d.status = c.status ∧ d.detail = c.detail)).take 8
    let rest := (c :: cs).filter (fun d => !(same.contains d))
    { x with rty := { x.rty with coal := rest } }.send tick
      (.rsp 0x84 c.tag c.sect me 0 c.status c.detail (same.tail.map Coal.tag) [])

/-- A performed write tag is held for coalescing (R110). -/
def Port.holdWrite (me : StackId) (tick : Nat) (t status detail : Nat) (x : Port) : Port :=
  let r := x.fr.tag t
  let y := { x with fr := x.fr.modTag t (TagRec.finish (x.link.lstate == .active)) }
  if x.answers t then
    let y := { y with rty := { y.rty with coal := y.rty.coal ++
                        [{ tag := BitVec.ofNat 9 t, sect := r.sect, status := status, detail := detail }] } }
    if (y.rty.coal.filter (fun d => d.status = status ∧ d.detail = detail)).length ≥ 8 then y.coalesce me tick else y
  else y

/-- The tags a response frame carries (R110). -/
def UpBody.tags : UpBody → List Nat
  | .rsp _ t _ _ _ _ _ xt _ => t.toNat :: xt.map (·.toNat)
  | _ => []

/-- A tag's response has left the port or was never owed: the request has completed as R120 counts it. -/
def Port.completed (x : Port) (t : Nat) : Bool :=
  match (x.fr.tag t).st with
  | .free => true
  | .recover => !(x.fr.tag t).fenced
  | .answered => !(x.rty.coal.any (fun c => c.tag.toNat = t)) && !(x.rty.unsent.any (fun b => b.tags.contains t))
  | .held | .issued => false

/-! ### Fencing, replay, and leaving ACTIVE -/

/-- The port becomes fenced (R122, R123, R124): the HELD requests are discarded and their tags answered FENCED 0x02 where
the link is ACTIVE, the ISSUED ones run on outside the tick bound. A further cause only adds its bit. -/
def Port.fence (tick : Nat) (me : StackId) (c : Cause) (x : Port) : Port :=
  if x.fr.fenced then { x with fr := x.fr.setCause c }
  else
    let heldTags := (x.fr.tags.filter (fun y => y.2.st == .held)).map (·.1)
    let f := { (x.fr.setCause c) with
      cq := [], fevt := x.fr.fevt.raise 8
      tags := x.fr.tags.map (fun y => (y.1, { y.2 with bound := none, fenced := y.2.st == .issued })) }
    heldTags.foldl (fun x t => x.answer tick me t stFENCED 0x02 []) { x with fr := f }

/-- A replay episode from the frame `k` places into the replay buffer (R114, R115): the rest is resent now, each frame with the ACK
and THR of this moment (R113), and each tag whose response it carries adds 1 to U of R40. -/
def Port.replayFrom (tick : Nat) (k : Nat) (x : Port) : Port :=
  let again := (x.rty.replay.drop k).map (fun f => { f with sent := tick })
  let tags := again.flatMap (fun f => f.body.tags)
  Port.emitFrames (again.map (fun (f : TxFrame) => x.frameOf f.fseq f.body)) { x with
    rty := { x.rty with replay := x.rty.replay.take k ++ again }
    fr := { x.fr with
      cntReplay := satInc x.fr.cntReplay, fevt := x.fr.fevt.raise 1
      tags := x.fr.tags.map (fun y => if tags.contains y.1 then
        (y.1, { y.2 with bound := y.2.bound.map (fun b => { b with u := b.u + 1 }) }) else y) } }

/-- The lane BIST slice in progress ends as skipped, not covered (R96). -/
def Port.skipSlice (x : Port) : Port :=
  match x.lane.slice with
  | none => x
  | some sl =>
    { x with
      lane := { x.lane with slice := none, bistPos := sl.pos, bistSkipped := true, bistPass := false, bistErrors := 0 }
      link := { x.link with cntBskip := satInc x.link.cntBskip } }

/-- The link leaves ACTIVE for state `to` (R72, R125): the replay buffer and the unsent responses are discarded, every tag whose
response no ACK covered goes to RECOVER (one still ISSUED runs on in memory, and its outcome is recorded when it is done), relay credit becomes 0, a swap, repair or BIST slice in progress ends. -/
def Port.leaveActive (tick : Nat) (me : StackId) (to_ : LState) (x : Port) : Port :=
  let x := { x with link := { x.link with lstate := to_, stage := .detect, stageTicks := 0, attempt := 0
                                          levt := x.link.levt.raise 2, dnOcc := false, upOcc := false
                                          goActive := false, activeTick := none } }
  let x := x.fence tick me .link
  { x with
    fr := { x.fr with tags := x.fr.tags.map (fun (y : Nat × TagRec) => if y.2.st == TagSt.free then y else (y.1, { y.2 with st := .recover }))
                      credFrame := false }
    rty := { rxE := 0, nakWait := false, naks := 0 }
    rly := { x.rly with credit := 0 }
    lane := { x.lane with swapDn := none, swapUp := none, waitRepair := [], scrUp := 0, scrDn := 0 } }.skipSlice

/-- A retrain (R74, R114): from ACTIVE the link goes to TRAIN at stage DETECT with a new count of attempts. -/
def Port.retrain (tick : Nat) (me : StackId) (x : Port) : Port :=
  let x := if x.link.lstate = .active then x.leaveActive tick me .train
           else { x with link := { x.link with lstate := .train, stage := .detect, stageTicks := 0, attempt := 0, goActive := false } }
  { x with link := { x.link with cntRetrain := satInc x.link.cntRetrain } }

/-- The fence is lifted (R126): UNFENCE with the number of tags in RECOVER, then one recovery response for each. -/
def Port.lift (tick : Nat) (me : StackId) (x : Port) : Port :=
  let rs := x.fr.recovering
  let x := x.send tick (.unfence rs.length)
  rs.foldl (fun x t =>
    let r := x.fr.tag t
    let d := match r.outcome with | .performed => 0x01 | .notPerformed => 0x02 | .partly => 0x03
    x.send tick (rspBody me r t stFENCED d [] [])) x

end Sys2Proof.Machine
end

