-- ==== Sys2Proof/Machine/Fault.lean ====
section
/-! DEFINITION. The fault collector, Foghorn and the entry into lightship mode (R354 to R370), and the READY records
(R343, R435). -/

namespace Sys2Proof.Machine

def Cls.rank : Cls → Nat
  | .c0 => 0 | .c1 => 1 | .c2 => 2 | .c3 => 3

/-- An event raised with a cause of R366. -/
def raiseLs (src inst : Nat) (c : Cls) (detail : BitVec 64) (inj : Bool) (cause : Nat) (s : State) : State :=
  s.modFlt (fun f => { f with line := f.line ++
    [{ src := src, inst := inst, cls := c, detail := detail, injected := inj, lsCause := cause }] })

/-- The sources for which the table of R356 names a Beacon record of their own. -/
def ownRecord (src : Nat) : Bool :=
  [0, 1, 2, 3, 4, 5, 9, 10, 11, 12, 13, 14, 15, 16, 27, 28, 30, 31, 32, 34, 35, 36, 37].contains src

/-- FLT_WORD.C3 (R357): the first capture is of class C3 or an escalation was captured. -/
def Flt.c3 (f : Flt) : Bool := (match f.cap with | some c => c.cls == .c3 | none => false) || f.esc.isSome

/-- Every port takes a change. -/
def State.allPorts (s : State) (f : Nat → Port → Port) : State :=
  { s with ports := tmodAll Port.reset 32 s.ports f }

/-- Port `p` is fenced with cause `c` (R122, R123). -/
def fencePort (p : Nat) (c : Cause) (s : State) : State :=
  s.modPort p (fun x => x.fence s.day.tick s.stackId c)

/-- A Foghorn pulse of class `n` (R363, R364), where a higher class has not been pulsed since the last clear. -/
def fhPulse (n : Nat) (s : State) : State :=
  if n > s.flt.lastClass then
    s.modFlt (fun f => { f with pulse := true, lastClass := n, nowClass := n, pulses := min (f.pulses + 1) 255
                                fhPulsed := true, nowFhPulsed := true, pulseC3 := f.pulseC3 || n == 3, changed := true })
  else s

/-- Lightship mode is entered with `cause`, or a further cause arises in it (R366, R367, R370). While a LIGHTSHIP_EXIT is
staged the entry acts after the exit, at the boundary. The controllers' part of the sequence follows within the command. -/
def lsEnter (cause : Nat) (s : State) : State :=
  if s.ls.exitStaged then { s with ls := { s.ls with after := s.ls.after ++ [cause] } }
  else
    let first := !s.ls.on
    let on := (List.range 50).filter (fun n => tget .off s.pwr.dom n != .off)
    let s := { s with
      ls := { s.ls with on := true, cause := cause, entryTick := BitVec.ofNat 16 s.day.tick
                        raised := s.ls.raised ||| (1#4 <<< (cause - 1))
                        phase := if first then .entered else s.ls.phase
                        domains := if first then on else s.ls.domains
                        ctl := s.ls.ctl || first, c4 := s.ls.c4 || cause = 4 } }
    let s := s.modFlt (fun f => { f with lightship := true, nowLightship := true, changed := true })
    let s := if first then msi 4 s else s
    let s := emit { unit := 0x11, inst := 0, cls := if cause = 2 then .c3 else .c2, fast := true
                    payload := .value (BitVec.ofNat 96 cause) } s
    let s := fhPulse (if cause = 2 then 3 else 2) s
    if first then
      { (s.allPorts (fun _ x => x.fence s.day.tick s.stackId .stack)) with
        ready := s.ready &&& 0xE000#16, wch := { s.wch.uncoverAll (fun _ => true) with suspects := [] } }
    else s

/-- One event reaches the collector (R358, R360, R361, R363). -/
def collectOne (e : FaultEv) (s : State) : State :=
  let f := s.flt
  let bit : BitVec 56 := 1#56 <<< e.src
  let big := e.cls == .c2 || e.cls == .c3
  let first := big && f.cap.isNone
  let escal := e.cls == .c3 && f.esc.isNone && (match f.cap with | some c => c.cls == .c2 | none => false)
  let cap : Cap := { src := e.src, inst := e.inst, cls := e.cls, injected := e.injected
                     tick := BitVec.ofNat 32 s.day.tick, ts := s.day.tsNow, detail := e.detail, at_ := s.day.tick }
  let later := big && !first
  let s := s.modFlt (fun f => { f with
    src := f.src ||| bit, nowSrc := f.nowSrc ||| bit, changed := true
    cnt := tset f.cnt e.cls.rank (satInc (tget 0 f.cnt e.cls.rank)), events := f.events + 1
    cap := if first then some cap else f.cap
    esc := if escal then some cap else f.esc
    injected := f.injected || (first && e.injected)
    later := f.later || later, laterCnt := if later then satInc f.laterCnt else f.laterCnt
    nowLater := if later then f.nowLater + 1 else f.nowLater
    driveHeld := f.driveHeld && !((first || escal) && e.cls == .c3) })
  let cause := if e.cls == .c3 then 2 else e.lsCause
  let pay : BitVec 96 := e.detail ++ (BitVec.ofNat 32 (e.inst + (if e.injected then 0x100 else 0)
    + (if first then 0x200 else 0) + (if escal then 0x400 else 0) + (if cause ≠ 0 then 0x800 else 0)))
  let s := if big || !ownRecord e.src then
    emit { unit := 0x0B, inst := e.src, cls := e.cls, payload := .value pay } s else s
  let s := if (first || escal) && e.cls == .c3 then fhPulse 3 s
    else if first && e.cls == .c2 && s.flt.fhC2 then fhPulse 2 s else s
  if cause ≠ 0 then lsEnter cause s else s

/-- Events of one moment are taken in descending order of class, then ascending source bit (R358). -/
def lineOrder (a b : FaultEv) : Bool := a.cls.rank > b.cls.rank || (a.cls.rank == b.cls.rank && a.src ≤ b.src)

/-- The collector takes every event on its line. -/
def collectLine (s : State) : State :=
  let evs := sortBy lineOrder s.flt.line
  evs.foldl (fun s e => collectOne e s) (s.modFlt (fun f => { f with line := [] }))

/-- KPR_PORT_READY (R298, R435): the ports that are ACTIVE and not fenced. -/
def portReady (s : State) : BitVec 32 :=
  (List.range 32).foldl (fun w p =>
    if (s.port p).link.lstate = .active && !(s.port p).fr.fenced then w ||| (1#32 <<< p) else w) 0

/-- The 48 readiness bits in the order of the READY source (R343). -/
def readyBits (s : State) : BitVec 48 := portReady s ++ s.ready

/-- A READY record for each readiness bit that changed since `old` (R343, R435), lower instances first. -/
def readyRecords (old : BitVec 48) (s : State) : State :=
  let now := readyBits s
  if now = old then s
  else
    let pay : BitVec 96 := 0#32 ++ portReady s ++ (0#16 ++ s.ready)
    (List.range 48).foldl (fun s i =>
      if now.getLsbD i != old.getLsbD i then
        emit { unit := 0x0F, inst := i, cls := .c0, payload := .value pay } s
      else s) s

end Sys2Proof.Machine
end

