-- ==== Sys2Proof/Machine/Addr.lean ====
section
/-! DEFINITION. The address map, the interleave and its inverse, and the address checks (R50 to R66). Stack addresses are
numbers of bytes here; a granule is named by its address divided by 64, a chunk by its address divided by 128. -/

namespace Sys2Proof.Machine

/-- The first address above the host-visible range (R50). -/
def hvTop (tPart : Bool) : Nat := if tPart then 0x17F0000000 else 0x17F2000000

/-- The first address above memory (R50). -/
def memTop : Nat := 0x1800000000

/-- Bits `hi` to `lo` of an address. -/
def abits (a hi lo : Nat) : Nat := a / 2 ^ lo % 2 ^ (hi + 1 - lo)

/-- The row of an address (R54). -/
def rowOf (a : Nat) : Nat := abits a 36 35 * 8192 + abits a 34 22
/-- The bank of an address (R54). -/
def bankOf (a : Nat) : Nat := abits a 21 15 ^^^ abits a 28 22
/-- The 256-byte block within the row (R54). -/
def colOf (a : Nat) : Nat := abits a 14 13
/-- What folds into the channel besides a[12:8] (R54). -/
def chanFold (a : Nat) : Nat :=
  abits a 17 13 ^^^ abits a 22 18 ^^^ abits a 27 23 ^^^ abits a 32 28 ^^^ abits a 36 33
/-- The channel of an address (R54). -/
def chanOf (a : Nat) : Nat := abits a 12 8 ^^^ chanFold a
/-- The chunk within the row (R54). -/
def chunkOf (a : Nat) : Nat := 2 * colOf a + abits a 7 7
/-- The granule within the row, 0 to 15. -/
def granOf (a : Nat) : Nat := 2 * chunkOf a + abits a 6 6

/-- The inverse of the interleave (R54): the address of granule `g` (0 to 15) of row `row` of bank `bank` of channel
`ch`. -/
def addrOf (ch bank row g : Nat) : Nat :=
  let hi := row / 8192 * 2 ^ 35 + row % 8192 * 2 ^ 22
  let hi := hi + (bank ^^^ abits hi 28 22) * 2 ^ 15
  let hi := hi + g / 4 % 4 * 2 ^ 13
  hi + (ch ^^^ chanFold hi) * 2 ^ 8 + g % 4 * 2 ^ 6

/-- The die of a bank (R13). -/
def dieOf (bank : Nat) : Nat := bank / 8
/-- The bank group of a bank, told apart over the dies (R13). -/
def groupOf (bank : Nat) : Nat := bank / 4

/-- The first mooring spare row (R50, R181). -/
def spareRow0 (tPart : Bool) : Nat := if tPart then 24512 else 24520

/-- The readiness of cluster `k` (R298). -/
def State.cluReady (s : State) (k : Nat) : Bool := s.ready.getLsbD k

/-- Slice (`c`, `d`) is retired, by itself or with its channel (R56). -/
def retiredSlice (s : State) (c d : Nat) : Bool :=
  let i := (s.chan c).i
  i.retChan || i.retSlices.getLsbD d

/-- The granules at `a` are retired (R56). -/
def retiredAt (s : State) (a : Nat) : Bool := retiredSlice s (chanOf a) (dieOf (bankOf a))

/-- Checks 2 to 4 of R61 on the aligned range of `len` bytes at `a`: the status of the first that fails. -/
def addrCheck (s : State) (a len : Nat) : Option Nat :=
  if a + len > hvTop s.tenderPart then some stUNMAPPED
  else if !s.cluReady (cluOf (chanOf a)) then some stNOTREADY
  else if retiredAt s a then some stRETIRED
  else none

end Sys2Proof.Machine
end

