-- ==== Sys2Proof/Machine/Code.lean ====
section
/-! DEFINITION. The stored-data code (R163 to R166): a Reed–Solomon code of 68 symbols over GF(2^8) with four check
symbols, its poison word, and the decoder in its three modes. -/

namespace Sys2Proof.Machine

/-- Multiplication by α = 0x02 in GF(2^8) with field polynomial 0x11D (R163). -/
def gfX (x : BitVec 8) : BitVec 8 := (x <<< 1) ^^^ (if x.msb then 0x1D#8 else 0#8)

/-- Multiplication by α^n. -/
def gfXn : Nat → BitVec 8 → BitVec 8
  | 0, x => x
  | n + 1, x => gfX (gfXn n x)

/-- The product of two field elements: the sum of `a`·α^i over the bits i of `b`. -/
def gfMul (a b : BitVec 8) : BitVec 8 :=
  (List.range 8).foldl (fun r i => if b.getLsbD i then r ^^^ gfXn i a else r) 0

/-- The inverse of a non-zero element: its 254th power. -/
def gfInv (a : BitVec 8) : BitVec 8 :=
  ((List.range 7).foldl (fun (rp : BitVec 8 × BitVec 8) _ =>
    let q := gfMul rp.2 rp.2
    (gfMul rp.1 q, q)) (1, a)).1

/-- α^n. -/
def gfPow (n : Nat) : BitVec 8 := gfXn (n % 255) 1

/-- Σ c_j·α^(i·j) over a list of c_j from j = 0 upward. -/
def gfSum (i : Nat) (c : List (BitVec 8)) : BitVec 8 := c.foldr (fun x acc => gfXn i acc ^^^ x) 0

/-- The codeword polynomial of a granule (R163): its check symbols are c_0 to c_3, its data symbols c_4 to c_67. -/
def codeword (data chk : List (BitVec 8)) : List (BitVec 8) := chk ++ data

/-- The four syndromes S_0 to S_3 (R163). -/
abbrev Syn := BitVec 8 × BitVec 8 × BitVec 8 × BitVec 8

def syndromes (c : List (BitVec 8)) : Syn := (gfSum 0 c, gfSum 1 c, gfSum 2 c, gfSum 3 c)

/-- The check symbols that give the word with data symbols `data` the syndromes `t`: the inverse of the matrix α^(i·j),
i, j = 0 to 3, applied to what the data leave to be cancelled. -/
def checksFor (t : Syn) (data : List (BitVec 8)) : List (BitVec 8) :=
  let d := syndromes (codeword data [0, 0, 0, 0])
  let a := d.1 ^^^ t.1
  let b := d.2.1 ^^^ t.2.1
  let e := d.2.2.1 ^^^ t.2.2.1
  let f := d.2.2.2 ^^^ t.2.2.2
  [gfMul 0x2B a ^^^ gfMul 0xB7 b ^^^ gfMul 0xE4 e ^^^ gfMul 0x79 f,
   gfMul 0xB7 a ^^^ gfMul 0x21 b ^^^ gfMul 0x04 e ^^^ gfMul 0x92 f,
   gfMul 0xE4 a ^^^ gfMul 0x04 b ^^^ gfMul 0xA9 e ^^^ gfMul 0x49 f,
   gfMul 0x79 a ^^^ gfMul 0x92 b ^^^ gfMul 0x49 e ^^^ gfMul 0xA2 f]

/-- The check symbols of a granule that is not poisoned (R163). -/
def checks (data : List (BitVec 8)) : List (BitVec 8) := checksFor (0, 0, 0, 0) data

/-- The data of a granule stored as poisoned (R166). -/
def poisonData : List (BitVec 8) := List.replicate 64 0

/-- The check symbols of a poisoned granule (R166). -/
def poisonChecks : List (BitVec 8) := checksFor (0, 0, 0, 1) poisonData

/-- The place in the codeword polynomial of symbol `k` (R163). -/
def symPlace (k : Nat) : Nat := if k < 64 then k + 4 else k - 64

/-- The symbol at place `j` of the codeword polynomial. -/
def placeSym (j : Nat) : Nat := if j < 4 then j + 64 else j - 4

/-- The unknown single error whose syndromes, weighted by `w` of its place, are `t0`, `t1` and the rest `ts`: its place and
its value. -/
def oneError (w : Nat → BitVec 8) (bad : List Nat) (t : List (BitVec 8)) : Option (Nat × BitVec 8) :=
  match t with
  | [] => none
  | t0 :: ts =>
    (List.range 68).findSome? (fun j =>
      let ok := (ts.foldl (fun (acc : Bool × BitVec 8) x =>
        let n := gfMul acc.2 (gfPow j)
        (acc.1 && x == n, n)) (t0 != 0, t0)).1
      if ok && !(bad.contains j) then some (j, gfMul t0 (gfInv (w j))) else none)

/-- The corrections of a word with the syndromes `s` under the erased places `er` (R165): nothing where it is already a
codeword, `none` where it is uncorrectable. Each correction is a place and what is added there. -/
def correct (er : List Nat) (s : Syn) : Option (List (Nat × BitVec 8)) :=
  if s = (0, 0, 0, 0) then some []
  else
    let nz := fun (l : List (Nat × BitVec 8)) => l.filter (fun x => x.2 != 0)
    match er with
    | [] => (oneError (fun _ => 1) [] [s.1, s.2.1, s.2.2.1, s.2.2.2]).map (fun x => [x])
    | [u] =>
      let au := gfPow u
      let t0 := s.2.1 ^^^ gfMul au s.1
      let t1 := s.2.2.1 ^^^ gfMul au s.2.1
      let t2 := s.2.2.2 ^^^ gfMul au s.2.2.1
      if t0 = 0 ∧ t1 = 0 ∧ t2 = 0 then some (nz [(u, s.1)])
      else (oneError (fun j => gfPow j ^^^ au) [u] [t0, t1, t2]).map
        (fun x => nz [(u, s.1 ^^^ x.2), x])
    | u :: v :: _ =>
      let au := gfPow u
      let av := gfPow v
      let t0 := s.2.1 ^^^ gfMul au s.1
      let t1 := s.2.2.1 ^^^ gfMul au s.2.1
      let t2 := s.2.2.2 ^^^ gfMul au s.2.2.1
      let w0 := t1 ^^^ gfMul av t0
      let w1 := t2 ^^^ gfMul av t1
      let d := gfInv (av ^^^ au)
      if w0 = 0 ∧ w1 = 0 then
        let y := gfMul t0 d
        some (nz [(u, s.1 ^^^ y), (v, y)])
      else (oneError (fun j => gfMul (gfPow j ^^^ au) (gfPow j ^^^ av)) [u, v] [w0, w1]).map
        (fun x =>
          let y := gfMul (t0 ^^^ gfMul x.2 (gfPow x.1 ^^^ au)) d
          nz [(u, s.1 ^^^ y ^^^ x.2), (v, y), x])

/-- The outcome of a decode (R167). `corrected` gives the corrected data and check symbols and the corrections, by
symbol. -/
inductive Decoded where
  | clean
  | corrected (data chk : List (BitVec 8)) (fix : List (Nat × BitVec 8))
  | poisoned
  | uncorrectable
  deriving DecidableEq, Repr

/-- The word with corrections added at their places. -/
def applyFix (c : List (BitVec 8)) (fix : List (Nat × BitVec 8)) : List (BitVec 8) :=
  fix.foldl (fun c f => c.modify f.1 (· ^^^ f.2)) c

/-- The decode of a granule as read, with the erased symbols of the channel (R165 to R167). The decoder tests for poison
first. -/
def decode (erased : List Nat) (data chk : List (BitVec 8)) : Decoded :=
  let c := codeword data chk
  let s := syndromes c
  let er := erased.map symPlace
  match correct er (s.1, s.2.1, s.2.2.1, s.2.2.2 ^^^ 1) with
  | some _ => .poisoned
  | none =>
    match correct er s with
    | some [] => .clean
    | some fix =>
      let d := applyFix c fix
      .corrected (d.drop 4) (d.take 4) (fix.map (fun f => (placeSym f.1, f.2)))
    | none => .uncorrectable

end Sys2Proof.Machine
end

