-- ==== Sys2Proof/Machine/Memory.lean ====
section
/-! DEFINITION. The cells of the dies (R11, R163 to R166, R181): data bytes by stack address in `State.mem`, check symbols
in `State.chk` under the key 4·granule + j. Both lists are in rising key order and hold no byte equal to 0, which is
what an unlisted byte reads as (log entry 2). -/

namespace Sys2Proof.Machine

/-- The list without a cell at `k`. -/
def cellErase : List Host.Cell → Nat → List Host.Cell
  | [], _ => []
  | (j, w) :: t, k => if k = j then t else if k < j then (j, w) :: t else (j, w) :: cellErase t k

/-- One byte written: a zero byte is not listed. -/
def cellPut (m : List Host.Cell) (k : Nat) (v : BitVec 8) : List Host.Cell :=
  if v = 0 then cellErase m k else tset m k v

/-- The byte at `k`: 0 where nothing has been written. -/
def cellGet (m : List Host.Cell) (k : Nat) : BitVec 8 := tget 0 m k

/-- The canonical form: rising keys, no zero byte listed. -/
def cellsWf : List Host.Cell → Bool
  | [] => true
  | (k, v) :: t => v != 0 && (match t with | [] => true | (j, _) :: _ => decide (k < j)) && cellsWf t

/-- Consecutive bytes written from key `k`. -/
def cellsPut (m : List Host.Cell) (k : Nat) : List (BitVec 8) → List Host.Cell
  | [] => m
  | b :: bs => cellsPut (cellPut m k b) (k + 1) bs

/-- `n` consecutive bytes from key `k`. -/
def cellsGet (m : List Host.Cell) (k n : Nat) : List (BitVec 8) := (List.range n).map (fun i => cellGet m (k + i))

/-- The memory of a state is in canonical form. -/
def Memory.wf (s : State) : Bool := cellsWf s.mem && cellsWf s.chk

/-- The byte of the cells at stack address `a`. -/
def State.byte (s : State) (a : Nat) : BitVec 8 := cellGet s.mem a

/-- The mooring entry of a channel that redirects granule `j` of row `row` of bank `bank` (R181). -/
def moorHit (i : Integ) (bank row j : Nat) : Option Nat :=
  (List.range 32).find? (fun n => match tget none i.mooring n with
    | some m => m.bank = bank ∧ m.row = row ∧ m.mask.getLsbD j
    | none => false)

/-- The granule whose cells hold granule `g` (R181): its own, or the spare row's.
DEDUCED, log entry 35. -/
def physGran (s : State) (g : Nat) : Nat :=
  let a := 64 * g
  match moorHit (s.chan (chanOf a)).i (bankOf a) (rowOf a) (granOf a) with
  | some n => addrOf (chanOf a) (bankOf a) (spareRow0 s.tenderPart + n) (granOf a) / 64
  | none => g

/-- The granule that is served from granule place `j` of row `r` of a bank (R181): in a mooring spare row the redirected one, if any;
elsewhere its own, unless it is redirected. -/
def livesAt (s : State) (ch b r j : Nat) : Option Nat :=
  let sp := spareRow0 s.tenderPart
  if sp ≤ r ∧ r < sp + 32 then
    match tget none (s.chan ch).i.mooring (r - sp) with
    | some m => if m.bank = b ∧ m.mask.getLsbD j then some (addrOf ch b m.row j / 64) else none
    | none => none
  else
    let g := addrOf ch b r j / 64
    if physGran s g = g then some g else none

/-- The further places at which a write to granule `g` is applied while a move of it is in progress (R182, R184, R185, R413): from the copy of
the granule on. -/
def movePlaces (s : State) (g : Nat) : List Nat :=
  let a := 64 * g
  ((s.chan (chanOf a)).i.moves.filter (fun m => m.bank = bankOf a ∧ m.row = rowOf a ∧ m.mask.getLsbD (granOf a) ∧
      !m.todo.contains (granOf a))).map
    (fun m => if m.back || m.entry = latchMove then g
      else addrOf (chanOf a) (bankOf a) (spareRow0 s.tenderPart + m.entry) (granOf a) / 64)

/-- The codeword `data`, `chk` written into the cells of granule `p`. -/
def putCells (p : Nat) (data chk : List (BitVec 8)) (s : State) : State :=
  { s with mem := cellsPut s.mem (64 * p) data, chk := cellsPut s.chk (4 * p) chk }

/-- Granule `g` written at every place it has (R163, R166, R181, R182): `none` stores it as poisoned. -/
def putGran (g : Nat) (v : Option (List (BitVec 8))) (s : State) : State :=
  let d := v.getD poisonData
  let c := match v with | some d => checks d | none => poisonChecks
  (physGran s g :: movePlaces s g).foldl (fun s p => putCells p d c s) s

/-- The word that a read of granule `g` finds, with the symbols in `errs` read wrongly. -/
def readGran (s : State) (g : Nat) (errs : List (Nat × BitVec 8)) : List (BitVec 8) × List (BitVec 8) :=
  let p := physGran s g
  let c := applyFix (codeword (cellsGet s.mem (64 * p) 64) (cellsGet s.chk (4 * p) 4))
    (errs.map (fun e => (symPlace e.1, e.2)))
  (c.drop 4, c.take 4)

/-- The symbols that the declared positions of a channel erase (R165). -/
def erasedOf (i : Integ) : List Nat := (i.declared.map (· / 4)).dedup

/-- The value of a little-endian list of bytes (R6). -/
def leNat : List (BitVec 8) → Nat
  | [] => 0
  | b :: bs => b.toNat + 256 * leNat bs

/-- `n` bytes of a number, least significant first (R6). -/
def leBytes : Nat → Nat → List (BitVec 8)
  | 0, _ => []
  | n + 1, v => BitVec.ofNat 8 v :: leBytes n (v / 256)

end Sys2Proof.Machine
end

