-- ==== Sys2Proof/Machine/Sector.lean ====
section
/-! DEFINITION. The arbiter of the sector classes (R188 to R204): budgets, places, holds, effective place counts. -/

namespace Sys2Proof.Machine

/-- A budget under throttle level `k` (R202). -/
def throttled (k b : Nat) : Nat := if b = 0 then 0 else max 1 (b / 2 ^ k)

/-- The PORT, TND and STACK budgets that act now (R189, R202, R204). -/
def Sec.portBudget (x : Sec) (c : Nat) : Nat := throttled x.k (min (tget 512 x.port c) 512)
def Sec.tndBudget (x : Sec) (c : Nat) : Nat := throttled x.k (min (tget 2048 x.tnd c) 2048)
def Sec.stkBudget (x : Sec) (c : Nat) : Nat := throttled x.k (min (tget 24576 x.stk c) 24576)

/-- The admitted count P_c (R198). -/
def Sec.p (x : Sec) (c : Nat) : Nat := tget 0 x.adm c
/-- Class `c` has a guarantee (R39, R198). -/
def Sec.guar (x : Sec) (c : Nat) : Bool := c == 7 || x.p c != 0
/-- EFF_c (R200). -/
def Sec.effOf (x : Sec) (c : Nat) : Nat := if c = 7 then 1 else tget 0 x.eff c

/-- The high-water mark that acts (R204). -/
def Sec.hwmEff (x : Sec) : Nat := max 32 (min x.hwm 120)

/-- U of R193. -/
def Sec.u (x : Sec) : Nat :=
  min x.hwmEff (120 - ((List.range 7).filter (fun c => x.guar c)).foldl (fun n c => n + x.effOf c) 0)

/-- Places that class `c` uses in a channel. -/
def Sched.used (q : Sched) (c : Nat) : Nat := tget 0 q.places c

/-- Places that the classes without a guarantee use in a channel (R193). -/
def freeUsed (x : Sec) (q : Sched) : Nat :=
  ((List.range 7).filter (fun c => !x.guar c)).foldl (fun n c => n + q.used c) 0

/-- The channel holds class `c` for new commits (R193). -/
def holdsClass (x : Sec) (q : Sched) (c : Nat) : Bool :=
  if c = 7 then q.used 7 ≥ 1
  else if x.guar c then q.used c ≥ x.effOf c
  else
    let r := ((List.range 7).filter (fun d => !x.guar d && d > c)).length
    freeUsed x q + 4 * r ≥ x.u

/-- After a change of places or limits each hold newly raised for a class without a guarantee is counted (R193, R204). -/
def refreshHolds (ch : Nat) (s : State) : State :=
  let q := (s.chan ch).q
  let now := (List.range 7).foldl (fun (w : BitVec 8) c =>
    if !s.sec.guar c && holdsClass s.sec q c then w ||| (1#8 <<< c) else w) 0
  let rising := ((List.range 7).filter (fun c => now.getLsbD c && !q.holds.getLsbD c)).length
  let s := if now = q.holds then s else s.modSched ch (fun q => { q with holds := now })
  if rising = 0 then s
  else s.modSec (fun x => { x with holdCnt := satAdd x.holdCnt rising, evt := x.evt.raise 2 })

/-- The counts a commit takes (R190, R204): source `src` (0 to 31 a port, 32 + t a Tender cluster) and class. -/
def takeCounts (src c : Nat) (s : State) : State :=
  s.modSec (fun x => { x with
    out := tset x.out c (tget 0 x.out c + 1)
    srcOut := tset x.srcOut (8 * src + c) (tget 0 x.srcOut (8 * src + c) + 1)
    commit := tset x.commit c (tget 0 x.commit c + 1) })

/-- The counts are released (R190). -/
def releaseCounts (src c : Nat) (s : State) : State :=
  s.modSec (fun x => { x with
    out := tset x.out c (tget 0 x.out c - 1)
    srcOut := tset x.srcOut (8 * src + c) (tget 0 x.srcOut (8 * src + c) - 1) })

/-- The tags of port `p` that went to RECOVER hold nothing any more: their requests have ended under R41 (R125, R190). -/
def recoverRelease (p : Nat) (s : State) : State :=
  let ts := (s.port p).fr.tags.filter (fun y => y.2.st == .recover && y.2.holds)
  if ts.isEmpty then s
  else (ts.foldl (fun s y => releaseCounts p y.2.sect s) s).modPort p (fun x => { x with fr := { x.fr with
    tags := x.fr.tags.map (fun y => if y.2.st == .recover then (y.1, { y.2 with holds := false }) else y) } })

/-- A place of channel `ch` is taken or released (R190, R193). -/
def takePlace (ch c : Nat) (s : State) : State :=
  refreshHolds ch (s.modSched ch (fun q => { q with places := tset q.places c (q.used c + 1) }))
def releasePlace (ch c : Nat) (s : State) : State :=
  refreshHolds ch (s.modSched ch (fun q => { q with places := tset q.places c (q.used c - 1) }))

/-- The class budgets admit a request of class `c` from source `src` (R191 conditions 1 and 2). -/
def budgetsAdmit (x : Sec) (src c : Nat) : Bool :=
  tget 0 x.srcOut (8 * src + c) < (if src < 32 then x.portBudget c else x.tndBudget c) &&
    tget 0 x.out c < x.stkBudget c

/-! ### Effective place counts -/

/-- The class whose remainder is largest, the higher class on a tie; `rem` lists class and remainder. -/
def largestRem (rem : List (Nat × Nat)) : Option Nat :=
  (rem.foldl (fun (best : Option (Nat × Nat)) x => match best with
    | none => some x
    | some b => if x.2 ≥ b.2 then some x else some b) none).map (·.1)

/-- The places left over, handed out one by one (R200). -/
def handOut : Nat → List (Nat × Nat) → List Nat
  | 0, _ => []
  | n + 1, rem =>
    match largestRem rem with
    | none => []
    | some c => c :: handOut n (rem.filter (fun x => x.1 ≠ c))

/-- EFF_0 to EFF_6 with n and q, from the admitted counts `p`, D_MIN and the throttle level (R200). -/
def effCompute (p : List Nat) (dMin k : Nat) : List Nat × Nat × Nat :=
  let sum := p.foldl (· + ·) 0
  if sum = 0 then (List.replicate 7 0, 0, 0)
  else
    let n := min (dMin - 1) sum
    let q := sum * 2 ^ k
    let t := sum * n / q
    let g := (List.range 7).filter (fun c => p.getD c 0 > 0)
    let base := fun c => p.getD c 0 * n / q
    let left := t - g.foldl (fun a c => a + base c) 0
    let extra := handOut left (g.map (fun c => (c, p.getD c 0 * n % q)))
    ((List.range 7).map (fun c => if p.getD c 0 > 0 then base c + (if extra.contains c then 1 else 0) else 0), n, q)

/-- D of a frequency step (R196). -/
def dOf (step : Nat) : Nat := match step with | 0 => 6 | 1 => 5 | 2 => 5 | _ => 3

/-- The effective step of a cluster for D_MIN (R197): from T1 to the end of T3 the lower frequency of the step that it leaves and the
one that it goes to. -/
def Clu.effStep (u : Clu) : Nat := if u.inStep then max u.stepFrom u.stepTo else u.step

/-- D_MIN and N_LIVE now; they keep their values while no cluster is ready (R197). -/
def liveCounts (s : State) : Nat × Nat :=
  let ks := (List.range 8).filter (fun k => s.cluReady k)
  let liveCh := fun k => ((List.range 4).filter (fun j => !(s.chan (4 * k + j)).i.retChan)).length
  if ks.isEmpty then (s.sec.dMin, s.sec.nLive)
  else
    let use := ks.filter (fun k => liveCh k > 0)
    (match use.map (fun k => dOf (s.clu k).effStep) with
      | [] => s.sec.dMin
      | d :: ds => ds.foldl min d,
     ks.foldl (fun n k => n + liveCh k) 0)

/-- Condition 4 of R199 for the admitted counts `p` and PORT budgets `b` (as written, each limited to 512). -/
def cond4 (p b : Nat → Nat) : Bool :=
  ((List.range 7).filter (fun c => p c ≠ 0)).foldl (fun n c => n + min (b c) 512) 0 ≤ 224

end Sys2Proof.Machine
end

