-- ==== Sys2Proof/Machine/Integrity.lean ====
section
/-! DEFINITION. The decode of granules with its consequences (R165 to R167, R174, R186, R187, R375 checker 0), and the
application of an access to a granule (R106, R129, R223, R230, R233). -/

namespace Sys2Proof.Machine

/-- Bits [63:0] of a DCC_DATA payload (R187). -/
def integDetail (ch bank row gran sym pos event : Nat) : BitVec 64 :=
  BitVec.ofNat 64 (ch + bank * 2 ^ 5 + row * 2 ^ 12 + gran * 2 ^ 27 + sym * 2 ^ 32 + pos * 2 ^ 39 + event * 2 ^ 48)

/-- The DCC_DATA payload of an event of granule `g` (R187). -/
def granDetail (g sym pos event : Nat) : BitVec 64 :=
  let a := 64 * g
  integDetail (chanOf a) (bankOf a) (rowOf a) (granOf a) sym pos event

/-- A DCC_DATA record (R187, R343). -/
def dccRecord (ch : Nat) (c : Cls) (detail : BitVec 64) (count : Nat) (s : State) : State :=
  emit { unit := 0x04, inst := ch, cls := c, payload := .value (BitVec.ofNat 32 count ++ detail) } s

/-- What a read of one granule gives to the accesses it serves (R167). -/
inductive GranRes where
  | data (d : List (BitVec 8))
  | poison
  | unc
  deriving DecidableEq, Repr

/-- The armed injection that applies to checker `c` and unit `u` (R375).
DEDUCED, log entry 38. -/
def injArmed (s : State) (c u : Nat) : Option Inj :=
  match s.flt.inj with
  | some i => if i.checker = c ∧ i.unit = u ∧ i.remaining > 0 then some i else none
  | none => none

/-- One injection has been applied (R375). -/
def injUse (s : State) : State :=
  s.modFlt (fun f => { f with inj := match f.inj with
    | some i => if i.remaining ≤ 1 then none else some { i with remaining := i.remaining - 1, last := some s.day.tick }
    | none => none })

/-- The data-class position on which all error bits of the corrections fall (R164, R174). -/
def oneTsv (fix : List (Nat × BitVec 8)) : Option Nat :=
  match fix with
  | [f] => (List.range 4).findSome? (fun m =>
      if (List.range 8).all (fun b => !f.2.getLsbD b || b % 4 = m) then some (4 * f.1 + m) else none)
  | _ => none

/-- A TSV comes under suspicion in tick `n` (R174): one that is suspected or declared already stays as it is. -/
def Integ.suspect (n t : Nat) (i : Integ) : Integ :=
  if i.suspects.any (fun x => x.1 = t) || i.declared.contains t then i else { i with suspects := i.suspects ++ [(t, n)] }

/-- A granule was corrected (R167, R174, R186, R187). `inj` marks an injected error, which leads to no attribution and no
visit (R375). -/
def countCE (g : Nat) (fix : List (Nat × BitVec 8)) (inj : Bool) (s : State) : State :=
  let ch := chanOf (64 * g)
  let er := erasedOf (s.chan ch).i
  let sym := match fix.filter (fun f => !(er.contains f.1)) with | f :: _ => f.1 | [] => 0x7F
  let pos := oneTsv fix
  let det := granDetail g sym (pos.getD 0x1FF) 0x1
  let s := s.modInteg ch (fun i => { i with
    cnt := { i.cnt with ce := satInc i.cnt.ce }
    ceFirst := if i.ceTick = 0 then det else i.ceFirst
    ceTick := i.ceTick + 1
    visits := if inj || i.visits.contains g then i.visits else i.visits ++ [g]
    teErr := match pos with | some p => if inj then i.teErr else tset i.teErr p (tget 0 i.teErr p + 1) | none => i.teErr })
  let s := match pos with
    | some p => if !inj && tget 0 (s.chan ch).i.teErr p = 16 then s.modInteg ch (Integ.suspect s.day.tick p) else s
    | none => s
  raiseInj 9 ch .c1 det inj s

/-- A write that reaches the cells of granule `g` waits in the queue (R137, R167, R173). -/
def writeQueued (s : State) (ch g : Nat) : Bool :=
  let q := (s.chan ch).q
  (q.queue ++ q.link).any (fun e => e.op != .read &&
    (List.range 2).any (fun h => e.need.getLsbD h && (2 * e.chunk + h = g || physGran s (2 * e.chunk + h) = g)))

/-- A later write, which replaces what a read of granule `g` has found, waits in the queue (R137, R167). -/
def writeLater (q : Sched) (g : Nat) : Bool :=
  (q.queue ++ q.link).any (fun e => e.chunk = g / 2 && e.need.getLsbD (g % 2) && (match e.op with | .write .. => true | _ => false))

/-- A granule was found uncorrectable (R167, R187): it is written as poisoned unless a later write is queued. -/
def countUE (g : Nat) (inj : Bool) (s : State) : State :=
  let ch := chanOf (64 * g)
  let det := granDetail g 0x7F 0x1FF 0x2
  let later := writeLater (s.chan ch).q g
  let s := if inj || later then s else putGran g none s
  let s := s.modInteg ch (fun i => { i with
    cnt := { i.cnt with ue := satInc i.cnt.ue }
    visits := if inj || i.visits.contains g then i.visits else i.visits ++ [g]
    rereads := if inj || later || i.rereads.contains g then i.rereads else i.rereads ++ [g] })
  raiseInj 10 ch .c2 det inj (dccRecord ch .c2 det 0 s)

/-- The decode of granule `g` as it is read now (R165 to R167), the stored word with the symbols of `errs` read wrongly;
`fill` tells a fill of the merge buffer, whose entry writes the poison back itself (R169). -/
def decodeGran (g : Nat) (errs : List (Nat × BitVec 8)) (fill : Bool) (s : State) : State × GranRes × Bool :=
  let ch := chanOf (64 * g)
  let er := erasedOf (s.chan ch).i
  let w := readGran s g errs
  match decode er w.1 w.2 with
  | .clean =>
    match injArmed s 0 ch with
    | none => (s, .data w.1, false)
    | some i =>
      let s := injUse s
      if i.two && er.length ≥ 2 then (countUE g true s, .unc, false)
      else
        let syms := ([64, 65, 66, 67].filter (fun k => !(er.contains k))).take (if i.two then 2 else 1)
        let c := applyFix (codeword w.1 w.2) (syms.map (fun k => (symPlace k, 1)))
        match decode er (c.drop 4) (c.take 4) with
        | .uncorrectable => (countUE g true s, .unc, false)
        | .corrected _ _ fix => (countCE g fix true s, .data w.1, false)
        | _ => (s, .data w.1, false)
  | .corrected d _ fix => (countCE g fix false s, .data d, true)
  | .poisoned =>
    (s.modInteg ch (fun i => { i with cnt := { i.cnt with poisonRd := satInc i.cnt.poisonRd } }), .poison, false)
  | .uncorrectable =>
    if fill then
      let det := granDetail g 0x7F 0x1FF 0x2
      let s := s.modInteg ch (fun i => { i with
        cnt := { i.cnt with ue := satInc i.cnt.ue }
        visits := if i.visits.contains g then i.visits else i.visits ++ [g] })
      (raise 10 ch .c2 det (dccRecord ch .c2 det 0 s), .unc, false)
    else (countUE g false s, .unc, false)

/-! ### Failing TSVs -/

/-- The spare of a class that is in state `st`, the lowest first. -/
def spareAt (t : List (Nat × SpareSt)) (n : Nat) (st : SpareSt) : Option Nat :=
  (List.range n).find? (fun k => tget .free t k = st)

/-- The position that a failing data-class TSV leaves to be carried: a spare in use stands for what it carries. -/
def dataPos (i : Integ) (t : Nat) : Option Nat :=
  if t < 272 then some t
  else match tget .free i.spareD (t - 272) with
    | .carries p => some p
    | _ => none

/-- What the handling of a failing TSV reports (R175, R177): nothing, a spare assignment, a withdrawn spare, a declared position that
erases no further symbol, the first one, or the second one. -/
inductive TsvAct where
  | nothing
  | spared (p : Nat)
  | spareFailed (t : Nat)
  | again (p : Nat)
  | erased (p : Nat)
  | migrate (p : Nat)
  deriving DecidableEq, Repr

/-- A failing data-class TSV at the boundary after its test (R175); `tick` is the tick that the boundary begins. -/
def Integ.failData (tick t : Nat) (i : Integ) : Integ × TsvAct :=
  match dataPos i t with
  | none =>
    if tget .free i.spareD (t - 272) = .free then
      ({ i with spareD := tset i.spareD (t - 272) .withdrawn, failing := i.failing ++ [t] }, .spareFailed t)
    else (i, .nothing)
  | some p =>
    if i.declared.contains p then (i, .nothing)
    else
      -- the spare that carried the position, if any, is withdrawn
      let was := spareAt i.spareD 8 (.carries p)
      let i := { i with
        failing := i.failing ++ [match was with | some k => 272 + k | none => t]
        spareD := match was with | some k => tset i.spareD k .withdrawn | none => i.spareD }
      let er := erasedOf i
      let fixed := { i with repaired := i.repaired ++ [(p, tick)] }
      match spareAt i.spareD 8 .free with
      | some k => ({ fixed with spareD := tset i.spareD k (.carries p), cnt := { i.cnt with tsvSpared := satInc i.cnt.tsvSpared } }, .spared p)
      | none =>
        if er.contains (p / 4) then ({ fixed with declared := i.declared ++ [p] }, .again p)
        else if er.length = 0 then ({ fixed with declared := i.declared ++ [p] }, .erased p)
        else if er.length = 1 then ({ fixed with declared := i.declared ++ [p] }, .migrate p)
        else ({ i with pend := { i.pend with channel := true } }, .nothing)

/-- A failing command-class TSV at the boundary after its test (R177); `dies` cannot receive it. -/
def Integ.failCmd (n : Nat) (dies : BitVec 16) (i : Integ) : Integ × TsvAct :=
  let i := { i with failing := i.failing ++ [280 + n] }
  if 36 ≤ n ∧ n < 40 then ({ i with pend := { i.pend with channel := true } }, .nothing)
  else
    let st := tget .free i.spareC (n - 40)
    if n ≥ 40 ∧ st = .free then ({ i with spareC := tset i.spareC (n - 40) .withdrawn }, .spareFailed n)
    else
      match (if n < 40 then some n else (match st with | .carries p => some p | _ => none)) with
      | none => (i, .nothing)
      | some t =>
        let i := { i with spareC := match spareAt i.spareC 4 (.carries t) with | some k => tset i.spareC k .withdrawn | none => i.spareC }
        match spareAt i.spareC 4 .free with
        | some k => ({ i with spareC := tset i.spareC k (.carries t), cnt := { i.cnt with tsvSpared := satInc i.cnt.tsvSpared } }, .spared t)
        | none => ({ i with pend := { i.pend with slices := i.pend.slices ||| dies } }, .nothing)

/-- The channel as the failures found in this tick leave it at the coming boundary. -/
def Integ.coming (i : Integ) : Integ :=
  let j := i.pend.data.foldl (fun (i : Integ) t => (i.failData 0 t).1) i
  i.pend.cmd.foldl (fun (j : Integ) c => (j.failCmd c.1 c.2).1) j

/-- What has been found in this tick retires slice `d` of the channel, or all of it, at the coming boundary (R175, R177, R178), or it is
retired already: no command goes to it. -/
def doomed (i : Integ) (d : Nat) : Bool :=
  i.retChan || i.retSlices.getLsbD d ||
    (i.pend != {} && (let p := i.coming.pend; p.channel || p.slices.getLsbD d))

/-! ### Applying an access -/

/-- Bytes `a` to `a + n - 1` of a list. -/
def slice (l : List (BitVec 8)) (a n : Nat) : List (BitVec 8) := (l.drop a).take n

/-- The list with the bytes from `a` replaced. -/
def patch (l : List (BitVec 8)) (a : Nat) (b : List (BitVec 8)) : List (BitVec 8) :=
  l.take a ++ b ++ l.drop (a + b.length)

/-- The new value of an atomic (R106). -/
def atomicOp (opc : BitVec 8) (old x y : Word64) : Word64 :=
  if opc = 0x10 then old + x
  else if opc = 0x11 then x
  else if opc = 0x12 then (if old = x then y else old)
  else if opc = 0x13 then old &&& x
  else if opc = 0x14 then old ||| x
  else if opc = 0x15 then old ^^^ x
  else if opc = 0x16 then (if old.slt x then x else old)
  else if opc = 0x17 then (if x.slt old then x else old)
  else if opc = 0x18 then (if old.ult x then x else old)
  else (if x.ult old then x else old)

/-- The region in effect that holds stack address `a` (R228, R233): its unit exponent. -/
def regionAt (s : State) (a : Nat) : Option Int :=
  (List.range 64).findSome? (fun n => match tget none s.regions n with
    | some r => if r.base ≤ a ∧ a < r.base + 4096 * r.pages then some r.e else none
    | none => none)

/-- The accumulations of granule `g` (0 or 1) of a chunk applied to its 64 bytes `d` (R129, R212 to R214, R230). `en` enables
4-byte halves of the chunk, `add` lists the chunk's addends. -/
def applyRacc (fwE : Int) (op : RaccOp) (ty : Ty) (en : BitVec 32) (g : Nat) (add d : List (BitVec 8)) :
    List (BitVec 8) × BitVec 6 :=
  if op = .fw then
    (List.range 8).foldl (fun acc u =>
      if en.getLsbD (16 * g + 2 * u) then
        let x := f64.decode (leNat (slice add (64 * g + 8 * u) 8))
        let o := 16 * (u / 2)
        let r := fwAdd fwE (BitVec.ofNat 128 (leNat (slice acc.1 o 16))) x
        (patch acc.1 o (leBytes 16 r.1.toNat), acc.2 ||| r.2)
      else acc) (d, 0)
  else
    let w := ty.size
    (List.range (64 / w)).foldl (fun acc n =>
      if en.getLsbD (16 * g + n * w / 4) then
        let r := ty.combine op (leNat (slice acc.1 (n * w) w)) (leNat (slice add (64 * g + n * w) w))
        (patch acc.1 (n * w) (leBytes w r.1), acc.2 ||| r.2)
      else acc) (d, 0)

/-- The chunk's granules that an access touches. -/
def AccOp.touches : AccOp → BitVec 2
  | .read => 3
  | .write _ en _ =>
    (if en.extractLsb' 0 8 = 0 then 0 else 1) ||| (if en.extractLsb' 8 8 = 0 then 0 else 2)
  | .atomic _ u _ _ => if u < 8 then 1 else 2
  | .racc _ _ en _ => (if en.extractLsb' 0 16 = 0 then 0 else 1) ||| (if en.extractLsb' 16 16 = 0 then 0 else 2)
  | .put4 u _ _ => if u < 8 then 1 else 2
  | .fin _ u _ => if u < 8 then 1 else 2

/-- The write covers part of granule `g` but not the whole of it (R168). -/
def AccOp.partialAt (o : AccOp) (g : Nat) : Bool :=
  match o with
  | .write _ en _ => en.extractLsb' (8 * g) 8 != 0 && en.extractLsb' (8 * g) 8 != 0xFF
  | _ => false

/-- The access reads the granule and writes it back as one access (R18, R106, R129, R223). -/
def AccOp.isRmw : AccOp → Bool
  | .atomic .. | .racc .. | .put4 .. | .fin .. => true
  | _ => false

/-- The bytes of granule `g` after a read-modify-write access, the old 64-bit word it returns, and its flags. -/
def applyRmw (s : State) (e : Entry) (g : Nat) (d : List (BitVec 8)) : List (BitVec 8) × Word64 × BitVec 6 :=
  match e.op with
  | .atomic opc u x y =>
    let o := 8 * (u % 8)
    let old : Word64 := BitVec.ofNat 64 (leNat (slice d o 8))
    (patch d o (leBytes 8 (atomicOp opc old x y).toNat), old, 0)
  | .racc op ty en add =>
    let r := applyRacc ((regionAt s (128 * e.chunk)).getD 0) op ty en g add d
    (r.1, 0, r.2)
  | .put4 u hi v =>
    (patch d (8 * (u % 8) + (if hi then 4 else 0)) (leBytes 4 v.toNat), 0, 0)
  | .fin mode u _ =>
    let o := 8 * (u % 8)
    let r := fwFinal f64 ((regionAt s (128 * e.chunk)).getD 0) (BitVec.ofNat 128 (leNat (slice d o 16)))
    (if mode = 0 then patch d o (leBytes 16 r) else if mode = 2 then patch d o (leBytes 16 0) else d,
     BitVec.ofNat 64 r, (f64.decode r).flags)
  | _ => (d, 0, 0)

/-- The region check of R233 and R237 on an access. -/
def regionOk (s : State) (e : Entry) : Bool :=
  match e.op with
  | .racc .fw .. => (regionAt s (128 * e.chunk)).isSome
  | .fin .. => (regionAt s (128 * e.chunk)).isSome
  | .racc .. => (regionAt s (128 * e.chunk)).isNone
  | _ => true

end Sys2Proof.Machine
end

