-- ==== Sys2Proof/Machine/Bus.lean ====
section
/-! DEFINITION. The two command buses of a channel (R134): timing parameters (R143), the effect of each command on banks and slices
(R141, R142, R144 to R150, R152, R153), the clock at which a command may issue, and accesses that a unit of the stack makes in one
command. -/

namespace Sys2Proof.Machine

/-! ### Timing and banks -/

/-- The close predictor learns from an access to row `r` (R141): right to keep or wrong to close raises P, the reverse lowers
it. -/
def Bank.learn (b : Bank) (r : Nat) : Bank :=
  match b.l with
  | none => b
  | some l => { b with p := if l = r then min (b.p + 1) 3 else b.p - 1 }

/-- The timing parameters of R143 at frequency step `k`. -/
def tv (v0 v1 v2 v3 k : Nat) : Nat := match k with | 0 => v0 | 1 => v1 | 2 => v2 | _ => v3
def tRCD := tv 24 18 12 6
def tRP := tv 24 18 12 6
def tRAS := tv 48 36 24 12
def tRC := tv 72 54 36 18
def tCL := tv 24 18 12 6
def tCWL := tv 16 12 8 4
def tCCDL := tv 2 2 1 1
def tRRD := tv 4 3 2 1
def tFAW := tv 16 12 8 4
def tRTP := tv 8 6 4 2
def tWR := tv 24 18 12 6
def tWTR := tv 8 6 4 2
def tRTW := tv 4 3 2 1
def tRFCpb := tv 256 192 128 64
def tRFM := tv 96 72 48 24
def tCKESR := tv 24 18 12 6
def tXSR := tv 288 216 144 72
def alertLat := tv 16 12 8 4
def tPARREC := tv 32 24 16 8
/-- Whole controller clocks of the maintenance window (R31). -/
def windowClk := tv 204 307 204 204


/-- The larger of all. -/
def maxOf (l : List Nat) : Nat := l.foldl max 0

/-- A command joins the retry buffer of the last 32 (R159), with its die's banks and slice as they are before it. -/
def Sched.log (q : Sched) (cmd : DramCmd) (die bank arg : Nat) (job : Option ScrubJob := none) : Sched :=
  let l := q.retry ++ [{ clk := q.clk, cmd := cmd, die := die, bank := bank, arg := arg, job := job
                         banks := (List.range 8).map (fun j => q.bank (8 * die + j)), slice := q.slice die }]
  { q with retry := l.drop (l.length - 32) }

/-- The tracker after an activation of row `r` (R147).
DEDUCED, log entry 37. -/
def Bank.track (b : Bank) (r : Nat) : Bank :=
  if b.tracker.any (fun t => t.1 = r) then
    { b with tracker := b.tracker.map (fun t => if t.1 = r then (r, t.2 + 1) else t) }
  else if b.tracker.length < 16 then { b with tracker := b.tracker ++ [(r, b.floor + 1)] }
  else
    let m := (b.tracker.map (·.2)).foldl min 65535
    let j := b.tracker.findIdx (fun t => t.2 = m)
    { b with floor := m, tracker := b.tracker.set j (r, m + 1) }

/-- The row of the bank closes by REFPB, RFMT, or PREA or SRE for self-refresh, which leaves the predictor nothing to learn from
(R142). -/
def Bank.shut (x : Bank) : Bank := { x with row := none, l := if x.row.isSome then none else x.l }

/-- A refresh window of the bank begins (R150): the heavy rows of the tracker are queued for RFMT, and the tracker is cleared when they
are done. -/
def Bank.window (x : Bank) : Bank :=
  let heavy := (x.tracker.filter (fun t => t.2 ≥ 64)).map (·.1)
  if heavy.isEmpty then { x with tracker := [], floor := 0, raa := 0, blocked := false }
  else { x with flush := heavy, clearDue := true }

/-- ACT (R134, R141, R147): the row opens where the bank is closed, its slice awake and its RAA below RAAMMT. -/
def Sched.act (q : Sched) (step b r : Nat) : Sched :=
  let x := q.bank b
  let d := dieOf b
  if x.row.isNone && !(q.slice d).sr && !(q.slice d).alert && r < 24576 && x.raa < 576 then
    let q := q.log .act d b r
    let q := q.modSlice d (fun y => { y with acts := (q.clk :: y.acts).take 4 })
    { (q.modBank b (fun x => { (x.track r) with
        row := some r, l := some r, c := false, fresh := true, lastUse := q.clk, raa := x.raa + 1
        rdyCol := q.clk + tRCD step, rdyPre := q.clk + tRAS step, rdyAct := q.clk + tRC step })) with
      cnt := { q.cnt with act := q.cnt.act + 1 }, dieAct := tmod 0 q.dieAct d (· + 1) }
  else q

/-- PRE (R134): the open row of the bank closes. -/
def Sched.pre (q : Sched) (step b : Nat) : Sched :=
  let d := dieOf b
  if (q.slice d).sr || (q.slice d).alert then q
  else
    (q.log .pre d b 0).modBank b (fun x => { x with
      row := none, c := x.row.isSome || x.c, rdyAct := max x.rdyAct (q.clk + tRP step) })

/-- PREA (R134): every open row of the slice closes. -/
def Sched.prea (q : Sched) (step d : Nat) : Sched :=
  if (q.slice d).sr || (q.slice d).alert then q
  else (List.range 8).foldl (fun q j => q.modBank (8 * d + j) (fun x => { x.shut with rdyAct := max x.rdyAct (q.clk + tRP step) }))
    (q.log .prea d 0 0)

/-- REFPB (R144, R145, R150): any open row closes, the next 4 rows are refreshed; a refresh window begins with rows 0 to 3. -/
def Sched.refpb (q : Sched) (step b : Nat) : Sched :=
  let d := dieOf b
  if (q.slice d).sr || (q.slice d).alert then q
  else
    (q.log .refpb d b 0).modBank b (fun x =>
      let x := if x.ptr = 0 then x.window else x
      { x.shut with ptr := (x.ptr + 4) % 24576, rdyAct := max x.rdyAct (q.clk + tRFCpb step), rdyRef := q.clk + tRFCpb step })

/-- RFMT (R148 to R150): the neighbours of the row of largest estimate are refreshed; the window's queued rows go first. -/
def Sched.rfmt (q : Sched) (step b : Nat) : Sched :=
  let d := dieOf b
  if (q.slice d).sr || (q.slice d).alert then q
  else
    { ((q.log .rfmt d b 0).modBank b (fun x =>
        let big := (x.tracker.map (·.2)).foldl max 0
        let row := match x.flush with
          | r :: _ => some r
          | [] => (x.tracker.find? (fun t => t.2 = big)).map (·.1)
        let others := (x.tracker.filter (fun t => some t.1 ≠ row)).map (·.2)
        let low := if others.length < 15 then others.foldl min x.floor else others.foldl min 65535
        let x := { x.shut with
          tracker := x.tracker.map (fun t => if some t.1 = row then (t.1, low) else t)
          flush := x.flush.tail, raa := 0, blocked := false
          rdyAct := max x.rdyAct (q.clk + tRFM step), rdyRef := q.clk + tRFM step }
        if x.clearDue && x.flush.isEmpty then { x with tracker := [], floor := 0, raa := 0, clearDue := false } else x)) with
      rfmCnt := satInc q.rfmCnt }

/-! ### Self-refresh -/

/-- Rows that a die's timer has refreshed in `n` ticks of self-refresh (R144, R153): 4 a tick when doubled, 4 in two ticks
otherwise. -/
def srRows (doubled : Bool) (n : Nat) : Nat := if doubled then 4 * n else 4 * (n / 2)

/-- The die's timer has refreshed `n` rows of the bank (R145, R150, R153): where rows 0 to 3 were among them a refresh window began. -/
def Bank.timer (n : Nat) (x : Bank) : Bank :=
  let x := if n ≠ 0 ∧ (x.ptr = 0 ∨ 24576 < x.ptr + n) then x.window else x
  { x with ptr := (x.ptr + n) % 24576 }

/-- The rows of slice `d` stand where its timer has brought them by tick `tick`. -/
def Sched.timer (q : Sched) (tick d : Nat) : Sched :=
  let sl := q.slice d
  (List.range 8).foldl (fun q j => q.modBank (8 * d + j) (Bank.timer (srRows sl.srDoubled (tick - sl.srSince)))) q

/-- SRX: the slice leaves self-refresh; the row pointers stand where the die's timer brought them (R145, R153). -/
def Sched.srx (q : Sched) (step tick d : Nat) : Sched :=
  if (q.slice d).sr then
    (q.timer tick d).modSlice d (fun y => { y with sr := false, rdy := q.clk + tXSR step })
  else q

/-- SRE: every row of the slice closes and the die's timer takes over, at the doubled rate when asked or when the die's
refresh rate is doubled (R153). A slice in self-refresh already goes on at the doubled rate when that is asked. -/
def Sched.sre (q : Sched) (tick d : Nat) (doubled : Bool) : Sched :=
  let sl := q.slice d
  if sl.sr then
    if doubled && !sl.srDoubled then (q.timer tick d).modSlice d (fun y => { y with srDoubled := true, srSince := tick }) else q
  else
    let q := (List.range 8).foldl (fun q j => q.modBank (8 * d + j) Bank.shut) q
    q.modSlice d (fun y => { y with sr := true, srDoubled := doubled || q.doubled.getLsbD d, srSince := tick
                                    rdy := q.clk })

/-! ### Column commands -/

/-- Column bookkeeping (R142, R143, R162). -/
def Sched.column (q : Sched) (step b col : Nat) (rd : Bool) (job : Option ScrubJob := none) : Sched :=
  let e := if rd then q.clk + tCL step + 1 else q.clk + tCWL step + 1
  let hit := if (q.bank b).fresh then 0 else 1
  { ((q.log (if rd then .rdc else .wrc) (dieOf b) b col job).modBank b (fun x => { x with
        fresh := false, lastUse := q.clk
        rdyPre := max x.rdyPre (if rd then q.clk + tRTP step else e + tWR step) })) with
    lastCol := q.clk, lastDie := dieOf b, lastGroup := groupOf b, lastRead := rd
    readEnd := if rd then e else q.readEnd, writeEnd := if rd then q.writeEnd else e
    cnt := { q.cnt with col := q.cnt.col + 1, hit := q.cnt.hit + hit }, dieCol := tmod 0 q.dieCol (dieOf b) (· + 1) }

/-! ### When a command may issue -/

/-- A command that the scheduler may pick. -/
inductive Cmd where
  | act (b r : Nat)
  | pre (b : Nat)
  | prea (d : Nat)
  | refpb (b : Nat)
  | rfmt (b : Nat)
  | sre (d : Nat)
  | srx (d : Nat)
  | pclr (d : Nat)
  | replay
  | rdc (b col : Nat)
  | wrc (b col : Nat)
  deriving DecidableEq, Repr

/-- The first controller clock that meets every timing parameter of R143 for the command; none where the bank or the slice is in no
state for it. -/
def Sched.due (q : Sched) (step : Nat) : Cmd → Option Nat
  | .act b r =>
    let x := q.bank b
    let y := q.slice (dieOf b)
    if x.row.isNone && !y.sr && x.raa < 576 && r < 24576 then
      some (maxOf [y.rdy, x.rdyAct, (match y.acts with | a :: _ => a + tRRD step | [] => 0),
        (match y.acts[3]? with | some a => a + tFAW step | none => 0)])
    else none
  | .pre b =>
    if (q.bank b).row.isSome && !(q.slice (dieOf b)).sr then some (max (q.bank b).rdyPre (q.slice (dieOf b)).rdy) else none
  | .refpb b | .rfmt b =>
    if !(q.slice (dieOf b)).sr then some (max (q.slice (dieOf b)).rdy (q.bank b).rdyRef) else none
  | .prea d =>
    if !(q.slice d).sr then
      some (maxOf ((q.slice d).rdy :: (List.range 8).map (fun j =>
        if (q.bank (8 * d + j)).row.isSome then (q.bank (8 * d + j)).rdyPre else (q.bank (8 * d + j)).rdyRef)))
    else none
  | .sre d =>
    if !(q.slice d).sr && (List.range 8).all (fun j => (q.bank (8 * d + j)).row.isNone) then
      some (maxOf ((q.slice d).rdy :: (List.range 8).map (fun j => (q.bank (8 * d + j)).rdyRef)))
    else none
  | .srx d => if (q.slice d).sr then some ((q.slice d).rdy + tCKESR step) else none
  | .pclr d => if (q.slice d).alert then some 0 else none
  | .replay => match q.replay with | i :: _ => some (q.replayFrom + (i.clk - q.replayBase)) | [] => none
  | .rdc b _ =>
    let x := q.bank b
    if x.row.isSome && !(q.slice (dieOf b)).sr then
      some (maxOf [x.rdyCol, (q.slice (dieOf b)).rdy, q.writeEnd + tWTR step, q.lastCol + 1,
        (if groupOf b = q.lastGroup ∧ dieOf b = q.lastDie then q.lastCol + tCCDL step else 0),
        (if q.lastRead ∧ dieOf b ≠ q.lastDie then q.lastCol + 2 else 0)])
    else none
  | .wrc b _ =>
    let x := q.bank b
    if x.row.isSome && !(q.slice (dieOf b)).sr then
      some (maxOf [x.rdyCol, (q.slice (dieOf b)).rdy, q.readEnd + tRTW step, q.lastCol + 1,
        (if groupOf b = q.lastGroup ∧ dieOf b = q.lastDie then q.lastCol + tCCDL step else 0)])
    else none

/-- The command meets the timing parameters of R143 now. -/
def legal (q : Sched) (step : Nat) (c : Cmd) : Bool := match q.due step c with | some n => n ≤ q.clk | none => false

/-- The channel at the next clock that is due for the command, where there is one. -/
def Sched.until (q : Sched) (step : Nat) (c : Cmd) : Option Sched := (q.due step c).map (fun n => { q with clk := max (q.clk + 1) n })

/-! ### Sequences of commands -/

/-- Slice `d` leaves self-refresh by SRX. A die that shows a parity alert takes no command. -/
def Sched.exitSr (step tick : Nat) (q : Sched) (d : Nat) : Sched :=
  if (q.slice d).alert then q else match q.until step (.srx d) with
  | some q => (q.log .srx d 0 0).srx step tick d
  | none => q

/-- Slice `d` goes into self-refresh: PREA where a row is open, then SRE. A slice whose die shows a parity alert takes neither. -/
def Sched.sleep (step tick : Nat) (doubled : Bool) (q : Sched) (d : Nat) : Sched :=
  if (q.slice d).sr then q.sre tick d doubled
  else if (q.slice d).alert then q
  else
    let q := if (List.range 8).all (fun j => (q.bank (8 * d + j)).row.isNone) then q
      else match q.until step (.prea d) with | some q => q.prea step d | none => q
    match q.until step (.sre d) with
    | some q => (q.log .sre d 0 0).sre tick d doubled
    | none => q

/-- Row `r` of bank `b` is open after the PRE and ACT that this takes. -/
def Sched.openRow (step b r : Nat) (q : Sched) : Sched :=
  if (q.bank b).row = some r then q
  else
    let q := match q.until step (.pre b) with | some q => q.pre step b | none => q
    match q.until step (.act b r) with
    | some q => q.act step b r
    | none => q

/-- One column command to row `r`, with the row commands before it. -/
def Sched.reach (step b r col : Nat) (rd : Bool) (q : Sched) : Sched :=
  if (q.slice (dieOf b)).sr || (q.slice (dieOf b)).alert then q
  else
  let q := q.openRow step b r
  match q.until step (if rd then .rdc b col else .wrc b col) with
  | some q => q.column step b col rd
  | none => q

/-- The commands by which the controller of granule `g` reads or writes it at the place where it is stored. -/
def busAccess (g : Nat) (rd : Bool) (s : State) : State :=
  let a := 64 * physGran s g
  let ch := chanOf a
  s.modSched ch (Sched.reach (s.clu (cluOf ch)).step (bankOf a) (rowOf a) (chunkOf a) rd)

/-- The controller of channel `ch` can issue commands: its cluster's domain is on and the stack is not in lightship
mode (R367, R427). -/
def ctrlOn (s : State) (ch : Nat) : Bool := s.domOn (36 + cluOf ch) && !s.ls.on

/-- Commands of requests may go to slice `d` of the channel: outside a frequency step (R155), while no die of the channel shows a parity alert
and no replay runs (R159), and while no test has found what retires the slice (R178). -/
def sliceOpen (s : State) (ch d : Nat) : Bool :=
  let q := (s.chan ch).q
  let u := s.clu (cluOf ch)
  ctrlOn s ch && (s.cluReady (cluOf ch) || u.draining) && !u.inStep && q.replay.isEmpty && (List.range 16).all (fun d => !(q.slice d).alert) &&
    !doomed (s.chan ch).i d

end Sys2Proof.Machine
end

