-- ==== Sys2Proof/Machine/Queue.lean ====
section
/-! DEFINITION. The transaction queue and the merge buffer (R135 to R137, R168 to R172, R190). -/

namespace Sys2Proof.Machine

/-! ### Entries -/

def Entry.needs (e : Entry) (g : Nat) : Bool := e.need.getLsbD g
/-- Part `g` of the access is over. -/
def Entry.served (e : Entry) (g : Nat) : Entry :=
  { e with need := e.need &&& ~~~(1#2 <<< g), heldG := e.heldG &&& ~~~(1#2 <<< g) }
/-- Part `g` of a write has been applied (R123). -/
def Entry.wrote (e : Entry) (g : Nat) : Entry := { e.served g with applied := e.applied ||| (1#2 <<< g) }
/-- A read takes the 64 bytes of granule `g`. -/
def Entry.took (e : Entry) (g : Nat) (d : List (BitVec 8)) : Entry :=
  { e.served g with data := patch (if e.data = [] then List.replicate 128 0 else e.data) (64 * g) d
                    applied := e.applied ||| (1#2 <<< g) }
/-- Part `g` meets poison (R104, R107). -/
def Entry.poisoned (e : Entry) (g : Nat) (unc : Bool) : Entry :=
  { e.served g with poisonBits := e.poisonBits ||| (1#2 <<< g), unc := e.unc || unc }

/-- The queue with entry `e` put in the place of the entry of its number. -/
def Sched.put (q : Sched) (e : Entry) : Sched :=
  { q with queue := q.queue.map (fun f => if f.id = e.id then e else f) }

/-- An earlier entry of the queue still needs the granule (R137). -/
def Sched.before (q : Sched) (e : Entry) (g : Nat) : Bool :=
  q.queue.any (fun f => f.id < e.id && f.chunk = e.chunk && f.needs g)

/-- The first entry of the queue that still needs granule `g` of the stack. -/
def Sched.firstOn (q : Sched) (g : Nat) : Option Entry :=
  q.queue.find? (fun e => e.chunk = g / 2 && e.needs (g % 2))

/-! ### The merge buffer -/

def Integ.mergeOf (i : Integ) (g : Nat) : Option MergeE := i.merge.find? (fun m => m.gran = g)
def Integ.putMerge (i : Integ) (m : MergeE) : Integ :=
  { i with merge := i.merge.map (fun n => if n.gran = m.gran then m else n) }
def Integ.dropMerge (i : Integ) (g : Nat) : Integ := { i with merge := i.merge.filter (fun n => n.gran ≠ g) }

/-- The 8-byte units of `new` enabled by `en` laid over `old`. -/
def layUnits (en : BitVec 8) (new old : List (BitVec 8)) : List (BitVec 8) :=
  (List.range 8).flatMap (fun u => if en.getLsbD u then slice new (8 * u) 8 else slice old (8 * u) 8)

/-- Units of the stack commit an access of class 7 (R188, R204); it is performed, and releases what it holds, within the command.
DESIGN CHOICE, log entry 54. -/
def ownCommit (s : State) : State := s.modSec (fun x => { x with commit := tset x.commit 7 (tget 0 x.commit 7 + 1) })

/-- A request that must reach the dies takes the channel out of idle self-refresh (R152), on the row bus. -/
def wake (ch : Nat) (s : State) : State :=
  let k := cluOf ch
  let u := s.clu k
  if (s.cluReady k || u.draining) && !u.inStep && !s.ls.on then
    (s.modChan ch (fun x => { x with q :=
      { (((List.range 16).filter (fun d => !doomed x.i d)).foldl (Sched.exitSr u.step s.day.tick) x.q) with emptyTicks := 0 } })).modClu k
      (fun u => { u with clkStop := false })
  else s

/-- Granule `g` is read or written by a command of the controller's own on the column bus (R134, R135). -/
def ownColumn (g : Nat) (rd : Bool) (s : State) : State := busAccess g rd (wake (chanOf (64 * g)) s)

/-- A write of the controller or of a unit of the stack to granule `g` (R135, R163): it discards a scrub rewrite of the granule (R173). -/
def ownWrite (g : Nat) (v : Option (List (BitVec 8))) (s : State) : State :=
  putGran g v ((ownColumn g false s).modInteg (chanOf (64 * g)) (fun i =>
    { i with rewrites := i.rewrites.filter (fun r => r.1 ≠ g) }))

/-- A merge entry whose fill has returned closes (R171): it writes the merged granule, the read-modify-write, or poison, and is gone. -/
def mergeClose (ch : Nat) (m : MergeE) (s : State) : State :=
  let g := m.gran
  let bump := fun (f : IntegCnt → IntegCnt) (s : State) => s.modInteg ch (fun i => { i with cnt := f i.cnt })
  let again := fun (s : State) => s.modInteg ch (fun i =>
    { i with rereads := if i.rereads.contains g then i.rereads else i.rereads ++ [g] })
  let shut := fun (s : State) =>
    let s := s.modInteg ch (fun i => i.dropMerge g)
    if m.early then bump (fun c => { c with mergeEarly := satInc c.mergeEarly }) s else s
  match m.fill with
  | .waiting => s
  | .poisoned w => if w then again (ownWrite g none (ownCommit (shut s))) else shut s
  | .base d corrected =>
    if m.cover = 0xFF then bump (fun c => { c with mergeFull := satInc c.mergeFull }) (ownWrite g (some m.data) (ownCommit (shut s)))
    else
      let s := bump (fun c => { c with mergeRmw := satInc c.mergeRmw })
        (ownWrite g (some (layUnits m.cover m.data d)) (ownCommit (shut s)))
      if corrected then again s else s

/-- An entry is to close (R171, R172): now where its fill has returned and commands may go to its slice, else as soon as they may. -/
def mergeEnd (ch : Nat) (m : MergeE) (s : State) : State :=
  if m.fill = .waiting || !sliceOpen s ch (dieOf (bankOf (64 * m.gran))) then
    s.modInteg ch (fun i => i.putMerge { m with due := true })
  else mergeClose ch m s

/-- The buffer is full and a partial write needs an entry: the oldest entry closes (R171).
DESIGN CHOICE, log entry 34. -/
def mergeRoom (ch : Nat) (s : State) : State :=
  let i := (s.chan ch).i
  match i.merge with
  | m :: _ => if i.merge.length < 64 then s else mergeEnd ch { m with early := true } s
  | [] => s

/-- The queue entries on granule `g` are handled against the merge buffer in order (R169, R170), until one waits for a fill
or goes to the DRAM. In a frequency step the queue stands still (R155). -/
def settleGran : Nat → Nat → Nat → State → State
  | 0, _, _, s => s
  | fuel + 1, ch, g, s =>
    if (s.clu (cluOf ch)).inStep then s
    else match (s.chan ch).q.firstOn g with
    | none => s
    | some e =>
      let h := g % 2
      match (s.chan ch).i.mergeOf g with
      | none =>
        if e.op.partialAt h then
          let s := mergeRoom ch s
          if (s.chan ch).i.merge.length < 64 then
            s.modInteg ch (fun i => { i with merge := i.merge ++ [{ gran := g, born := i.mergeNext
                                                                    data := List.replicate 64 0 }]
                                             mergeNext := i.mergeNext + 1 })
          else s
        else s
      | some m =>
        let put := fun (e : Entry) (s : State) => s.modSched ch (fun q => q.put e)
        let merged := fun (m2 : MergeE) (s : State) =>
          settleGran fuel ch g (if m2.cover = 0xFF then mergeEnd ch m2 s else s.modInteg ch (fun i => i.putMerge m2))
        match m.fill with
        | .waiting => s
        | fill =>
          let isP : Bool := match fill with | .poisoned _ => true | _ => false
          match e.op with
          | .write pois en data =>
            let en8 := en.extractLsb' (8 * h) 8
            if !e.op.partialAt h then s.modInteg ch (fun i => i.dropMerge g)
            else if pois then
              merged { m with fill := .poisoned true, cover := m.cover ||| en8 } (put (e.wrote h) s)
            else if isP then settleGran fuel ch g (put (e.poisoned h false) s)
            else
              merged { m with data := layUnits en8 (slice data (64 * h) 64) m.data, cover := m.cover ||| en8 } (put (e.wrote h) s)
          | .read =>
            let d := match fill with | .base d _ => layUnits m.cover m.data d | _ => []
            settleGran fuel ch g (put (if isP then e.poisoned h false else e.took h d) s)
          | _ => mergeEnd ch m s

/-- The granule of the oldest partial write that waits for a merge entry (R171). -/
def mergeWaiter (x : Chan) : Option Nat :=
  x.q.queue.findSome? (fun e => (List.range 2).findSome? (fun h =>
    let g := 2 * e.chunk + h
    if e.needs h && e.op.partialAt h && (x.i.mergeOf g).isNone && (x.q.firstOn g).map (·.id) = some e.id then some g else none))

/-- Partial writes that wait take the entries that are free. -/
def settleRoom : Nat → Nat → State → State
  | 0, _, s => s
  | fuel + 1, ch, s =>
    match mergeWaiter (s.chan ch) with
    | none => s
    | some g =>
      let s := settleGran ((s.chan ch).q.queue.length + 2) ch g s
      if ((s.chan ch).i.mergeOf g).isSome then settleRoom fuel ch s else s

/-- Everything in the queue on granule `g` that the merge buffer can handle is handled, and what that makes room for. -/
def settleOn (ch g : Nat) (s : State) : State :=
  let n := (s.chan ch).q.queue.length + 2
  settleRoom n ch (settleGran n ch g s)

/-- The granules of an access are handled against the merge buffer. -/
def settleChunk (ch chunk : Nat) (s : State) : State := settleOn ch (2 * chunk + 1) (settleOn ch (2 * chunk) s)

/-- The whole queue is handled against the merge buffer, as after a frequency step. -/
def settleAll (ch : Nat) (s : State) : State :=
  (((s.chan ch).q.queue.map (·.chunk)).dedup).foldl (fun s c => settleChunk ch c s) s

/-! ### Entering and leaving the queue -/

/-- The queue has an entry that class `c` may use (R136): eight entries are reserved for class 7. -/
def Sched.room (q : Sched) (c : Nat) : Bool :=
  let n7 := (q.queue.filter (fun e => e.cls = 7)).length
  let shared := (q.queue.length - n7) + (n7 - 8)
  if c = 7 then n7 < 8 || shared < 120 else shared < 120

/-- An access enters the queue (R136, R139): its bank learns (R141), and a write discards the scrub rewrites of its granules (R173). -/
def enqueue (ch : Nat) (e : Entry) (s : State) : State :=
  let a := 64 * physGran s (2 * e.chunk + (if e.need.getLsbD 0 then 0 else 1))
  let s := s.modChan ch (fun x => { x with
    q := { (x.q.modBank (bankOf a) (fun b => b.learn (rowOf a))) with
      queue := x.q.queue ++ [{ e with entered := s.day.tick }], busy := true }
    i := if (match e.op with | .read | .fin 1 _ _ => true | _ => false) then x.i
         else { x.i with rewrites := x.i.rewrites.filter (fun r => !(r.1 / 2 = e.chunk && e.need.getLsbD (r.1 % 2))) } })
  settleChunk ch e.chunk (wake ch s)

/-- The request that enters the queue next: the oldest of its source link, the links taken in rotating order (R19, R20); a link whose
oldest request has no entry waits (R136). -/
def nextLink (ch : Nat) (q : Sched) : Option Entry :=
  ((List.range 49).filterMap (fun n => q.link.find? (fun e => e.src.xlink ch = (q.turn + 1 + n) % 49))).find? (fun e => q.room e.cls)

/-- Requests held on the crossbar links enter while entries are free. -/
def admitLink : Nat → Nat → State → State
  | 0, _, s => s
  | fuel + 1, ch, s =>
    match nextLink ch (s.chan ch).q with
    | none => s
    | some e => admitLink fuel ch (enqueue ch e (s.modSched ch (fun q =>
        { q with link := q.link.filter (fun f => f.id ≠ e.id), turn := e.src.xlink ch })))

/-- Entries that need nothing more leave the queue and release their places (R190). -/
def leaveOnce (ch : Nat) (s : State) : State :=
  let out := (s.chan ch).q.queue.filter (fun e => e.need = 0)
  out.foldl (fun s e => releasePlace ch e.cls s) (s.modSched ch (fun q => { q with
    queue := q.queue.filter (fun e => e.need ≠ 0)
    done := q.done ++ out.map (fun e => { e := e, how := .performed }) }))

/-- Entries leave and requests on the links enter until nothing more moves. -/
def leaveLoop : Nat → Nat → State → State
  | 0, _, s => s
  | fuel + 1, ch, s =>
    let s := leaveOnce ch s
    if (nextLink ch (s.chan ch).q).isSome then leaveLoop fuel ch (admitLink (s.chan ch).q.link.length ch s) else s

def leaveQueue (ch : Nat) (s : State) : State :=
  let q := (s.chan ch).q
  if q.link.isEmpty && q.queue.all (fun e => e.need ≠ 0) then s else leaveLoop (q.link.length + 2) ch s

/-- An access reaches the crossbar link of channel `ch`, and its queue as soon as that has an entry (R19, R20, R136). -/
def arrive (ch : Nat) (e : Entry) (s : State) : State :=
  leaveQueue ch (s.modSched ch (fun q => { q with nextId := q.nextId + 1, link := q.link ++ [{ e with id := q.nextId }] }))

/-- Every request of the channel that is not yet performed ends with `how` (R157, R179); the places are released. `keep`
selects the requests that stay. -/
def endRequests (ch : Nat) (how : Fin_) (keep : Entry → Bool) (s : State) : State :=
  let q := (s.chan ch).q
  let gone := (q.queue ++ q.link).filter (fun e => !keep e)
  let s := s.modSched ch (fun q => { q with
    queue := q.queue.filter keep, link := q.link.filter keep
    done := q.done ++ gone.map (fun e => { e := e, how := how }) })
  leaveQueue ch (gone.foldl (fun s e => releasePlace ch e.cls s) s)

/-- Entries that were to close and can now do so close (R171, R172), and the requests that waited for that go on. -/
def closeDue (ch : Nat) (s : State) : State :=
  let ms := (s.chan ch).i.merge.filter (fun m => m.due && m.fill ≠ .waiting && sliceOpen s ch (dieOf (bankOf (64 * m.gran))))
  if ms.isEmpty then s
  else leaveQueue ch (ms.foldl (fun s m => settleOn ch m.gran (mergeClose ch m s)) s)

/-- The fill read of a merge entry returns (R169): the entry takes its result, partial writes that waited for it are
answered when it shows poison, and the rest of the queue on the granule goes on. A fill whose slice takes no commands is still out;
of a slice that a test has found failing nothing is decoded any more (R179). -/
def fillReturn (ch g : Nat) (errs : List (Nat × BitVec 8)) (s : State) : State :=
  match (s.chan ch).i.mergeOf g with
  | none => s
  | some m =>
    if m.fill ≠ .waiting || !sliceOpen s ch (dieOf (bankOf (64 * g))) then s
    else
      let r := decodeGran g errs true (ownColumn g true s)
      let s := r.1
      let fill : Fill := match r.2.1 with | .data d => .base d r.2.2 | .poison => .poisoned false | .unc => .poisoned true
      let s := s.modInteg ch (fun i => i.putMerge { m with fill := fill })
      let waits := ((s.chan ch).q.queue.filter (fun e => e.chunk = g / 2 && e.needs (g % 2))).takeWhile
        (fun e => e.op.partialAt (g % 2))
      let s := if r.2.1 = .unc then
          waits.foldl (fun s e => match e.op with
            | .write false _ _ => s.modSched ch (fun q => q.put (e.poisoned (g % 2) true))
            | _ => s) s
        else s
      leaveQueue ch (closeDue ch (settleOn ch g s))

/-- The controller writes back every open merge entry (R172). One whose fill has not returned holds nothing yet. -/
def mergeFlush (ch : Nat) (s : State) : State :=
  ((s.chan ch).i.merge.foldl (fun s m => mergeClose ch m s) s).modInteg ch (fun i => { i with merge := [] })

end Sys2Proof.Machine
end

