-- ==== Sys2Proof/Machine/Dram.lean ====
section
/-! DEFINITION. What the commands on a channel do to queue entries and granules (R134, R135, R137, R158 to R160, R173), and the
scheduler that picks them (R138 to R140). -/

namespace Sys2Proof.Machine

/-- The bank whose RAA has reached RAAMMT is blocked until its RFMT (R149): counted when the block acts. -/
def blockCheck (ch b : Nat) (s : State) : State :=
  let x := (s.chan ch).q.bank b
  if x.raa ≥ 576 && !x.blocked then
    (s.modSched ch (fun q => { (q.modBank b (fun x => { x with blocked := true })) with rfmBlock := satInc q.rfmBlock })).modClu
      (cluOf ch) (fun u => { u with evt := u.evt.raise 4 })
  else s

/-! ### Places -/

/-- Bank, row and chunk of the cells that hold granule `g`. -/
def cellsOf (s : State) (g : Nat) : Nat × Nat × Nat :=
  let a := 64 * physGran s g
  (bankOf a, rowOf a, chunkOf a)

/-- The granule that the scrubber finds at granule place `j` of row `r` of a bank: the one served there, or the mooring spare row's own
(R173). -/
def scrubbedAt (s : State) (ch b r j : Nat) : Option Nat :=
  let sp := spareRow0 s.tenderPart
  (livesAt s ch b r j).or (if sp ≤ r ∧ r < sp + 32 then some (addrOf ch b r j / 64) else none)

/-- The errors of one granule of a chunk. -/
def errsOf (g : Nat) (l : List SymErr) : List (Nat × BitVec 8) :=
  (l.filter (fun e => e.granule.val = g)).map (fun e => (e.symbol.val, e.val))

/-! ### Scrub -/

/-- The chunk of the stack at place `n` of a channel's scrub order: chunk 0 to 7 within bank 0 to 127 within the row. -/
def scrubChunk (ch n : Nat) : Nat := addrOf ch (n / 8 % 128) (n / 1024) (2 * (n % 8)) / 128

/-- The scrub order's next place past banks of retired slices (R173), and whether a pass ended on the way. -/
def scrubSkip (i : Integ) : Nat → Nat → Bool → Nat × Bool
  | 0, n, w => (n, w)
  | fuel + 1, n, w =>
    if i.retSlices.getLsbD (dieOf (n / 8 % 128)) then
      let m := (n / 8 + 1) * 8
      scrubSkip i fuel (m % 25165824) (w || 25165824 ≤ m)
    else (n, w)

/-- The place that the scrub pointer reads next. -/
def Integ.scrubAt (i : Integ) : Nat := (scrubSkip i 129 i.scrubPtr false).1

/-- The pointer moves past the chunk that it reads (R173, R186). -/
def Integ.scrubNext (i : Integ) : Integ :=
  let n := i.scrubAt + 1
  let wrapped := (scrubSkip i 129 i.scrubPtr false).2
  let m := scrubSkip i 129 (n % 25165824) false
  { i with scrubPtr := m.1
           cnt := if wrapped || n ≥ 25165824 || m.2 then { i.cnt with scrubPass := satInc i.cnt.scrubPass } else i.cnt }

/-- Bank, row and chunk that a scrub job works on, and whether it writes. -/
def jobCells (s : State) : ScrubJob → Nat × Nat × Nat × Bool
  | .rewrite g _ => let c := cellsOf s g; (c.1, c.2.1, c.2.2, true)
  | .visit g | .reread g | .move g _ => let c := cellsOf s g; (c.1, c.2.1, c.2.2, false)
  | .pointer c => (bankOf (128 * c), rowOf (128 * c), chunkOf (128 * c), false)

/-- The jobs of the scrub slots in their order (R173): rewrites, queued visits, re-reads and moves, then the pointer; none whose slice is in
self-refresh or stopped, and none already on its way. -/
def scrubJobs (ch : Nat) (s : State) : List ScrubJob :=
  let x := s.chan ch
  let i := x.i
  let moves := i.moves.filterMap (fun m => m.todo.head?.map (fun j => ScrubJob.move (addrOf ch m.bank m.row j / 64) m.entry))
  let jobs := i.rewrites.map (fun r => ScrubJob.rewrite r.1 r.2) ++ i.visits.map ScrubJob.visit ++ i.rereads.map ScrubJob.reread ++
    moves ++ [ScrubJob.pointer (scrubChunk ch i.scrubAt)]
  jobs.filter (fun j =>
    let d := dieOf (jobCells s j).1
    !(x.q.slice d).sr && !doomed i d && !x.q.flights.any (fun f => f.job = some j))

/-- A scrub read of granule `g` (R173, R182): a corrected granule is rewritten later; in a re-read, an error that is not injected makes
the granule a mooring candidate. -/
def scrubGran (again : Bool) (g : Nat) (errs : List (Nat × BitVec 8)) (s : State) : State :=
  let ch := chanOf (64 * g)
  let w := readGran s g errs
  let found := decode (erasedOf (s.chan ch).i) w.1 w.2
  let bad : Bool := match found with | .corrected .. | .uncorrectable => true | _ => false
  let pos := match found with | .corrected _ _ fix => oneTsv fix | _ => none
  let s := s.modInteg ch (fun i => { i with
    visits := i.visits.filter (· ≠ g), rereads := if again then i.rereads.filter (· ≠ g) else i.rereads
    cand := if again && bad && !(i.cand.any (fun c => c.gran = g)) then i.cand ++ [{ gran := g, pos := pos, tick := s.day.tick }] else i.cand })
  let r := decodeGran g errs false s
  match r.2.1, r.2.2 with
  | .data d, true => r.1.modInteg ch (fun i => { i with
      visits := i.visits.filter (· ≠ g)
      rewrites := if writeQueued r.1 ch g then i.rewrites else i.rewrites ++ [(g, d)] })
  | _, _ => r.1

/-- A granule read, corrected or as poison, and written to the cells of granule `dst` too (R182, R184, R185). -/
def copyGran (g dst : Nat) (errs : List (Nat × BitVec 8)) (s : State) : State :=
  let r := decodeGran g errs false s
  match r.2.1 with
  | .data d => putCells dst d (checks d) r.1
  | _ => putCells dst poisonData poisonChecks r.1

/-- The granule that entry `n` redirects, or frees, is copied (R182 step 2): from here until the boundary writes go to both places. -/
def moveGran (ch g n : Nat) (errs : List (Nat × BitVec 8)) (s : State) : State :=
  let a := 64 * g
  match (s.chan ch).i.moves.find? (fun m => m.entry = n ∧ m.bank = bankOf a ∧ m.row = rowOf a ∧ m.todo.contains (granOf a)) with
  | none => s
  | some m =>
    let dst := if m.back || n = latchMove then g else addrOf ch m.bank (spareRow0 s.tenderPart + n) (granOf a) / 64
    let k := (s.clu (cluOf ch)).step
    let s := copyGran g dst errs (ownCommit (ownCommit s))
    (s.modSched ch (Sched.reach k m.bank (rowOf (64 * dst)) (chunkOf (64 * dst)) false)).modInteg ch (fun i => { i with
      moves := i.moves.map (fun y => if y = m then { y with todo := y.todo.filter (· ≠ granOf a) } else y) })

/-- The column command of a scrub job has its effect (R173, R182). -/
def scrubLand (ch : Nat) (j : ScrubJob) (errs : List SymErr) (s : State) : State :=
  let c := jobCells s j
  match j with
  | .rewrite g d =>
    if (s.chan ch).i.rewrites.contains (g, d) then
      (putGran g (some d) s).modInteg ch (fun i => { i with
        rewrites := i.rewrites.erase (g, d), cnt := { i.cnt with scrubFix := satInc i.cnt.scrubFix }
        rereads := if i.rereads.contains g then i.rereads else i.rereads ++ [g] })
    else s
  | .visit g => scrubGran false g (errsOf (g % 2) errs) s
  | .reread g => scrubGran true g (errsOf (g % 2) errs) s
  | .move g n => moveGran ch g n (errsOf (g % 2) errs) s
  | .pointer _ =>
    (List.range 2).foldl (fun s h => match scrubbedAt s ch c.1 c.2.1 (2 * c.2.2.1 + h) with
      | some g => scrubGran false g (errsOf h errs) s
      | none => s) s

/-! ### Column commands -/

/-- FINALIZE COPY_OUT leaves its element unchanged (R234): it only reads. -/
def AccOp.copiesOut : AccOp → Bool
  | .fin 1 _ _ => true
  | _ => false

/-- One entry takes its part of a granule that an RDC read (R18, R107, R135, R237). -/
def takePart (s : State) (r : GranRes) (g : Nat) (e : Entry) : Entry :=
  match e.op with
  | .write .. => e
  | .read =>
    match r with
    | .data d => e.took g d
    | .poison => e.poisoned g false
    | .unc => e.poisoned g true
  | _ =>
    if !regionOk s e then { e with need := 0, badRegion := true }
    else match r with
      | .data d =>
        let n := applyRmw s e g d
        if e.op.copiesOut then { e.took g d with old := n.2.1, flags := e.flags ||| n.2.2 } else
        { e with held := patch (if e.held = [] then List.replicate 128 0 else e.held) (64 * g) n.1
                 heldG := e.heldG ||| (1#2 <<< g), old := if e.op.isRmw then n.2.1 else e.old, flags := e.flags ||| n.2.2 }
      | .poison => e.poisoned g false
      | .unc => e.poisoned g true

/-- DRAIN writes the converted value to DST[i] in the access that clears the element (R234), against the merge buffer and the cells; 1 where the
granule is poisoned, 2 where it is retired: nothing is written. `none` while commands may not go there or another access has the granule.
DEDUCED, log entry 69. -/
def drainTo (pa : Nat) (v : Word64) (s : State) : Option (State × Nat) :=
  let ch := chanOf pa
  let g := pa / 64
  let b := leBytes 8 v.toNat
  if retiredAt s pa || doomed (s.chan ch).i (dieOf (bankOf pa)) then some (s, 2)
  else if !sliceOpen s ch (dieOf (bankOf pa)) || (s.chan ch).q.queue.any (fun e => e.chunk = g / 2 && e.heldG.getLsbD (g % 2)) then none
  else
    let s : State := match (s.chan ch).i.mergeOf g with
      | some m => if m.fill = Fill.waiting then fillReturn ch g [] s else s
      | none => s
    match (s.chan ch).i.mergeOf g with
    | some m =>
      match m.fill with
      | .base .. =>
        let m := { m with data := patch m.data (pa % 64) b, cover := m.cover ||| (1#8 <<< (pa % 64 / 8)) }
        some (if m.cover = 0xFF then mergeEnd ch m s else s.modInteg ch (fun i => i.putMerge m), 0)
      | .poisoned _ => some (s, 1)
      | .waiting => none
    | none =>
      let r := decodeGran g [] false (ownColumn g true s)
      match r.2.1 with
      | .data d => some (ownWrite g (some (patch d (pa % 64) b)) r.1, 0)
      | _ => some (r.1, 1)

/-- The data that an RDC read for entry `e` are taken; DRAIN first writes its DST[i], and clears its element only where that was done. -/
def takeData (ch : Nat) (r : State × GranRes) (g : Nat) (e : Entry) (s : State) : State :=
  let f := takePart r.1 r.2 g e
  match e.op with
  | .fin 2 _ dst =>
    if f.heldG = 0 then r.1.modSched ch (fun q => q.put f)
    else match drainTo dst f.old r.1 with
      | none => s
      | some (t, 0) => t.modSched ch (fun q => q.put f)
      | some (t, k) => t.modSched ch (fun q => q.put { e with need := 0, refused := k, flags := f.flags })
  | _ => r.1.modSched ch (fun q => q.put f)

/-- The read of granule `g` of a chunk serves the first entry that needs it and no merge entry stands before it (R137,
R170). -/
def serveGran (ch chunk g : Nat) (errs : List (Nat × BitVec 8)) (s : State) : State :=
  match (s.chan ch).q.firstOn (2 * chunk + g) with
  | none => s
  | some e =>
    if ((s.chan ch).i.mergeOf (2 * chunk + g)).isSome || e.heldG.getLsbD g then s
    else match e.op with
      | .write .. => s
      | _ =>
        let r := decodeGran (2 * chunk + g) errs false s
        takeData ch (r.1, r.2.1) g e s

/-- The write part of granule `g` of an entry, when it may issue. -/
def writable (ch : Nat) (s : State) (e : Entry) (g : Nat) : Bool :=
  e.needs g && !(s.chan ch).q.before e g && ((s.chan ch).i.mergeOf (2 * e.chunk + g)).isNone &&
    (match e.op with | .write .. => !e.op.partialAt g | .read => false | _ => e.heldG.getLsbD g)

/-- One granule of an entry is written to the cells (R107, R163). -/
def writePart (ch : Nat) (e : Entry) (g : Nat) (s : State) : State × Entry :=
  if writable ch s e g then
    let v : Option (List (BitVec 8)) := match e.op with
      | .write true _ _ => none
      | .write false _ d => some (slice d (64 * g) 64)
      | _ => some (slice e.held (64 * g) 64)
    (putGran (2 * e.chunk + g) v s, e.wrote g)
  else (s, e)

/-- The granules of an entry that live at row `r`, chunk `col` of bank `b` and that it may write there. -/
def writesAt (ch : Nat) (s : State) (b r col : Nat) (e : Entry) : List Nat :=
  (List.range 2).filter (fun g => writable ch s e g && cellsOf s (2 * e.chunk + g) = (b, r, col))

/-- A column command goes out on the open row of bank `b` (R134, R135): for `job`, the scrub job it serves, or for the queue; a WRC for the
queue writes for its oldest entry that may write there. Nothing goes to a slice that is asleep, shows a parity alert, or is to be retired
(R178). -/
def columnIssue (ch b col : Nat) (rd : Bool) (errs : List SymErr) (job : Option ScrubJob) (s : State) : State :=
  let q := (s.chan ch).q
  let k := (s.clu (cluOf ch)).step
  match (q.bank b).row with
  | none => s
  | some r =>
    if (q.slice (dieOf b)).sr || (q.slice (dieOf b)).alert || doomed (s.chan ch).i (dieOf b) then s
    else
      let e := q.queue.find? (fun e => !(writesAt ch s b r col e).isEmpty)
      s.modSched ch (fun q => { (q.column k b col rd job) with flights := q.flights ++ [{
        due := if rd then q.clk + tCL k + 1 else q.clk + tCWL k + 1
        rd := rd, clk := q.clk, bank := b, row := r, col := col, errs := errs, job := job
        entry := if rd then none else e.map (·.id) }] })

/-- The effect of a column command (R107, R135, R137, R167): the data of an RDC are taken, the granules of a WRC are written. What a unit to be
retired delivers is discarded (R179). -/
def landOne (ch : Nat) (s : State) (f : Flight) : State :=
  let s := s.modSched ch (fun q => { q with flights := q.flights.erase f })
  if doomed (s.chan ch).i (dieOf f.bank) then s
  else match f.job with
    | some j => scrubLand ch j f.errs s
    | none =>
      if f.rd then
        (List.range 2).foldl (fun s h => match livesAt s ch f.bank f.row (2 * f.col + h) with
          | some g => leaveQueue ch (settleOn ch g (serveGran ch (g / 2) (g % 2) (errsOf h f.errs) s))
          | none => s) s
      else match (s.chan ch).q.queue.find? (fun e => some e.id = f.entry) with
        | none => s
        | some e =>
          let w := (writesAt ch s f.bank f.row f.col e).foldl (fun (a : State × Entry) g => writePart ch a.2 g a.1) (s, e)
          leaveQueue ch (settleChunk ch e.chunk (w.1.modSched ch (fun q => q.put w.2)))

/-- The column commands whose clock has come have their effect, the oldest first. -/
def land (ch : Nat) (s : State) : State :=
  let q := (s.chan ch).q
  (q.flights.filter (fun f => f.due ≤ q.clk)).foldl (landOne ch) s

/-- Every column command in flight has its effect. -/
def landAll (ch : Nat) (s : State) : State :=
  land ch (s.modSched ch (fun q => { q with clk := maxOf (q.clk :: q.flights.map (·.due)) }))

/-! ### Parity alerts -/

def DramCmd.code : DramCmd → Nat
  | .act => 0 | .pre => 1 | .prea => 2 | .refpb => 3 | .rfmt => 4 | .sre => 5 | .srx => 6 | .pclr => 7
  | .mrr => 8 | .rdc => 9 | .wrc => 10

def DramCmd.isCol : DramCmd → Bool
  | .rdc | .wrc => true
  | _ => false

/-- The command TSVs of a slice that a storm implicates are suspected (R160, R174): TSV numbers 280 + n stand for command
TSV n. -/
def cmdSuspects : List Nat := (List.range 36).map (280 + ·)

/-- The erroneous command of an alert of die `d` (R159): the one issued to it ALERT_LAT clocks before; where the alert's row comes earlier than
that clock, the oldest whose alert is still to come. -/
def erroneous (lat : Nat) (q : Sched) (d : Nat) : Option Issued :=
  let mine := q.retry.filter (fun c => c.die = d)
  (mine.find? (fun c => c.clk + lat = q.clk)).or (mine.find? (fun c => q.clk < c.clk + lat))

/-- A replay episode begins (R158, R159): the die has executed nothing since the erroneous command, whose place the alert's clock gives; that
command and every later one to the die are to be reissued, behind them what an episode in progress had left. -/
def Sched.replayOf (lat d : Nat) (bad : Issued) (q : Sched) : Sched :=
  let left := q.replay.map (fun i => { i with clk := q.replayFrom + (i.clk - q.replayBase) })
  let again := q.retry.filter (fun c => c.die = d ∧ bad.clk ≤ c.clk) ++ left
  let q := (List.range 8).foldl (fun q j => match bad.banks[j]? with
    | some x => q.modBank (8 * d + j) (fun _ => x)
    | none => q) q
  { (q.modSlice d (fun y => { bad.slice with alertsTick := y.alertsTick, alertsRound := y.alertsRound })) with
    clk := max q.clk (bad.clk + lat)
    flights := q.flights.filter (fun f => !(dieOf f.bank = d ∧ bad.clk ≤ f.clk))
    replay := again, replayBase := bad.clk, replayFrom := max q.clk (bad.clk + lat) }

/-- A die raises its parity alert (R158 to R160): one replay episode from the retry buffer. An injected alert does not count
toward a storm (R375).
DEDUCED, log entry 33. -/
def parityAlert (ch d : Nat) (inj : Bool) (s : State) : State :=
  let k := cluOf ch
  let q := (s.chan ch).q
  let lat := alertLat (s.clu k).step
  let bad := erroneous lat q d
  let info := match bad.or (q.retry.filter (fun c => c.die = d)).getLast? with
    | some c => fld d 0 ||| fld c.cmd.isCol.toNat 4 ||| fld c.cmd.code 5 ||| fld (s.day.tick % 65536) 16
    | none => fld d 0 ||| fld (s.day.tick % 65536) 16
  let sl := q.slice d
  let storm := !inj && (sl.alertsTick + 1 ≥ 4 || sl.alertsRound + 1 ≥ 64)
  let s := s.modSched ch (fun q =>
    let q := match bad with | some c => q.replayOf lat d c | none => q
    { (q.modSlice d (fun y => { y with
        alert := true
        alertsTick := if inj then y.alertsTick else if storm then 0 else y.alertsTick + 1
        alertsRound := if inj then y.alertsRound else if storm then 0 else y.alertsRound + 1 })) with
      parCnt := satInc q.parCnt, parInfo := info
      queue := q.queue.map (fun e => { e with a := e.a + 1 }) })
  let s := s.modClu k (fun u => { u with evt := if storm then (u.evt.raise 2).raise 3 else u.evt.raise 2 })
  let det := payloadSoon s (.dccCluster k)
  let s := emit { unit := 0x05, inst := k, cls := if storm then .c2 else .c1, payload := .dccCluster k, atBoundary := true } s
  let s := raiseInj 15 ch .c1 det inj s
  if storm then
    raise 15 ch .c2 det (s.modInteg ch (fun i => cmdSuspects.foldl (fun i t => i.suspect s.day.tick t) i))
  else s

/-- An alert that was to come comes (R158). -/
def raiseDue (ch : Nat) (s : State) : State :=
  match (s.chan ch).q.alertDue with
  | some a =>
    if a.clk ≤ (s.chan ch).q.clk then parityAlert ch a.die a.injected (s.modSched ch (fun q => { q with alertDue := none })) else s
  | none => s

/-- PCLR (R159): the die executes commands again from tPAR_REC on, when the replay may begin. -/
def Sched.pclr (q : Sched) (step d : Nat) : Sched :=
  if (q.slice d).alert then
    { ((q.log .pclr d 0 0).modSlice d (fun y => { y with alert := false, rdy := max y.rdy (q.clk + tPARREC step) })) with
      replayFrom := q.clk + tPARREC step, replayBase := (q.replay.map (·.clk)).headD 0 }
  else q

/-! ### The scheduler -/

/-- A command that the scheduler may pick, and the scrub job that it is for. -/
structure Pick where
  cmd : Cmd
  job : Option ScrubJob := none
  deriving DecidableEq, Repr

def Cmd.isCol : Cmd → Bool
  | .rdc .. | .wrc .. => true
  | _ => false

/-- The die a command addresses. -/
def Cmd.die (q : Sched) : Cmd → Nat
  | .act b _ | .pre b | .refpb b | .rfmt b | .rdc b _ | .wrc b _ => dieOf b
  | .prea d | .sre d | .srx d | .pclr d => d
  | .replay => (q.replay.map (·.die)).headD 0

/-- The command for cells at row `r`, chunk `col` of bank `b`: a column command where the row is open, else ACT or PRE. -/
def towards (q : Sched) (b r col : Nat) (wr : Bool) : Cmd :=
  match (q.bank b).row with
  | none => .act b r
  | some x => if x ≠ r then .pre b else if wr then .wrc b col else .rdc b col

/-- The next command an entry needs (R134, R137): for its first granule that may go and has no column command on its way. -/
def nextCmd (ch : Nat) (s : State) (e : Entry) : Option Cmd :=
  let x := s.chan ch
  (List.range 2).findSome? (fun g =>
    if e.needs g && !x.q.before e g && (x.i.mergeOf (2 * e.chunk + g)).isNone && !e.op.partialAt g then
      let c := cellsOf s (2 * e.chunk + g)
      if (x.q.slice (dieOf c.1)).sr then some (.srx (dieOf c.1))
      else if x.q.flights.any (fun f => f.bank = c.1 && f.row = c.2.1 && f.col = c.2.2 && f.job.isNone) then none
      else some (towards x.q c.1 c.2.1 c.2.2 (writable ch s e g))
    else none)

/-- The effective WR_HI (R162). -/
def Clu.wrHiEff (u : Clu) : Nat := max u.wrHi (u.wrLo + 8)

def Entry.isWrite (e : Entry) : Bool := e.op != .read

/-- The mode of R140 for the queue as it stands.
DEDUCED, log entry 53. -/
def nextMode (ch : Nat) (s : State) : Bool :=
  let u := s.clu (cluOf ch)
  let q := (s.chan ch).q
  let w := (q.queue.filter Entry.isWrite).length
  let canRead := q.queue.any (fun e => !e.isWrite && (match nextCmd ch s e with | some c => legal q u.step c | none => false))
  let enter := w ≥ u.wrHiEff || (w > 0 && !canRead)
  if q.writeMode then w > u.wrLo || enter else enter

/-- The commands of the maintenance items of the tick, in the order of R138; the scrub slots work on the first scrub jobs, with at most 4 row
commands a tick (R32). -/
def maintPicks (ch : Nat) (s : State) : List Pick :=
  let q := (s.chan ch).q
  let row := fun (m : Maint) => match m with
    | .srePrea d => some (if (List.range 8).all (fun j => (q.bank (8 * d + j)).row.isNone) then Cmd.sre d else .prea d)
    | .srx d => some (.srx d)
    | .refpb b => some (.refpb b)
    | .rfmt b => some (.rfmt b)
    | .scrubSlot => none
  let slots := (q.maint.filter (· == .scrubSlot)).length
  let scrub := if slots = 0 then [] else ((scrubJobs ch s).take slots).map (fun j =>
    let c := jobCells s j
    { cmd := towards q c.1 c.2.1 c.2.2.1 c.2.2.2, job := some j : Pick })
  (q.maint.filterMap row).map (fun c => { cmd := c }) ++ scrub.filter (fun p => p.cmd.isCol || q.scrubRows < 4)

/-- A maintenance command of the tick is still to issue (R34): scrub slots that no job can use are not. -/
def maintLeft (ch : Nat) (s : State) : Bool := !(maintPicks ch s).isEmpty

/-- The next command of a parity replay episode in progress (R159): PCLR to a die that shows its alert, then the reissues. -/
def Sched.episode (q : Sched) : Option Cmd :=
  match (List.range 16).find? (fun d => (q.slice d).alert) with
  | some d => some (.pclr d)
  | none => if q.replay.isEmpty then none else some .replay

/-- The candidates of R138 in their order. Within an order, higher classes or older entries come first; the queue lists
entries oldest first. -/
def candidates (ch : Nat) (s : State) : List Pick :=
  let x := s.chan ch
  let q := x.q
  let u := s.clu (cluOf ch)
  let now := s.day.tick
  let byClass := fun (l : List Entry) => [7, 6, 5, 4, 3, 2, 1, 0].flatMap (fun c => l.filter (fun e => e.cls = c))
  let cmds := fun (l : List Entry) => l.filterMap (nextCmd ch s)
  match q.episode with
  | some c => [{ cmd := c }]
  | none =>
    let maint := maintPicks ch s
    if u.inStep || !(s.cluReady (cluOf ch) || u.draining) || s.ls.on then maint
    else
      let urgent := q.queue.filter (fun e => e.entered < now)
      let modeOk := fun (e : Entry) => e.isWrite = q.writeMode
      let rows := q.queue.flatMap (fun e => ((List.range 2).filter e.needs).map (fun g => cellsOf s (2 * e.chunk + g)))
      let wanted := fun (b r : Nat) => rows.any (fun c => c.1 = b && c.2.1 = r)
      let keeps := fun (c : Cmd) => match c with
        | .pre b => (match (q.bank b).row with | some r => wanted b r | none => false)
        | _ => false
      let hits := (cmds (byClass (q.queue.filter modeOk))).filter Cmd.isCol
      let others := (cmds (byClass q.queue)).filter (fun c => !c.isCol && !keeps c)
      let close := (q.banks.filter (fun y => match y.2.row with
        | some r => !wanted y.1 r && u.predEn && y.2.p ≤ 1 && !y.2.fresh
        | none => false)).map (fun y => Cmd.pre y.1)
      maint ++ (cmds (urgent.filter (·.guar)) ++ cmds (urgent.filter (fun e => !e.guar)) ++ hits ++ others ++ close).map (fun c => { cmd := c })

/-- A command of an episode is reissued (R159): the die executes it as it would have. -/
def reissue (ch : Nat) (i : Issued) (s : State) : State :=
  let k := (s.clu (cluOf ch)).step
  match i.cmd with
  | .act => blockCheck ch i.bank (s.modSched ch (fun q => q.act k i.bank i.arg))
  | .pre => s.modSched ch (fun q => q.pre k i.bank)
  | .prea => s.modSched ch (fun q => q.prea k i.die)
  | .refpb => s.modSched ch (fun q => q.refpb k i.bank)
  | .rfmt => s.modSched ch (fun q => q.rfmt k i.bank)
  | .sre => s.modSched ch (fun q => (q.log .sre i.die 0 0).sre s.day.tick i.die s.ls.on)
  | .srx => s.modSched ch (fun q => (q.log .srx i.die 0 0).srx k s.day.tick i.die)
  | .pclr => s.modSched ch (fun q => q.log .pclr i.die 0 0)
  | .mrr => s.modSched ch (fun q => q.log .mrr i.die 0 0)
  | .rdc => columnIssue ch i.bank i.arg true [] i.job s
  | .wrc => columnIssue ch i.bank i.arg false [] i.job s

/-- The pointer's chunk is taken by the slot that reads it; a scrub row command counts (R32, R173). -/
def scrubTake (ch : Nat) (p : Pick) (s : State) : State :=
  match p.job with
  | none => s
  | some j =>
    if p.cmd.isCol then
      let s := s.modSched ch (fun q => { q with maint := q.maint.erase .scrubSlot })
      match j with | .pointer _ => s.modInteg ch Integ.scrubNext | _ => s
    else s.modSched ch (fun q => { q with scrubRows := q.scrubRows + 1 })

/-- A picked command is issued. -/
def issue (ch : Nat) (p : Pick) (s : State) : State :=
  let step := (s.clu (cluOf ch)).step
  let drop := fun (m : Maint) (s : State) => s.modSched ch (fun q => { q with maint := q.maint.erase m })
  let s := scrubTake ch p s
  match p.cmd with
  | .act b r => blockCheck ch b (s.modSched ch (fun q => q.act step b r))
  | .pre b => s.modSched ch (fun q => q.pre step b)
  | .prea d => s.modSched ch (fun q => q.prea step d)
  | .refpb b => drop (.refpb b) (s.modSched ch (fun q => q.refpb step b))
  | .rfmt b => drop (.rfmt b) (s.modSched ch (fun q => q.rfmt step b))
  | .sre d => drop (.srePrea d) (s.modSched ch (fun q => (q.log .sre d 0 0).sre s.day.tick d s.ls.on))
  | .srx d => (drop (.srx d) (s.modSched ch (fun q => (q.log .srx d 0 0).srx step s.day.tick d))).modClu (cluOf ch)
      (fun u => { u with clkStop := false })
  | .pclr d => s.modSched ch (fun q => q.pclr step d)
  | .replay => match (s.chan ch).q.replay with
    | i :: rest => reissue ch i (s.modSched ch (fun q => { q with replay := rest }))
    | [] => s
  | .rdc b col => columnIssue ch b col true [] p.job s
  | .wrc b col => columnIssue ch b col false [] p.job s

/-- Checker 3 takes its injection from the first command of the tick on the channel (R375); the alert comes ALERT_LAT clocks later (R158). -/
def injectParity (ch : Nat) (c : Cmd) (s : State) : State :=
  match injArmed s 3 ch, c with
  | some _, .pclr _ | some _, .replay => s
  | some i, _ =>
    if s.day.tick > i.decided && i.last ≠ some s.day.tick then
      (injUse s).modSched ch (fun q => { q with
        alertDue := some { die := c.die q, clk := q.clk + alertLat (s.clu (cluOf ch)).step, injected := true } })
    else s
  | none, _ => s

/-- The reissue on the column bus (R134, R159). -/
def replayCol (q : Sched) : Bool := match q.replay with | i :: _ => i.cmd.isCol | [] => false

/-- An overrun of the tick is counted once (R34): the window has ended with maintenance unissued that a parity replay of the tick has held up,
the one cause in a healthy part.
DEDUCED, log entry 52. -/
def overrunCheck (ch : Nat) (s : State) : State :=
  let q := (s.chan ch).q
  let replayed := q.parCnt ≠ 0 ∧ q.parInfo.extractLsb' 16 16 = BitVec.ofNat 16 s.day.tick
  if q.clk ≥ q.winEnd && !q.overran && (s.clu (cluOf ch)).stepTick ≠ 3 && replayed && maintLeft ch s then
    raise 17 ch .c1 0 ((s.modSched ch (fun q => { q with overran := true })).modDay
      (fun d => { d with overrun := satInc d.overrun }))
  else s

/-- One controller clock (R134, R138): what is on its way arrives, then at most one row and one column command go out, each the first
candidate that meets every timing parameter. -/
def schedClock (ch : Nat) (s : State) : State :=
  let u := s.clu (cluOf ch)
  let s := raiseDue ch (land ch (s.modSched ch (fun q => { q with clk := q.clk + 1 })))
  let s := closeDue ch s
  let s := s.modSched ch (fun q => { q with writeMode := nextMode ch s })
  let q := (s.chan ch).q
  let i := (s.chan ch).i
  let cs := (candidates ch s).filter (fun p => legal q u.step p.cmd && !doomed i (p.cmd.die q))
  let isCol := fun (p : Pick) => p.cmd.isCol || (p.cmd == .replay && replayCol q)
  let go := fun (p : Option Pick) (s : State) => match p with
    | some p => injectParity ch p.cmd (issue ch p s)
    | none => s
  let s := go (cs.find? (fun p => !isCol p)) s
  let next := cs.find? (fun p => isCol p && legal (s.chan ch).q u.step p.cmd && (p.cmd != .replay || (s.chan ch).q.replay = q.replay))
  overrunCheck ch (go next s)

/-! ### Work that a tick's end or an access of the stack's own completes -/

/-- The alert on its way comes, and the replay episode of the channel runs to its end (R159). -/
def recover (ch : Nat) : Nat → State → State
  | 0, s => s
  | fuel + 1, s =>
    let s := raiseDue ch (land ch s)
    let q := (s.chan ch).q
    match q.episode, q.alertDue with
    | some c, _ =>
      (match q.until (s.clu (cluOf ch)).step c with
      | some q => recover ch fuel (issue ch { cmd := c } (s.modSched ch (fun _ => q)))
      | none => s)
    | none, some a => recover ch fuel (s.modSched ch (fun q => { q with clk := max q.clk a.clk }))
    | none, none => s

/-- The command of one maintenance pick, at the first clock that is due for it. -/
def maintNow (ch : Nat) (p : Pick) (s : State) : State :=
  match (s.chan ch).q.until (s.clu (cluOf ch)).step p.cmd with
  | some q =>
    if doomed (s.chan ch).i (p.cmd.die q) then s
    else injectParity ch p.cmd (issue ch p (land ch (s.modSched ch (fun _ => q))))
  | none => s

/-- What of the tick's maintenance no row has named is issued, each command when it is due (R32, R34, R145). -/
def maintRest (ch : Nat) : Nat → State → State
  | 0, s => s
  | fuel + 1, s =>
    let s := overrunCheck ch (recover ch 80 s)
    match (maintPicks ch s).find? (fun p => ((s.chan ch).q.due (s.clu (cluOf ch)).step p.cmd).isSome && !doomed (s.chan ch).i (p.cmd.die (s.chan ch).q)) with
    | some p => maintRest ch fuel (maintNow ch p s)
    | none => landAll ch s

/-- A column command to the cells of granule `g`, with the row commands before it, has its effect. -/
def columnNow (ch g : Nat) (rd : Bool) (s : State) : State :=
  let c := cellsOf s g
  let k := (s.clu (cluOf ch)).step
  let q := Sched.openRow k c.1 c.2.1 (s.chan ch).q
  match q.until k (if rd then .rdc c.1 c.2.2 else .wrc c.1 c.2.2) with
  | some q => landAll ch (columnIssue ch c.1 c.2.2 rd [] none (s.modSched ch (fun _ => q)))
  | none => s

/-- The queue entries on granule `g` are served in their order (R137), so that a later access to the granule finds them applied (R18). -/
def drainGran : Nat → Nat → Nat → State → State
  | 0, _, _, s => s
  | fuel + 1, ch, g, s =>
    if !sliceOpen s ch (dieOf (bankOf (64 * g))) then s
    else match (s.chan ch).q.firstOn g with
      | none => s
      | some e =>
        let s := match (s.chan ch).i.mergeOf g with
          | some m => if m.fill = .waiting then fillReturn ch g [] s else settleOn ch g s
          | none =>
            if e.op.partialAt (g % 2) then
              settleOn ch g (match (s.chan ch).i.merge with
                | o :: _ => if o.fill = .waiting then fillReturn ch o.gran [] s else s
                | [] => s)
            else columnNow ch g (!writable ch s e (g % 2)) s
        drainGran fuel ch g s

/-- What entered the queue before for granule `g` is applied (R18, R137). -/
def drainOn (ch g : Nat) (s : State) : State :=
  let s := recover ch 80 (landAll ch s)
  drainGran (4 * (s.chan ch).q.queue.length + 4) ch g s

/-- Nothing is on its way any more to or from dies that a failure stops (R178): their alerts, reissues and column commands are dropped. -/
def prune (ch : Nat) (s : State) : State :=
  s.modChan ch (fun x =>
    let out := fun (d : Nat) => doomed x.i d
    { x with q := { x.q with
        slices := x.q.slices.map (fun (y : Nat × Slice) => if out y.1 then (y.1, { y.2 with alert := false }) else y)
        replay := x.q.replay.filter (fun c => !out c.die), retry := x.q.retry.filter (fun c => !out c.die)
        flights := x.q.flights.filter (fun f => !out (dieOf f.bank))
        alertDue := match x.q.alertDue with | some a => if out a.die then none else some a | none => none } })

end Sys2Proof.Machine
end

