-- ==== Sys2Proof/Machine/Repair.lean ====
section
/-! DEFINITION. Failing TSVs, retirement and the mooring table (R174 to R185, R187). A TSV of a channel is numbered 0 to 279
in the data class (272 to 279 the spares) and 280 + n for command-class TSV n (0 to 35 command and address, 36 to 39 clock,
40 to 43 spares; log entry 11). -/

namespace Sys2Proof.Machine

/-- Any field of DCC_CAP_CHj changed (R59, R60): CHANGED is set at this boundary. -/
def capChanged (ch : Nat) (s : State) : State :=
  if s.cluReady (cluOf ch) then s.modClu (cluOf ch) (fun u => { u with cap := u.cap.raise 0 }) else s

/-- A DCC_DATA record and its fault event, from the same detail (R187, R356). -/
def dccEvent (ch src : Nat) (c : Cls) (det : BitVec 64) (count : Nat) (s : State) : State :=
  raise src ch c det (dccRecord ch c det count s)

/-! ### TSVs -/

/-- The report of a failing TSV (R175, R177, R187), `cmd` for one of the command class. -/
def tsvReport (ch : Nat) (cmd : Bool) (a : TsvAct) (s : State) : State :=
  let ev := fun (c : Cls) (sym pos e : Nat) (s : State) => dccEvent ch 11 c (integDetail ch 0 0 0 sym pos e) 0 s
  let sym := fun (p : Nat) => if cmd then 0x7F else p / 4
  match a with
  | .nothing => s
  | .spared p => ev .c1 (sym p) p 0x3 s
  | .spareFailed t => ev .c1 0x7F t 0xB s
  | .again p => ev .c2 (sym p) p 0x4 s
  | .erased p => ev .c2 (sym p) p 0x4 (capChanged ch s)
  | .migrate p => ev .c2 (sym p) p 0x5 (capChanged ch s)

/-- A failing data-class TSV at the boundary after its test (R175). -/
def failData (ch t : Nat) (s : State) : State :=
  let r := (s.chan ch).i.failData s.day.tick t
  tsvReport ch false r.2 (s.modInteg ch (fun _ => r.1))

/-- A failing command-class TSV at the boundary after its test (R177); `dies` cannot receive it. -/
def failCmd (ch n : Nat) (dies : BitVec 16) (s : State) : State :=
  let r := (s.chan ch).i.failCmd n dies
  tsvReport ch true r.2 (s.modInteg ch (fun _ => r.1))

/-- A TSV that its test found failing waits for the boundary (R174).
DEDUCED, log entry 11. -/
def tsvFailed (ch t : Nat) (dies : BitVec 16) (s : State) : State :=
  prune ch (s.modInteg ch (fun i =>
    if i.pend.data.contains t || i.pend.cmd.any (fun c => c.1 + 280 = t) then i
    else if t < 280 then { i with pend := { i.pend with data := i.pend.data ++ [t] } }
    else { i with pend := { i.pend with cmd := i.pend.cmd ++ [(t - 280, dies)] } }))

/-! ### Retirement -/

/-- Granule `g` lies in a retired slice or channel of its channel. -/
def retiredGran (i : Integ) (g : Nat) : Bool := i.retChan || i.retSlices.getLsbD (dieOf (bankOf (64 * g)))

/-- A retirement takes effect (R56, R178 to R180): requests in the queue end RETIRED, merge entries, visits, moves and
mooring entries of retired granules go, and one MERGE_LOST record counts the merge entries lost. -/
def retire (ch : Nat) (slices : BitVec 16) (chan : Bool) (s : State) : State :=
  let old := (s.chan ch).i
  let fresh := slices &&& ~~~old.retSlices
  if old.retChan || (fresh = 0 && !chan) then s
  else
    let s := s.modInteg ch (fun i => { i with retSlices := i.retSlices ||| slices, retChan := i.retChan || chan })
    let s := capChanged ch (prune ch s)
    let s := if chan then dccEvent ch 12 .c2 (integDetail ch 0 0 0 0x7F 0x1FF 0x7) 0 s
      else (List.range 16).foldl (fun s d => if fresh.getLsbD d then
        dccEvent ch 12 .c2 (integDetail ch (8 * d) 0 0 0x7F 0x1FF 0x6) 0 s else s) s
    let i := (s.chan ch).i
    let s := endRequests ch .retired (fun e => !retiredGran i (2 * e.chunk)) s
    let lost := i.merge.filter (fun m => retiredGran i m.gran && m.cover != 0)
    let s := match lost with
      | m :: _ => dccEvent ch 14 .c2 (granDetail m.gran 0x7F 0x1FF 0xA) lost.length s
      | [] => s
    s.modInteg ch (fun i => { i with
      merge := i.merge.filter (fun m => !retiredGran i m.gran)
      visits := i.visits.filter (fun g => !retiredGran i g)
      rereads := i.rereads.filter (fun g => !retiredGran i g)
      rewrites := i.rewrites.filter (fun r => !retiredGran i r.1)
      cand := i.cand.filter (fun c => !retiredGran i c.gran)
      moves := i.moves.filter (fun m => !(i.retChan || i.retSlices.getLsbD (dieOf m.bank)))
      mooring := i.mooring.map (fun m => (m.1, match m.2 with
        | some e => if i.retChan || i.retSlices.getLsbD (dieOf e.bank) then none else some e
        | none => none)) })

/-! ### Mooring -/

def Integ.moor (i : Integ) (n : Nat) : Option Moor := tget none i.mooring n
/-- Spare row `n` of bank `b` is marked bad (R184). -/
def Integ.isBad (i : Integ) (b n : Nat) : Bool := i.badSpare.contains (32 * b + n)

/-- The lowest free entry that R184 allows for bank `b`. -/
def freeEntry (i : Integ) (b : Nat) : Option Nat :=
  (List.range 32).find? (fun n => (i.moor n).isNone && !i.isBad b n && !(i.moves.any (fun m => m.entry = n && !m.back)))

/-- The valid entry of a row. -/
def entryOfRow (i : Integ) (b r : Nat) : Option Nat :=
  (List.range 32).find? (fun n => match i.moor n with | some m => m.bank = b ∧ m.row = r | none => false)

/-- The entry that a move in progress gives the row at the coming boundary. -/
def comingEntry (i : Integ) (b r : Nat) : Option Nat :=
  (i.moves.find? (fun m => m.bank = b ∧ m.row = r ∧ !m.back ∧ m.entry ≠ latchMove)).map (·.entry)

/-- The granules of a mask. -/
def maskGrans (m : BitVec 16) : List Nat := (List.range 16).filter (fun j => m.getLsbD j)

/-- A move to an entry begins (R182 to R185): its granules are copied in scrub slots, and the boundary after makes it effective. -/
def beginMove (ch : Nat) (m : Move) (s : State) : State :=
  s.modInteg ch (fun i => { i with moves := i.moves ++ [{ m with todo := maskGrans m.mask }] })

/-- No entry is allowed and free (R183): a MOORING_FULL record with the uncovered rows. -/
def mooringFull (ch g count : Nat) (s : State) : State :=
  dccEvent ch 13 .c2 (granDetail g 0x7F 0x1FF 0x9) count s

/-- Spare row `n` of bank `b` is marked bad (R184); the entry it serves moves to another. -/
def markBad (ch b n : Nat) (s : State) : State :=
  let s := s.modInteg ch (fun i => if i.isBad b n then i else { i with badSpare := i.badSpare ++ [32 * b + n] })
  let i := (s.chan ch).i
  match i.moor n with
  | some m =>
    if i.moves.any (fun y => y.freeOld = some n) then s
    else if m.bank = b then
      match freeEntry i b with
      | some j => beginMove ch { entry := j, source := m.source, bank := b, row := m.row, mask := m.mask
                                 gran := (maskGrans m.mask).headD 0, freeOld := some n } s
      | none => mooringFull ch (addrOf ch b m.row 0 / 64) 0 s
    else s
  | none => s

/-- The entry for a granule of row `r` of bank `b` (R182 step 1, R184): the one that the row has or is getting, else the lowest free one; none
whose spare row is marked bad. -/
def entryFor (i : Integ) (b r : Nat) : Option Nat :=
  (((comingEntry i b r).or (entryOfRow i b r)).filter (fun n => !i.isBad b n)).or (freeEntry i b)

/-- A mooring candidate at the end of its round (R182 to R184): dropped where its error bits fall on a TSV spared or declared since it became
one. -/
def moorCandidate (ch : Nat) (c : Cand) (s : State) : State :=
  let i := (s.chan ch).i
  let a := 64 * c.gran
  let b := bankOf a
  let r := rowOf a
  let sp := spareRow0 s.tenderPart
  let mended := match c.pos with
    | some p => i.repaired.any (fun x => x.1 = p && c.tick ≤ x.2)
    | none => false
  if mended || retiredGran i c.gran then s
  else if sp ≤ r ∧ r < sp + 32 then markBad ch b (r - sp) s
  else match moorHit i b r (granOf a) with
    | some n => markBad ch b n s
    | none =>
      match entryFor i b r with
      | some n => beginMove ch { entry := n, source := 0, bank := b, row := r, mask := 1#16 <<< granOf a, gran := granOf a } s
      | none => mooringFull ch c.gran 0 s

/-- The mooring candidates of the ending round are decided (R182). -/
def mooringRound (ch : Nat) (s : State) : State :=
  let cs := (s.chan ch).i.cand
  cs.foldl (fun s c => moorCandidate ch c s) (s.modInteg ch (fun i => { i with cand := [] }))

/-- A round of 64 ticks begins on a channel (R174, R182): candidates that are left are decided, and its counts start afresh. -/
def roundBoundary (ch : Nat) (s : State) : State :=
  if s.day.tick % 64 = 0 then (mooringRound ch s).modInteg ch (fun i => { i with teErr := [], repaired := [] }) else s

/-- One move takes effect at the boundary (R182 step 4, R184 step 3, R185), or the latch of an activated row is loaded (R413). -/
def finishMove (ch : Nat) (s : State) (m : Move) : State :=
  let s := s.modInteg ch (fun i =>
    let old := i.moor m.entry
    let row := (ch, m.bank, m.row)
    if m.entry = latchMove then { i with rowRepair := if i.rowRepair.contains row then i.rowRepair else i.rowRepair ++ [row] }
    else if m.back then { i with mooring := tset i.mooring m.entry none }
    else
      let i := { i with mooring := tset i.mooring m.entry (some {
        source := if m.source = 2 then 2 else (old.map (·.source)).getD m.source, bank := m.bank, row := m.row
        mask := m.mask ||| ((old.map (·.mask)).getD 0) }) }
      match m.freeOld with
      | some n => { i with mooring := tset i.mooring n none }
      | none => i)
  if m.back || m.entry = latchMove then s
  else
    dccEvent ch 13 .c1 (granDetail (addrOf ch m.bank m.row m.gran / 64) 0x7F 0x1FF 0x8) 0
      (s.modInteg ch (fun i => { i with cnt := { i.cnt with moored := satInc i.cnt.moored } }))

/-- The moves whose granules have all been copied take effect. -/
def finishMoves (ch : Nat) (s : State) : State :=
  let ms := (s.chan ch).i.moves.filter (fun m => m.todo.isEmpty)
  ms.foldl (finishMove ch) (s.modInteg ch (fun i => { i with moves := i.moves.filter (fun m => !m.todo.isEmpty) }))

/-- What the tests of the ended tick decided for a channel takes effect at the boundary (R175, R177, R178). -/
def applyPend (ch : Nat) (s : State) : State :=
  let p := (s.chan ch).i.pend
  if p = {} then s
  else
    let s := s.modInteg ch (fun i => { i with pend := {} })
    let s := p.data.foldl (fun s t => failData ch t s) s
    let s := p.cmd.foldl (fun s t => failCmd ch t.1 t.2 s) s
    let q := (s.chan ch).i.pend
    retire ch (p.slices ||| q.slices) (p.channel || q.channel) (s.modInteg ch (fun i => { i with pend := {} }))

/-- The corrected granules of the ended tick make one record (R187). -/
def ceRecord (ch : Nat) (s : State) : State :=
  let i := (s.chan ch).i
  if i.ceTick = 0 then s
  else (dccRecord ch .c1 i.ceFirst i.ceTick s).modInteg ch (fun i => { i with ceTick := 0, ceFirst := 0 })

end Sys2Proof.Machine
end

