-- ==== Sys2Proof/Machine/Collect.lean ====
section
/-! DEFINITION. The end of a command: the collector takes the events on its line, a lightship entry runs its controllers'
part (R367, R368), and readiness changes make READY records (R435). -/

namespace Sys2Proof.Machine

/-- Every slice of the channel goes into self-refresh, its rows closed, by PREA and SRE on the row bus (R152, R153, R155); nothing goes to a
slice that a failure stops (R178). -/
def chanSleep (doubled : Bool) (ch : Nat) (s : State) : State :=
  s.modChan ch (fun x => { x with q :=
    ((List.range 16).filter (fun d => !doomed x.i d)).foldl (Sched.sleep (s.clu (cluOf ch)).step s.day.tick doubled) x.q })

/-- The channel issues no more (R157, R367, R424): what is on its way ends, its slices go into self-refresh, a die that still shows a parity
alert with them. -/
def chanHalt (doubled : Bool) (ch : Nat) (s : State) : State :=
  (chanSleep doubled ch s).modSched ch (fun q =>
    let q := (List.range 16).foldl (fun q d => (q.modSlice d (fun y => { y with alert := false })).sre s.day.tick d doubled) q
    { q with maint := [], replay := [], flights := [], alertDue := none, retry := [] })

/-- A channel is stopped for lightship mode or stack reset: merge entries written back, requests left, slices into
self-refresh (R172, R367, R424).
DEDUCED, log entry 20. -/
def stopChannel (doubled : Bool) (ch : Nat) (s : State) : State :=
  chanHalt doubled ch (endRequests ch .stopped (fun _ => false) (mergeFlush ch (recover ch 80 s)))

/-- The controllers' part of the lightship sequence, and the relays (R154, R367, R368). -/
def lsControllers (s : State) : State :=
  let s := (List.range 32).foldl (fun s c => stopChannel true c s) s
  let s := (List.range 8).foldl (fun s k => s.modClu k (fun u =>
    { u with stepTick := 0, abandoned := u.stepTick ≠ 0, clkStop := true, held := none })) s
  s.allPorts (fun _ x => { x with rly := { x.rly with rtags := x.rly.rtags.map (fun t =>
    if t.2.st == .outstanding then (t.1, { t.2 with st := .zombie }) else t) } })

/-- One pass of the collector. -/
def collectPass (s : State) : State :=
  let s := if s.flt.line.isEmpty then s else collectLine s
  if s.ls.ctl then lsControllers { s with ls := { s.ls with ctl := false } } else s

/-- The collector and what it starts; a controller that stops can raise further events, which do not enter again. -/
def collect (s : State) : State :=
  if s.flt.line.isEmpty && !s.ls.ctl then s else collectPass (collectPass (collectPass s))

/-- DCC_CAP_CHj of a channel reads other than 0 while its cluster is ready (R59, R60). -/
def Integ.capSome (i : Integ) : Bool := i.retChan || i.retSlices != 0 || !i.declared.isEmpty

/-- A cluster that became ready or not ready shows its capacity map or hides it (R60). -/
def capTrack (old : BitVec 16) (s : State) : State :=
  (List.range 8).foldl (fun s k =>
    if old.getLsbD k != s.ready.getLsbD k && (List.range 4).any (fun j => (s.chan (4 * k + j)).i.capSome) then
      s.modClu k (fun u => { u with cap := u.cap.raise 0 })
    else s) s

/-- The end of a command that began in `s0` (R60, R343, R354, R435). -/
def settle (s0 s : State) : State :=
  let s := collect s
  readyRecords (readyBits s0) (if s0.ready = s.ready then s else capTrack s0.ready s)

end Sys2Proof.Machine
end

