-- ==== Sys2Proof/Machine/Request.lean ====
section
/-! DEFINITION. Reception of down frames (R108, R113 to R118): acknowledgements, the receiver's state machine, the checks
made on receipt, the class queues. -/

namespace Sys2Proof.Machine

/-! ### Acknowledgements -/

/-- A request that has a bound is late when its last transmission left after its deadline (R40, R44). -/
def lateBound (b : Option Bound) (sent : Nat) : Bool :=
  match b with
  | some b => decide (sent > b.accepted + 2 + 3 * b.s + b.u + b.a)
  | none => false

/-- A late completion of class `c` decided in this tick (R44). -/
def addLate (c : Nat) (s : State) : State :=
  s.modDay (fun d => { d with late := tset d.late c (satInc (tget 0 d.late c))
                              lateNow := tset d.lateNow c (tget 0 d.lateNow c + 1) })

/-- An ACK covers the response of tag `t` of port `p`, last sent in tick `sent` (R39, R44, R108, R126, R190): the completion
point is known, the tag is free, its counts are released. -/
def freeTag (p t sent : Nat) (s : State) : State :=
  let r := (s.port p).fr.tag t
  let s := if lateBound r.bound sent then addLate r.sect s else s
  let s := if r.holds then releaseCounts p r.sect s else s
  s.modPort p (fun x => { x with fr := x.fr.modTag t (fun _ => {}) })

/-- The credits that a CREDITS frame carries. -/
def UpBody.credits? : UpBody → Option (List Nat)
  | .credits c => some c
  | _ => none

/-- An ACK covers a CREDITS frame with the credits `c` (R111): what is still enforced beside the new value is the largest of `c`, to
which the host has come, and what the CREDITS frames carry that no ACK covers yet. -/
def Port.creditsAcked (c : List Nat) (x : Port) : Port :=
  let still := x.rty.replay.filterMap (fun f => f.body.credits?) ++ x.rty.unsent.filterMap UpBody.credits?
  { x with fr := { x.fr with
      credFrame := !still.isEmpty
      credOld := (List.range 7).map (fun k => (k, (c :: still).foldl (fun m l => max m (l.getD k 0)) 0)) } }

/-- A frame leaves the replay buffer (R111, R113). -/
def freeFrame (p : Nat) (f : TxFrame) (s : State) : State :=
  let s := f.body.tags.foldl (fun s t => freeTag p t f.sent s) s
  match f.body with
  | .credits c => s.modPort p (Port.creditsAcked c)
  | _ => s

/-- The number of frames that an ACK of value `a` covers, where it lies within the window (R113, R114). -/
def ackCovers (r : Retry) (a : Fseq) : Option Nat :=
  let oldest := match r.replay with | f :: _ => f.fseq | [] => r.txNext
  let k := (a - (oldest - 1)).toNat
  if k ≤ r.replay.length then some k else none

/-- The first `k` frames of the replay buffer are freed; ACK progress ends a run of timeout episodes (R114). -/
def ackFrames (p k : Nat) (s : State) : State :=
  let fs := (s.port p).rty.replay.take k
  if k = 0 then s
  else
    let s := s.modPort p (fun x => { x with rty := { x.rty with replay := x.rty.replay.drop k, episodes := 0 } })
    fs.foldl (fun s f => freeFrame p f s) s

/-- A place that an ACK freed lets the transmitter leave STALL (R114). -/
def pumpPort (p : Nat) (s : State) : State := s.modPort p (fun x => x.pump s.day.tick)

/-- A GAL_FRAME event of port `p`: the record is captured at the boundary that sets its bit (R118, R343). -/
def galFrame (p : Nat) (c : Cls) (s : State) : State :=
  emit { unit := 0x03, inst := p, cls := c, payload := .galFrame p, atBoundary := true } s

/-- A GAL_LINK event of port `p` (R91, R343). -/
def galLinkEv (p : Nat) (c : Cls) (s : State) : State :=
  emit { unit := 0x02, inst := p, cls := c, payload := .galLink p, atBoundary := true } s

/-- A protocol error of port `p` (R118): logged, the port fenced with cause PROTOCOL, a C2 event; an ACK or NAK outside the
window also retrains (R114). -/
def protocolError (p : Nat) (opc : BitVec 8) (tag : Tag) (retrain : Bool) (s : State) : State :=
  let s := s.modPort p (fun x => { x with fr := { x.fr with
    err := { opc := opc, tag := tag, detail := 0, protocol := true }, fevt := x.fr.fevt.raise 4 } })
  let s := fencePort p .proto s
  let s := if retrain then recoverRelease p (s.modPort p (fun x => x.retrain s.day.tick s.stackId)) else s
  raise 5 p .c2 (payloadSoon s (.galFrame p)) (galFrame p .c2 s)

/-- A replay episode begins (R114, R115, R118): counted, with a GAL_FRAME record of class C1. -/
def replayEpisode (p k : Nat) (s : State) : State :=
  galFrame p .c1 (s.modPort p (fun x => x.replayFrom s.day.tick k))

/-- The retry limit is reached (R114, R115, R118): the link retrains and is fenced with cause LINK. -/
def retryLimit (p : Nat) (s : State) : State :=
  let s := s.modPort p (fun x => { x with fr := { x.fr with fevt := x.fr.fevt.raise 2 } })
  let s := recoverRelease p (s.modPort p (fun x => x.retrain s.day.tick s.stackId))
  raise 4 p .c2 (payloadSoon s (.galFrame p)) (galFrame p .c2 s)

/-- The ACK field of a received frame (R113, R114): frames freed, or a protocol error. The Bool tells that the frame may
be looked at further. -/
def useAck (p : Nat) (a : Fseq) (opc : BitVec 8) (tag : Tag) (s : State) : State × Bool :=
  match ackCovers (s.port p).rty a with
  | some 0 => (s, true)
  | some k => (pumpPort p (ackFrames p k s), true)
  | none => (protocolError p opc tag true s, false)

/-! ### The receiver -/

/-- A repair of a down lane waits for its marker: frames are discarded (R84). -/
def repairing (x : Port) : Bool := match x.lane.swapDn with | some w => w.kind == .repair | none => false

/-- The receiver of port `p` sees frames (R71, R84, R88). -/
def receiving (x : Port) : Bool := x.link.lstate == .active && !x.link.dnOcc && !repairing x && !x.link.noClk

/-- NAK (E) is sent for the `n`th time: a NAK that is owed leaves in SEND and in STALL, and ends occulting (R89, R114). -/
def Port.sendNak (tick n : Nat) (x : Port) : Port :=
  { x with rty := { x.rty with nakWait := true, naks := n, nakOwed := true } }.pump tick

/-- The receiver enters NAK_WAIT with its first NAK (R114). -/
def enterNak (p : Nat) (s : State) : State := s.modPort p (Port.sendNak s.day.tick 1)

/-- A CRC failure or an FSEQ gap is reported (R118): GAL_CNT_CRC, GAL_FEVT.CRC_ERR and a C1 event; `inj` when the check was made to
fail (R375). -/
def reportCrc (p : Nat) (inj : Bool) (s : State) : State :=
  let s := s.modPort p (fun x => { x with fr := { x.fr with cntCrc := satInc x.fr.cntCrc, fevt := x.fr.fevt.raise 0 } })
  raiseInj 0 p .c1 (payloadSoon s (.galFrame p)) inj (galFrame p .c1 s)

/-- The descrambler has run over one more frame (R80). -/
def Port.descramble (x : Port) : Port := { x with lane := { x.lane with scrDn := x.lane.scrDn + 1 } }

/-- A frame whose CRC fails (R114, R118). -/
def crcFail (p : Nat) (inj : Bool) (s : State) : State :=
  let s := reportCrc p inj (s.modPort p Port.descramble)
  if (s.port p).rty.nakWait then s else enterNak p s

/-- One more frame with a good CRC (R80, R133). -/
def countDown (p : Nat) (s : State) : State :=
  s.modPort p (fun x => { x.descramble with fr := { x.fr with framesDn := x.fr.framesDn + 1 } })

/-- A frame with FSEQ = E is accepted (R114). -/
def Port.accept (x : Port) : Port :=
  { x with rty := { x.rty with rxE := x.rty.rxE + 1, nakWait := false, naks := 0, ackOwed := x.link.upOcc } }

/-- A sequenced down frame (R113, R114): its ACK is used, then the FSEQ check decides whether `act` takes it. -/
def rxSeq (p : Nat) (h : Hdr) (opc : BitVec 8) (tag : Tag) (act : State → State) (s : State) : State :=
  let x := s.port p
  if !receiving x then s
  else if (injArmed s 2 p).isSome && h.fseq = x.rty.rxE && !x.rty.nakWait then crcFail p true (injUse s)
  else
    let a := useAck p h.ack opc tag (countDown p s)
    if !a.2 then a.1
    else
      let x := a.1.port p
      if h.fseq = x.rty.rxE then act (a.1.modPort p Port.accept)
      else if x.rty.nakWait then a.1
      else if (x.rty.rxE - h.fseq).toNat ≤ 256 then a.1
      else enterNak p (reportCrc p false a.1)

/-- An IDLE frame (R114): its ACK is used. -/
def rxIdle (p : Nat) (a : Fseq) (s : State) : State :=
  if !receiving (s.port p) then s else (useAck p a 0x00 0 (countDown p s)).1

/-- A NAK frame for E′ (R114): its ACK is used, it is an ACK of E′ − 1, and what the replay buffer then still holds is resent. Frames
that waited for a place in the buffer leave after that. -/
def rxNak (p : Nat) (a e : Fseq) (s : State) : State :=
  if !receiving (s.port p) then s
  else
    let s := countDown p s
    match ackCovers (s.port p).rty a with
    | none => protocolError p 0xE0 0 true s
    | some j =>
      let s := ackFrames p j s
      match ackCovers (s.port p).rty (e - 1) with
      | none => protocolError p 0xE0 0 true s
      | some k =>
        let s := ackFrames p k s
        pumpPort p (if (s.port p).rty.replay.isEmpty then s else replayEpisode p 0 s)

/-! ### Checks on receipt -/

/-- The inner opcode of a relay frame (R127). -/
def iopc (r : ReqF) : BitVec 8 := r.operand.extractLsb' 0 8

/-- The inner opcodes of a remote accumulation (R102). -/
def isRacc (o : BitVec 8) : Bool := o = 0x50 || o = 0x51 || o = 0x52 || o = 0x53
def isAtomic (o : BitVec 8) : Bool := 0x10 ≤ o.toNat && o.toNat ≤ 0x19
def isWriteOp (o : BitVec 8) : Bool := o = 0x04 || o = 0x05 || o = 0x06

/-- The kind of an opcode (R102). -/
def kindOf (o : BitVec 8) : Kind :=
  if o = 0x01 || o = 0x02 then .read
  else if isWriteOp o then .write
  else if isAtomic o then .atomic
  else if o = 0x20 then .fence
  else if o = 0x30 then .doorbell
  else if o = 0x40 then .relayed
  else .unknown

/-- The opcode whose rules a request's address, mask and data follow: the inner one for RELAYED (R128). -/
def effOpc (o : BitVec 8) (r : ReqF) : BitVec 8 := if o = 0x40 then iopc r else o

/-- The request writes, for R121: a write, an atomic, or a RELAYED one of those kinds. -/
def writesMem (o : BitVec 8) (r : ReqF) : Bool :=
  let e := effOpc o r
  isWriteOp e || isAtomic e || isRacc e

/-- The field rules of R105 and R129 for opcode `o` (inner opcode for RELAYED): the first DETAIL that applies. No rule says what
POISON = 1 on a remote accumulation does: it is accepted, and its addends are applied as with POISON = 0.
DESIGN CHOICE, log entry 64. -/
def fieldError (o : BitVec 8) (r : ReqF) : Option Nat :=
  let a := r.addr.toNat
  let align := fun (n : Nat) => a % n = 0
  if o = 0x20 then (if r.poison then some 0x15 else none)
  else if o = 0x30 then
    if a ≥ 2 ^ 18 || r.operand.extractLsb' 24 8 ≠ 0 then some 0x13
    else if r.mask ≠ 0 then some 0x14
    else if r.poison then some 0x15 else none
  else if o = 0x06 || isRacc o then
    if !align 128 then some 0x13
    else if r.mask = 0 then some 0x14
    else if isRacc o then
      let ty := (r.operand.extractLsb' 26 3).toNat
      if ty > 4 || (o = 0x53 && ty ≠ 0) then some 0x19 else none
    else none
  else
    let n := if o = 0x01 || o = 0x04 then 64 else if isAtomic o then 8 else 128
    if !align n then some 0x13
    else if r.mask ≠ 0 then some 0x14
    else if r.poison && !isWriteOp o then some 0x15
    else none

/-- IOPC is one of those that R129 permits. -/
def innerOk (o : BitVec 8) : Bool := o = 0x01 || o = 0x02 || isWriteOp o || isAtomic o || isRacc o

/-- Checks 3 to 10 of R117 in their order: the status and DETAIL of the first that fails. -/
def receiptError (s : State) (x : Port) (o : BitVec 8) (r : ReqF) : Option (Nat × Nat) :=
  if x.fr.fenced then some (stFENCED, 0x00)
  else if !s.tenderPart && (o = 0x30 || (o = 0x40 && isRacc (iopc r))) then some (stUNSUP, 0)
  else if r.sect = 7 then some (stBAD, 0x11)
  else if x.fr.outClass r.sect.toNat ≥ x.fr.credit r.sect.toNat then some (stBAD, 0x12)
  else if o = 0x40 && !innerOk (iopc r) then some (stBAD, 0x18)
  else match fieldError (effOpc o r) r with
    | some d => some (stBAD, d)
    | none =>
      if o = 0x40 then
        if s.stackId = 0xFFF then some (stWRONG, 0)
        else if r.stack = 0xFFF || r.orig = 0xFFF then some (stBAD, 0x17)
        else if !x.rly.en then some (stBAD, 0x16)
        else none
      else none

/-- A BAD_REQUEST answer is reported (R118, R133).
DEDUCED, log entry 51. -/
def reportBad (opc : BitVec 8) (tag : Tag) (detail : Nat) (f : Frames) : Frames :=
  { f with cntBadreq := satInc f.cntBadreq, fevt := f.fevt.raise 3
           err := { opc := opc, tag := tag, detail := detail, protocol := false } }

/-- The zero data of an error response, as long as its kind's data (R102). -/
def errData (_ : Kind) : List (BitVec 8) := []

/-- A request that fails a check is answered at once (R109, R117). -/
def Port.answerError (tick : Nat) (me : StackId) (o : BitVec 8) (t st d : Nat) (x : Port) : Port :=
  let x := if st = stBAD then { x with fr := reportBad o (BitVec.ofNat 9 t) d x.fr } else x
  x.answer tick me t st d []

/-- The record of a received request's tag (R108). -/
def newTag (o : BitVec 8) (r : ReqF) (arr : Nat) (k : Kind) : TagRec :=
  { st := .held, kind := k, sect := r.sect.toNat, arr := arr, stack := r.stack, orig := r.orig, writes := writesMem o r }

/-- A request that passes the checks made on receipt enters its class queue (R112). -/
def Port.queueReq (o : BitVec 8) (r : ReqF) (x : Port) : Port :=
  let c := r.sect.toNat
  { x with fr := { x.fr with
      arr := x.fr.arr + 1
      tags := tset x.fr.tags r.tag.toNat (newTag o r x.fr.arr (kindOf o))
      cq := tset x.fr.cq c (tget [] x.fr.cq c ++ [{ opc := o, f := r, arr := x.fr.arr }]) } }

/-- A down request with opcode `o` is accepted by the retry layer (R117). -/
def recvRequest (p : Nat) (o : BitVec 8) (r : ReqF) (s : State) : State :=
  let x := s.port p
  let t := r.tag.toNat
  if (x.fr.tag t).outstanding then protocolError p o r.tag false s
  else
    let open_ := fun (k : Kind) (x : Port) => { x with fr := { x.fr with
      arr := x.fr.arr + 1, tags := tset x.fr.tags t (newTag o r x.fr.arr k) } }
    if kindOf o = .unknown then
      s.modPort p (fun x => (open_ .unknown x).answerError s.day.tick s.stackId o t stBAD 0x10)
    else match receiptError s x o r with
      | some e => s.modPort p (fun x => (open_ (kindOf o) x).answerError s.day.tick s.stackId o t e.1 e.2)
      | none => s.modPort p (fun x => x.queueReq o r)

/-- A down request frame (R113, R114, R117). -/
def rxRequest (p : Nat) (h : Hdr) (o : BitVec 8) (r : ReqF) (s : State) : State :=
  settle s (rxSeq p h o r.tag (recvRequest p o r) s)

end Sys2Proof.Machine
end

