-- ==== Sys2Proof/Machine/Crc.lean ====
section
/-! DEFINITION. The CRC-32 of R99 over 64-bit words, as the seal words of the Light list carry it (R396). -/

namespace Sys2Proof.Machine

/-- One message bit enters the register (R99). -/
def crcBit (r : Word32) (b : Bool) : Word32 :=
  (r <<< 1) ^^^ (if r.msb != b then 0x04C11DB7#32 else 0#32)

/-- One word enters, from bit 0 to bit 63. -/
def crcWord (r : Word32) (w : Word64) : Word32 := (List.range 64).foldl (fun r i => crcBit r (w.getLsbD i)) r

/-- The CRC of a bank's data words in ascending order (R396). -/
def crcWords (ws : List Word64) : Word32 := ws.foldl crcWord 0xFFFFFFFF#32 ^^^ 0xFFFFFFFF#32

end Sys2Proof.Machine
end

