-- ==== Sys2Proof/Machine/Wire.lean ====
section
/-! DEFINITION. The bits on the lanes of a Gallery port: training words (R75), parameter blocks (R79), the content of each training
stage (R73, R78), the scrambler (R80), pattern generators and checkers (R93), frames with their headers and CRC (R98 to R102, R127),
and the way of a received frame from physical lanes to a command (R68, R76).
A 16-bit word of a lane holds in bit u what the lane carries in UI u. -/

namespace Sys2Proof.Machine

/-! ### Training words (R75, R79) -/

/-- The codes of a training word (R75). -/
inductive WordCode where
  | detect | ident | deskew | param | idle | occult | repair
  deriving DecidableEq, Repr

def WordCode.code : WordCode → BitVec 3
  | .detect => 0 | .ident => 1 | .deskew => 2 | .param => 3 | .idle => 4 | .occult => 5 | .repair => 6

/-- The parity of all bits of a word: true where an odd number of them is 1. -/
def oddParity {n : Nat} (w : BitVec n) : Bool := (List.range n).foldl (fun b i => b != w.getLsbD i) false

/-- The training word of a lane: SYNC, CODE, LANE, FCNT, and even parity over them (R75). -/
def trainWord (c : WordCode) (lane fcnt : Nat) : BitVec 16 :=
  let f : BitVec 2 := match c with | .occult | .repair => 0 | _ => BitVec.ofNat 2 fcnt
  let w : BitVec 15 := 0b110#3 ++ (c.code ++ (BitVec.ofNat 7 lane ++ f))
  w ++ b1 (oddParity w)

/-- LANE of a received training word, where its parity is valid (R75, R76). -/
def wordLane (w : BitVec 16) : Option Nat := if oddParity w then none else some (w.extractLsb' 3 7).toNat

/-- A word sent most significant bit first, as the lane carries it UI by UI. -/
def msbFirst (w : BitVec 16) : BitVec 16 := w.reverse

/-- The order in which the receiver finds a group of `n` lanes whose numbers begin at `base` (R76), from the words on its lanes: lanes without signal or without
valid parity are not counted. -/
def groupOrder (words : List (Option (BitVec 16))) (base n : Nat) : GroupOrder :=
  let seen := (List.range n).filterMap (fun i => ((words.getD i none).bind wordLane).map (fun l => (i, l)))
  if seen.all (fun y => y.2 = base + y.1) then .identity
  else if seen.all (fun y => y.2 = base + (n - 1 - y.1)) then .reversed
  else .other

/-- The skew of a direction: the largest delay between any two lanes that show signal (R77). -/
def skewOf (offs : List (Option Nat)) : Nat :=
  let l := offs.filterMap id
  l.foldl max 0 - l.foldl min (l.headD 0)

/-- The parameter block by which the stack tells the host the spare mapping of its receiver (R79): VERSION 1, ROLE 1. -/
def ownBlock (m : LaneMap) : BitVec 64 :=
  let lane := fun (o : Option Nat) => BitVec.ofNat 7 (o.getD 0x7F)
  0#32 ++ (b1 m.s1Bad ++ (lane m.s1 ++ (b1 m.s0Bad ++ (lane m.s0 ++ (0#7 ++ (1#1 ++ 0x01#8))))))

/-- The value that 16 consecutive copies agree on, the first such one (R79). -/
def sixteen : Nat → Option (BitVec 64) → List (BitVec 64) → Option (BitVec 64)
  | _, _, [] => none
  | n, p, b :: bs =>
    let n := if p = some b then n + 1 else 1
    if n ≥ 16 then some b else sixteen n (some b) bs

/-- The block that a receiver accepts (R79): `copies` lists, for each copy k that lanes 4k to 4k+3 carry, the values received one
after the other; only a copy whose four lanes passed LANETEST is used, and one of VERSION 0x01 is valid. -/
def acceptBlock (failed : List Nat) (copies : List (List (BitVec 64))) : Option (BitVec 64) :=
  (List.range 16).findSome? (fun k =>
    if (List.range 4).any (fun j => failed.contains (4 * k + j)) then none
    else (sixteen 0 none (copies.getD k [])).filter (fun b => b.extractLsb' 0 8 == 0x01))

/-! ### PRBS sequences (R80, R93) -/

/-- The taps of a PRBS x^n + x^m + 1. -/
structure Prbs where
  n : Nat
  m : Nat
  deriving DecidableEq, Repr

def prbs7 : Prbs := ⟨7, 6⟩
def prbs15 : Prbs := ⟨15, 14⟩
def prbs31 : Prbs := ⟨31, 28⟩

/-- The next bit of the sequence, and the state after it. -/
def Prbs.bit (g : Prbs) (r : BitVec 31) : Bool := r.getLsbD (g.n - 1) != r.getLsbD (g.m - 1)
def Prbs.shift (g : Prbs) (r : BitVec 31) (b : Bool) : BitVec 31 :=
  ((r <<< 1) ||| (if b then 1 else 0)) &&& BitVec.ofNat 31 (2 ^ g.n - 1)

/-- The state `k` steps on. -/
def Prbs.run (g : Prbs) : Nat → BitVec 31 → BitVec 31
  | 0, r => r
  | k + 1, r => g.run k (g.shift r (g.bit r))

/-- The 16 bits that follow `k` steps after the all-ones state. -/
def Prbs.word (g : Prbs) (k : Nat) : BitVec 16 :=
  (List.range 16).foldl (fun w u =>
    let r := g.run (k + u) (BitVec.ofNat 31 (2 ^ g.n - 1))
    if g.bit r then w ||| (1#16 <<< u) else w) 0

/-! ### The scrambler (R80) -/

/-- The seed of lane `j`. -/
def scrSeed (j : Nat) : BitVec 23 := BitVec.ofNat 23 (j * 2 ^ 16 + 0xFFFF)
/-- One UI: the new bit, and the state with it shifted in. -/
def scrBit (s : BitVec 23) : Bool := s.getLsbD 22 != s.getLsbD 17
def scrStep (s : BitVec 23) : BitVec 23 := (s <<< 1) ||| (if scrBit s then 1 else 0)
def scrRun : Nat → BitVec 23 → BitVec 23
  | 0, s => s
  | k + 1, s => scrRun k (scrStep s)

/-- The scrambler state of lane `j` after `n` frames. -/
def scrAt (j n : Nat) : BitVec 23 := scrRun (16 * n) (scrSeed j)

/-- One frame's bits of a lane, scrambled from state `s`; descrambling is the same. -/
def scramble (s : BitVec 23) (w : BitVec 16) : BitVec 16 :=
  (List.range 16).foldl (fun v u => if scrBit (scrRun u s) then v ^^^ (1#16 <<< u) else v) w

/-! ### Frames (R98 to R102) -/

/-- Header bits [136:52] of the request layout: OPERAND, MASK, ADDR (R100). -/
def midReq (addr : Addr) (mask : BitVec 16) (operand : BitVec 32) : BitVec 85 := operand ++ (mask ++ addr)

/-- Header bits [136:52] of the response layout: XTAG7 to XTAG1, CNT, DETAIL, STATUS (R100). -/
def midRsp (status detail : Nat) (xt : List Tag) : BitVec 85 :=
  let x := (xt.take 7).zipIdx.foldl (fun (w : BitVec 63) (y : Tag × Nat) => w ||| ((y.1.setWidth 63) <<< (9 * y.2))) 0
  0#7 ++ (x ++ (BitVec.ofNat 3 (min xt.length 7) ++ (BitVec.ofNat 8 detail ++ BitVec.ofNat 4 status)))

/-- Header bits [136:52] of the credits layout: CRED6 to CRED0 (R100). -/
def midCred (c : List Nat) : BitVec 85 :=
  (c.take 7).zipIdx.foldl (fun (w : BitVec 85) (y : Nat × Nat) => w ||| (BitVec.ofNat 85 (y.1 % 1024) <<< (10 * y.2))) 0

/-- The fields of a header above FSEQ and ACK, below the CRC (R100). -/
structure Fields where
  opc : BitVec 8
  tag : Tag := 0
  sect : BitVec 3 := 0
  stack : StackId := 0
  mid : BitVec 85 := 0
  poison : Bool := false
  orig : StackId := 0
  deriving DecidableEq, Repr

/-- OPERAND of a LANE_CTL frame (R81); the stack sends no BIST_RESULT, so ERRORS is 0. -/
def laneOperand (action : Nat) (d : Dir) (lane : Nat) (k : Spare) : BitVec 32 :=
  0#19 ++ (BitVec.ofNat 1 k.val ++ (BitVec.ofNat 7 lane ++ (b1 (d == .up) ++ BitVec.ofNat 4 action)))

/-- The header fields of an up frame (R81, R100 to R102, R107, R114, R126, R127). -/
def UpBody.fields : UpBody → Fields
  | .rsp opc tag sect stack orig status detail xt _ =>
    { opc := opc, tag := tag, sect := BitVec.ofNat 3 sect, stack := stack, mid := midRsp status detail xt
      poison := status == 0x2, orig := if opc = 0xC1 then orig else 0 }
  | .credits c => { opc := 0xE1, mid := midCred c }
  | .unfence n => { opc := 0xE2, mid := midReq 0 0 (BitVec.ofNat 32 (n % 1024)) }
  | .laneCtl a d l k => { opc := 0xF0, mid := midReq 0 0 (laneOperand a d l k) }
  | .relay rtag sect stack orig addr mask operand poison _ =>
    { opc := 0xC0, tag := rtag, sect := BitVec.ofNat 3 sect, stack := stack, mid := midReq addr mask operand
      poison := poison, orig := orig }
  | .idle => { opc := 0x00 }
  | .nak e => { opc := 0xE0, mid := midReq 0 0 (e.setWidth 32) }

/-- The data bytes of an up frame; those it does not use are 0 (R99). -/
def UpBody.bytes : UpBody → List Byte
  | .rsp _ _ _ _ _ _ _ _ d | .relay _ _ _ _ _ _ _ _ d => d
  | _ => []

/-- The 128 bytes as data bits: byte B is bits [8B+7:8B] (R98). -/
def dataBits (l : List Byte) : BitVec 1024 := BitVec.ofNat 1024 (leNat (l.take 128))

/-- Header bits 0 to 159 (R100). -/
def headBits (fseq ack : Fseq) (top : Bool) (f : Fields) : BitVec 160 :=
  b1 top ++ (0#9 ++ (f.orig ++ (b1 f.poison ++ (f.mid ++ (f.stack ++ (f.sect ++ (f.tag ++ (f.opc ++ (ack ++ fseq)))))))))

/-- The message bits enter the CRC register in ascending order (R99). -/
def crcOver {n : Nat} (w : BitVec n) (r : Word32) : Word32 := (List.range n).foldl (fun r i => crcBit r (w.getLsbD i)) r

/-- The CRC-32 of a frame: header bits 0 to 159, then the data bits (R99). -/
def frameCrc (h : BitVec 160) (d : BitVec 1024) : Word32 := crcOver d (crcOver h 0xFFFFFFFF#32) ^^^ 0xFFFFFFFF#32

/-- The whole header with its CRC. -/
def withCrc (h : BitVec 160) (d : BitVec 1024) : BitVec 192 := frameCrc h d ++ h

/-- Header and data of one transmission of an up frame (R113). -/
def UpFrame.data (f : UpFrame) : BitVec 1024 := dataBits f.body.bytes
def UpFrame.header (f : UpFrame) : BitVec 192 := withCrc (headBits f.fseq f.ack f.thr f.body.fields) f.data

/-- A received frame passes its CRC (R99). -/
def crcGood (h : BitVec 192) (d : BitVec 1024) : Bool := h.extractLsb' 160 32 == frameCrc (h.extractLsb' 0 160) d

/-- The bits of a frame on logical lane `j` (R98). -/
def frameLane (h : BitVec 192) (d : BitVec 1024) (j : Nat) : BitVec 16 :=
  if j < 64 then d.extractLsb' (16 * j) 16 else h.extractLsb' (16 * (j - 64)) 16

/-- The header and the data that 76 logical lanes carry (R98). -/
def lanesHeader (lane : Nat → BitVec 16) : BitVec 192 :=
  (List.range 12).foldl (fun h i => h ||| ((lane (64 + i)).setWidth 192 <<< (16 * i))) 0
def lanesData (lane : Nat → BitVec 16) : BitVec 1024 :=
  (List.range 64).foldl (fun d i => d ||| ((lane i).setWidth 1024 <<< (16 * i))) 0

/-! ### What a lane carries -/

/-- The content of an up lane of a port in training, in frame `k` of its tick (R73, R78, R79). Where a PRBS of ADAPT or LANETEST
starts, and in which frame of a tick the bits of a forced lane are inverted, the spec leaves open.
DESIGN CHOICE, log entry 63. -/
def trainLane (x : Port) (lane k : Nat) : BitVec 16 :=
  let forced := fun (lo : Nat) => x.lane.force.getLsbD (lo + 7) && (x.lane.force.extractLsb' lo 7).toNat == lane
  match x.link.stage with
  | .detect => msbFirst (trainWord .detect lane k)
  | .phase => msbFirst 0xAAAA
  | .adapt => prbs15.word (Config.prbsStart lane + 16 * (2048 * x.link.stageTicks + k))
  | .ident => msbFirst (trainWord .ident lane k)
  | .deskew => msbFirst (trainWord .deskew lane k)
  | .laneTest =>
    let w := prbs31.word (Config.prbsStart lane + 16 * (2048 * x.link.stageTicks + k))
    if k = 0 ∧ (forced 16 || forced 24) then ~~~w else w
  | .param => if lane < 64 then (ownBlock x.lane.mapDn).extractLsb' (16 * (lane % 4)) 16 else msbFirst (trainWord .param lane k)

/-- The content of an up lane of an ACTIVE port in a frame (R79, R80): lanes 0 to 75 carry their scrambled bits, a spare those of the
lane it stands in for, or IDLE words. `n` counts the frames before it. -/
def activeLane (m : LaneMap) (n : Nat) (h : BitVec 192) (d : BitVec 1024) (lane : Nat) : BitVec 16 :=
  let own := fun (j : Nat) => scramble (scrAt j n) (frameLane h d j)
  if lane < 76 then own lane
  else match (if lane = 76 then m.s0 else m.s1) with
    | some j => own j
    | none => msbFirst (trainWord .idle lane n)

/-- A frame-long block of one training word on a lane (R84, R88), and the wake burst (R88). -/
def blockLane (c : WordCode) (lane : Nat) : BitVec 16 := msbFirst (trainWord c lane 0)
def wakeLane : BitVec 16 := msbFirst 0xAAAA

/-- What an entry of the transmitter's list puts on a lane, `n` frames after the first ACTIVE frame. -/
def UpSent.lane (m : LaneMap) (n : Nat) (u : UpSent) (lane : Nat) : BitVec 16 :=
  match u with
  | .frame f => activeLane m n f.header f.data lane
  | .occult => blockLane .occult lane
  | .repair => blockLane .repair lane
  | .wake => wakeLane

/-! ### The receiver's way from physical lanes to a command (R68) -/

/-- The physical lane that carries logical lane `j` of its own (R76): reversal is undone group by group. -/
def physLane (rev : BitVec 3) (j : Nat) : Nat :=
  if j < 64 then (if rev.getLsbD 0 then 63 - j else j)
  else if j < 76 then (if rev.getLsbD 1 then 64 + (75 - j) else j)
  else if rev.getLsbD 2 then 76 + (77 - j) else j

/-- Logical lane `j` of a received frame (R68): reversal undone, the spare mapping applied, descrambled. `phys` holds the deskewed
words of the physical lanes, `n` counts the frames before it. -/
def logicalLane (m : LaneMap) (phys : List (BitVec 16)) (n j : Nat) : BitVec 16 :=
  let own := if m.s0 = some j then 76 else if m.s1 = some j then 77 else j
  scramble (scrAt j n) (phys.getD (physLane m.rev own) 0)

/-- The header fields of a received frame in the request and in the response layout (R100, R127). -/
def rxHdr (h : BitVec 192) : Hdr := { fseq := h.extractLsb' 0 10, ack := h.extractLsb' 10 10 }
def rxReq (h : BitVec 192) (d : BitVec 1024) : ReqF :=
  { tag := h.extractLsb' 28 9, sect := h.extractLsb' 37 3, stack := h.extractLsb' 40 12, addr := h.extractLsb' 52 37
    mask := h.extractLsb' 89 16, operand := h.extractLsb' 105 32, poison := h.getLsbD 137, orig := h.extractLsb' 138 12
    data := leBytes 128 d.toNat }
def rxRsp (h : BitVec 192) (d : BitVec 1024) : RspF :=
  { tag := h.extractLsb' 28 9, sect := h.extractLsb' 37 3, stack := h.extractLsb' 40 12, orig := h.extractLsb' 138 12
    status := h.extractLsb' 52 4, detail := h.extractLsb' 56 8, poison := h.getLsbD 137, data := leBytes 128 d.toNat }

/-- The LANE_CTL command of a received frame (R81, R116). -/
def laneCommand (p : PortId) (h : Hdr) (w : BitVec 32) : Instr :=
  let d : Dir := if w.getLsbD 4 then .up else .down
  let l := w.extractLsb' 5 7
  let k : Spare := if w.getLsbD 12 then 1 else 0
  match (w.extractLsb' 0 4).toNat with
  | 1 => .swapReq p h d l k
  | 2 => .mirror p h d l k
  | 3 => .switched p h d l k
  | 4 => .swapFail p h d l k
  | 5 => .restoreReq p h d l k
  | 6 => .restore p h d l k
  | 7 => .restored p h d l k
  | 8 => .repair p h d l k
  | 9 => .bistResult p h d l (w.extractLsb' 13 19)
  | _ => .laneCtlDiscard p h (w.extractLsb' 0 4) l

/-- The command that a received frame is (R99, R102, R114, R116, R117): a frame whose CRC fails, or by its opcode a link frame, a
request, a relay frame, or one that no down frame may be. -/
def frameCommand (p : PortId) (h : BitVec 192) (d : BitVec 1024) : Instr :=
  let hd := rxHdr h
  let r := rxReq h d
  let o := h.extractLsb' 20 8
  if !crcGood h d then .frameCrcFailure p
  else match o.toNat with
    | 0x00 => .idle p hd.ack
    | 0x01 => .rd64 p hd r | 0x02 => .rd128 p hd r | 0x04 => .wr64 p hd r | 0x05 => .wr128 p hd r | 0x06 => .wrm p hd r
    | 0x10 => .atAdd p hd r | 0x11 => .atSwap p hd r | 0x12 => .atCas p hd r | 0x13 => .atAnd p hd r | 0x14 => .atOr p hd r
    | 0x15 => .atXor p hd r | 0x16 => .atSmax p hd r | 0x17 => .atSmin p hd r | 0x18 => .atUmax p hd r | 0x19 => .atUmin p hd r
    | 0x20 => .fence p hd r
    | 0x30 => match (r.operand.extractLsb' 16 8).toNat with
      | 1 => .start p hd r | 2 => .resume p hd r | 3 => .abort p hd r | _ => .doorbellUndefinedCommand p hd r
    | 0x40 => match (r.operand.extractLsb' 0 8).toNat with
      | 0x50 => .raccAdd p hd r | 0x51 => .raccMin p hd r | 0x52 => .raccMax p hd r | 0x53 => .raccFw p hd r
      | _ => .relayed p hd r
    | 0x41 => .relayRsp p hd (rxRsp h d)
    | 0xE0 => .nak p hd.ack (r.operand.extractLsb' 0 10)
    | 0xE1 => .downLinkFrameDiscard p hd false
    | 0xE2 => .downLinkFrameDiscard p hd true
    | 0xE3 => .rlyCredit p hd (r.operand.extractLsb' 0 10)
    | 0xF0 => laneCommand p hd r.operand
    | _ => .reservedOpcodeRequest p hd o r

/-- The command that 78 physical down lanes of port `p` bring in one frame (R68). -/
def lanesCommand (p : PortId) (x : Port) (phys : List (BitVec 16)) : Instr :=
  let lane := logicalLane x.lane.mapDn phys x.lane.scrDn
  frameCommand p (lanesHeader lane) (lanesData lane)

/-! ### Pattern generators and checkers (R93) -/

/-- The PRBS of a MODE, where it is one. -/
def modePrbs (mode : Nat) : Option Prbs :=
  if mode = 1 then some prbs7 else if mode = 2 then some prbs15 else if mode = 3 then some prbs31 else none

/-- What lane `j` sends in pattern frame `k`: a PRBS from the state 257·j steps after all ones, or a walking one or zero (R93). -/
def patternWord (mode j k : Nat) : BitVec 16 :=
  match modePrbs mode with
  | some g => g.word (257 * j + 16 * k)
  | none =>
    let w : BitVec 16 := if j = k % 78 then 0xFFFF else 0
    if mode = 4 then w else if mode = 5 then ~~~w else 0

/-- The ones of a 64-bit word. -/
def ones (w : BitVec 64) : Nat := (List.range 64).foldl (fun n i => if w.getLsbD i then n + 1 else n) 0

/-- What one comparison does to a checker that is synchronised, or not yet: 64 good bits synchronise it, 16 wrong bits of any 64
end that. -/
def Checker.count (c : Checker) (good : Bool) : Checker :=
  let run := if good then c.run + 1 else 0
  let wrong := (c.wrong <<< 1) ||| (if good then 0 else 1)
  if c.sync then
    if ones wrong ≥ 16 then { c with sync := false, run := 0, wrong := 0 } else { c with run := run, wrong := wrong }
  else { c with run := run, wrong := 0, sync := decide (run ≥ 64) }

/-- A received bit of a PRBS lane. While it is not synchronised the register takes the received bits; a synchronised one follows
its own sequence. DEDUCED, log entry 56. The first number adds the error, the second the comparison. -/
def Checker.bit (g : Prbs) (r : Checker × Nat × Nat) (b : Bool) : Checker × Nat × Nat :=
  let (c, e, n) := r
  let p := g.bit c.reg
  let c' := { c with reg := g.shift c.reg (if c.sync then p else b) }.count (p == b)
  if c.sync then (c', (if p = b then e else e + 1), n + 1) else (c', e, n)

/-- A received word of a PRBS lane, UI 0 first. -/
def Checker.prbs (g : Prbs) (r : Checker × Nat × Nat) (w : BitVec 16) : Checker × Nat × Nat :=
  (List.range 16).foldl (fun r u => Checker.bit g r (w.getLsbD u)) r

/-- A received word of lane `j` in a WALK mode; `w0` is the word of lane 0 in the same frame, whose walking word synchronises. -/
def Checker.walk (mode j : Nat) (r : Checker × Nat × Nat) (w0 w : BitVec 16) : Checker × Nat × Nat :=
  let (c, e, n) := r
  let c := if !c.sync && w0 == patternWord mode 0 0 then { c with sync := true, frame := 0, wrong := 0 } else c
  if !c.sync then (c, e, n)
  else
    let bad := w ^^^ patternWord mode j c.frame
    let k := ones (bad.setWidth 64)
    let wrong := (c.wrong <<< 16) ||| bad.setWidth 64
    let c := if ones wrong ≥ 16 then { c with sync := false, wrong := 0 } else { c with wrong := wrong, frame := (c.frame + 1) % 78 }
    (c, e + k, n + 16)

/-- One tick of pattern frames on the down lanes of a port in TEST (R93, R94, R97); `rx j k` is what lane `j` carries in frame `k`. -/
def Lanes.checkTick (rx : Nat → Nat → BitVec 16) (l : Lanes) : Lanes :=
  (List.range 78).foldl (fun l j =>
    let c0 := tget {} l.checkers j
    let r := (List.range 2048).foldl (fun r k => match modePrbs l.pgMode with
      | some g => Checker.prbs g r (rx j k)
      | none => Checker.walk l.pgMode j r (rx 0 k) (rx j k)) (c0, 0, 0)
    { l with
      checkers := tset l.checkers j r.1
      pcSync := if r.1.sync then l.pcSync ||| (1#78 <<< j) else l.pcSync &&& ~~~(1#78 <<< j)
      pcErr := tset l.pcErr j (satAdd (tget 0 l.pcErr j) r.2.1)
      pcBits := tset l.pcBits j ((tget 0 l.pcBits j + r.2.2) % 2 ^ 64)
      pcFail := if r.2.1 = 0 then l.pcFail else l.pcFail ||| (1#78 <<< j) }) { l with pgFrame := l.pgFrame + 2048 }

/-- The checkers and the generator begin anew with a MODE (R93). -/
def Lanes.startMode (mode : Nat) (l : Lanes) : Lanes := { l with pgMode := mode, checkers := [], pgFrame := 0, pcSync := 0 }

end Sys2Proof.Machine
end

