-- ==== Sys2Proof/Machine/Lanes.lean ====
section
/-! DEFINITION. Gallery lanes: link states and training (R71 to R79), swaps, restores and repairs (R81 to R86), occulting
(R87 to R89), loss of signal and of lock (R90, R91), lane BIST (R95, R96). -/

namespace Sys2Proof.Machine

/-! ### Helpers -/

/-- The number of lanes of a set. -/
def lanesIn (w : BitVec 78) : List Nat := (List.range 78).filter (fun j => w.getLsbD j)

/-- A lane event's record and fault event (R91, R343, R356). -/
def linkFault (p : Nat) (c : Cls) (s : State) : State :=
  raise (if c = .c1 then 1 else 2) p c (payloadSoon s (.galLink p)) (galLinkEv p c s)

def Port.modLink (x : Port) (f : Link → Link) : Port := { x with link := f x.link }
def Port.modLane (x : Port) (f : Lanes → Lanes) : Port := { x with lane := f x.lane }

/-- What spare `k` of a direction carries, and whether it is marked bad. -/
def LaneMap.carry (m : LaneMap) (k : Spare) : Option Nat := if k = 0 then m.s0 else m.s1
def LaneMap.bad (m : LaneMap) (k : Spare) : Bool := if k = 0 then m.s0Bad else m.s1Bad
def LaneMap.set (m : LaneMap) (k : Spare) (l : Option Nat) : LaneMap :=
  if k = 0 then { m with s0 := l } else { m with s1 := l }
def LaneMap.mark (m : LaneMap) (k : Spare) : LaneMap :=
  if k = 0 then { m with s0Bad := true } else { m with s1Bad := true }

/-- The lanes of direction `d` of a port: map, lanes out of service, swap in progress. -/
def Lanes.map (l : Lanes) : Dir → LaneMap
  | .down => l.mapDn | .up => l.mapUp
def Lanes.out (l : Lanes) : Dir → List Nat
  | .down => l.outDn | .up => l.outUp
def Lanes.swap (l : Lanes) : Dir → Option Swap
  | .down => l.swapDn | .up => l.swapUp
def Lanes.setMap (l : Lanes) (m : LaneMap) : Dir → Lanes
  | .down => { l with mapDn := m } | .up => { l with mapUp := m }
def Lanes.setOut (l : Lanes) (o : List Nat) : Dir → Lanes
  | .down => { l with outDn := o } | .up => { l with outUp := o }
def Lanes.setSwap (l : Lanes) (w : Option Swap) : Dir → Lanes
  | .down => { l with swapDn := w } | .up => { l with swapUp := w }

/-- The good free spares of a direction, S00 first (R78, R84): neither bad nor carrying a lane nor taken by a swap in
progress; of the down direction also showing signal. -/
def freeSpares (x : Port) (d : Dir) : List Spare :=
  ([0, 1] : List Spare).filter (fun k =>
    !((x.lane.map d).bad k) && ((x.lane.map d).carry k).isNone &&
      (match x.lane.swap d with | some w => w.spare != k | none => true) &&
      (d == .up || x.link.sig.getLsbD (76 + k.val)))

/-- Lane `l` (0 to 75) is in service on its own lane in direction `d`. -/
def inService (x : Port) (d : Dir) (l : Nat) : Bool :=
  decide (l < 76) && !((x.lane.out d).contains l)

/-- The lane moves to the spare (R82, R84): a spare that carried it before is left, and marked bad by a repair. -/
def Lanes.moveTo (l : Lanes) (d : Dir) (lane : Nat) (k : Spare) (repair : Bool) : Lanes :=
  let m := l.map d
  let o : Spare := if k = 0 then 1 else 0
  let m := if m.carry o = some lane then (let m := m.set o none; if repair then m.mark o else m) else m
  let out := l.out d
  (l.setMap (m.set k (some lane)) d).setOut (if out.contains lane then out else out ++ [lane]) d

/-- The lane returns to its own wire (R82). -/
def Lanes.moveBack (l : Lanes) (d : Dir) (lane : Nat) (k : Spare) : Lanes :=
  (l.setMap ((l.map d).set k none) d).setOut ((l.out d).filter (· ≠ lane)) d

/-! ### Lane BIST -/

def LaneSlice.dir (sl : LaneSlice) : Dir := if sl.pos < 78 then .down else .up
def LaneSlice.lane (sl : LaneSlice) : Nat := sl.pos % 78

/-- The slice of port `p` ends as completed (R95, R96, R97, R446). -/
def sliceDone (p : Nat) (errors : Nat) (s : State) : State :=
  match (s.port p).lane.slice with
  | none => s
  | some sl =>
    let s := s.modPort p (fun x => x.modLane (fun l => { l with
      slice := none, bistPos := sl.pos, bistPass := errors = 0, bistSkipped := false, bistErrors := min errors 0x7FFFF }))
    { s with wch := { s.wch with laneRun := { s.wch.laneRun with
        tested := s.wch.laneRun.tested + 1, failed := s.wch.laneRun.failed + (if errors = 0 then 0 else 1) } } }

/-- A lane failed its BIST (R96): GAL_LEVT.BIST_FAIL, a C1 record and a GAL_LANE event. -/
def bistFail (p : Nat) (s : State) : State :=
  linkFault p .c1 (s.modPort p (fun x => x.modLink (fun l => { l with levt := l.levt.raise 5 })))

/-- The slice is skipped without having begun (R96). -/
def skipAtStart (p pos : Nat) (s : State) : State :=
  s.modPort p (fun x => (x.modLane (fun l => { l with bistPos := pos, bistSkipped := true, bistPass := false, bistErrors := 0 })).modLink
    (fun l => { l with cntBskip := satInc l.cntBskip }))

/-- A LANE_CTL frame of the stack (R81). -/
def sendLane (p action : Nat) (d : Dir) (lane : Nat) (k : Spare) (s : State) : State :=
  s.modPort p (fun x => x.send s.day.tick (.laneCtl action d lane k))

def setSwap (p : Nat) (d : Dir) (w : Option Swap) (s : State) : State :=
  s.modPort p (fun x => x.modLane (fun l => l.setSwap w d))

/-- A slice of position `pos` begins on port `p` (R95, R96). -/
def beginSlice (p pos : Nat) (s : State) : State :=
  let x := s.port p
  let d : Dir := if pos < 78 then .down else .up
  let lane := pos % 78
  let start := fun (k : Option Spare) (inTest : Bool) (s : State) =>
    s.modPort p (fun x => x.modLane (fun l => { l with
      slice := some { pos := pos, start := s.day.tick, spare := k, inTest := inTest } }))
  if lane ≥ 76 then
    let k : Spare := if lane = 76 then 0 else 1
    let taken := match x.lane.swap d with | some w => w.spare == k | none => false
    if ((x.lane.map d).carry k).isSome || taken then skipAtStart p pos s else start none true s
  else if !inService x d lane then start none true s
  else match freeSpares x d, x.lane.swap d with
    | k :: _, none =>
      let s := start (some k) false s
      if d = .down then
        sendLane p 0x1 d lane k (setSwap p d (some { kind := .swap, lane := lane, spare := k, phase := .requested }) s)
      else
        sendLane p 0x2 d lane k (setSwap p d (some { kind := .swap, lane := lane, spare := k, phase := .mirroring }) s)
    | _, _ => skipAtStart p pos s

def setBistWait (p : Nat) (w : Option Nat) (s : State) : State :=
  s.modPort p (fun x => x.modLane (fun l => { l with bistWait := w }))

/-- The lane BIST slice of a round (R33, R95, R96, R426): it starts in the round's first tick on an ACTIVE port; one that finds domain
49 off waits until it is on (R427). -/
def laneBistSlice (p : Nat) (s : State) : State :=
  let x := s.port p
  let pos := s.day.tick / 64 % 156
  if x.link.lstate != .active || x.lane.slice.isSome then s
  else if s.day.tick % 64 = 0 then
    if !s.day.laneBistEn || s.pwr.srAct then skipAtStart p pos (setBistWait p none s)
    else if !s.domOn 49 then setBistWait p (some pos) s
    else beginSlice p pos (setBistWait p none s)
  else match x.lane.bistWait with
    | some w => if s.domOn 49 then beginSlice p w (setBistWait p none s) else s
    | none => s

/-- The result of a slice in tick T0 + 62 (R95, R96): `errors` is what the stack's checker counted on a down lane; an up
lane's count is the host's BIST_RESULT. A slice whose BIST_RESULT never comes ends as skipped, its lane left on the spare; so does
the slice of an up spare (positions 154 and 155), whose BIST_RESULT would name LANE 76 or 77, which R81 discards. A free spare that
fails its direct test is marked bad.
DESIGN CHOICE, log entry 66. -/
def laneBistRestore (p errors : Nat) (s : State) : State :=
  let x := s.port p
  match x.lane.slice with
  | none => s
  | some sl =>
    if s.day.tick < sl.start + 62 || sl.restoring then s
    else
      let d := sl.dir
      let n : Option Nat := if d = .down then some (max errors (sl.errors.getD 0)) else sl.errors
      match sl.inTest, n with
      | true, some e =>
        if e ≠ 0 then
          let s := if sl.lane ≥ 76 then
              s.modPort p (fun x => x.modLane (fun l => l.setMap ((l.map d).mark (if sl.lane = 76 then 0 else 1)) d))
            else s
          sliceDone p e (bistFail p s)
        else match sl.spare with
          | none => sliceDone p 0 s
          | some k =>
            let s := s.modPort p (fun x => x.modLane (fun l => { l with slice := some { sl with restoring := true } }))
            let w : Swap := { kind := .restore, lane := sl.lane, spare := k, phase := if d = .down then .requested else .mirroring }
            sendLane p (if d = .down then 0x5 else 0x6) d sl.lane k (setSwap p d (some w) s)
      | _, _ => s.modPort p Port.skipSlice

/-- A swap of a slice has put its lane out of service: the test runs (R95). -/
def sliceSwapped (p : Nat) (d : Dir) (lane : Nat) (s : State) : State :=
  s.modPort p (fun x => x.modLane (fun l => { l with slice := l.slice.map (fun sl =>
    if sl.dir = d ∧ sl.lane = lane then { sl with inTest := true } else sl) }))

/-- The slice whose lane is concerned is skipped (R96). -/
def sliceAbandon (p : Nat) (d : Dir) (lane : Nat) (s : State) : State :=
  match (s.port p).lane.slice with
  | some sl => if sl.dir = d ∧ sl.lane = lane then s.modPort p Port.skipSlice else s
  | none => s

/-- A restore has ended well: a slice that waited for it is complete (R95). -/
def sliceRestored (p : Nat) (d : Dir) (lane : Nat) (s : State) : State :=
  match (s.port p).lane.slice with
  | some sl => if sl.dir = d ∧ sl.lane = lane ∧ sl.restoring then sliceDone p 0 s else s
  | none => s

/-! ### Swaps as the receiver of the down direction and the transmitter of the up direction -/

/-- The receiver of the down direction has seen its matching frames (R82): it switches and tells the host. -/
def swapMatch (p : Nat) (s : State) : State :=
  match (s.port p).lane.swapDn with
  | some w =>
    if w.phase ≠ .mirroring then s
    else match w.kind with
      | .swap =>
        let s := s.modPort p (fun x => x.modLane (fun l => (l.moveTo .down w.lane w.spare false).setSwap none .down))
        sliceSwapped p .down w.lane (sendLane p 0x3 .down w.lane w.spare s)
      | .restore =>
        let s := s.modPort p (fun x => x.modLane (fun l => (l.moveBack .down w.lane w.spare).setSwap none .down))
        sliceRestored p .down w.lane (sendLane p 0x7 .down w.lane w.spare s)
      | .repair => s
  | none => s

/-- The swap or restore in progress on a direction ends and leaves the lane map as it was (R83). -/
def swapAbandon (p : Nat) (d : Dir) (s : State) : State :=
  match (s.port p).lane.swap d with
  | some w => if w.kind = .repair then s else sliceAbandon p d w.lane (setSwap p d none s)
  | none => s

/-- No match within 1,024 frames (R83). -/
def swapNoMatch (p : Nat) (s : State) : State :=
  match (s.port p).lane.swapDn with
  | some w =>
    if w.kind = .repair ∨ w.phase ≠ .mirroring then s
    else swapAbandon p .down (sendLane p 0x4 .down w.lane w.spare s)
  | none => s

/-- The host does not answer a request for a down lane (R83, R96). -/
def swapUnanswered (p : Nat) (s : State) : State :=
  match (s.port p).lane.swapDn with
  | some w => if w.kind = .repair ∨ w.phase ≠ .requested then s else swapAbandon p .down s
  | none => s

/-- SWAP_REQ or RESTORE_REQ received (R82, R83): for an up lane the stack, as transmitter, mirrors, or answers SWAP_FAIL.
DEDUCED, log entry 61. -/
def rxSwapReq (p : Nat) (restore : Bool) (d : Dir) (lane : Nat) (k : Spare) (s : State) : State :=
  let x := s.port p
  if d = .down then s
  else
    let can := if restore then (x.lane.mapUp.carry k == some lane) && x.lane.swapUp.isNone
      else inService x .up lane && (freeSpares x .up).contains k && x.lane.swapUp.isNone
    if can then
      sendLane p (if restore then 0x6 else 0x2) .up lane k (setSwap p .up
        (some { kind := if restore then .restore else .swap, lane := lane, spare := k, phase := .mirroring }) s)
    else sendLane p 0x4 .up lane k s

/-- MIRROR or RESTORE received (R82): for a down lane the stack begins to compare. -/
def rxMirror (p : Nat) (restore : Bool) (d : Dir) (lane : Nat) (k : Spare) (s : State) : State :=
  let x := s.port p
  let kind : SwapKind := if restore then .restore else .swap
  let w : Swap := { kind := kind, lane := lane, spare := k, phase := .mirroring }
  if d = .up then s
  else match x.lane.swapDn with
    | some v =>
      if v.kind = kind ∧ v.lane = lane ∧ v.spare = k then setSwap p .down (some w) s
      else sendLane p 0x4 .down lane k s
    | none =>
      let can := if restore then x.lane.mapDn.carry k == some lane
        else inService x .down lane && (freeSpares x .down).contains k
      if can then setSwap p .down (some w) s else sendLane p 0x4 .down lane k s

/-- SWITCHED or RESTORED received (R82): for an up lane the stack, as transmitter, stops mirroring. -/
def rxSwitched (p : Nat) (restore : Bool) (d : Dir) (lane : Nat) (k : Spare) (s : State) : State :=
  match d, (s.port p).lane.swapUp with
  | .up, some w =>
    if w.lane = lane ∧ w.spare = k ∧ w.phase = .mirroring ∧ w.kind = (if restore then .restore else .swap) then
      if restore then
        sliceRestored p .up lane (s.modPort p (fun x => x.modLane (fun l => (l.moveBack .up lane k).setSwap none .up)))
      else
        sliceSwapped p .up lane (s.modPort p (fun x => x.modLane (fun l => (l.moveTo .up lane k false).setSwap none .up)))
    else s
  | _, _ => s

/-- SWAP_FAIL received (R83): the swap or restore it names ends. -/
def rxSwapFail (p : Nat) (d : Dir) (lane : Nat) (k : Spare) (s : State) : State :=
  match (s.port p).lane.swap d with
  | some w => if w.lane = lane ∧ w.spare = k then swapAbandon p d s else s
  | none => s

/-- The up direction leaves occulting: the wake burst is sent (R88). -/
def Port.wakeUp (x : Port) : Port :=
  if x.link.upOcc then { x with link := { x.link with upOcc := false }, tx := x.tx ++ [.wake] } else x

/-- REPAIR received for an up lane (R84, R86): the stack sends the marker block on all lanes, drives the lane on the spare from the
next frame on, and replays from the oldest frame. -/
def rxRepair (p : Nat) (d : Dir) (lane : Nat) (k : Spare) (s : State) : State :=
  let s := if d = .up then swapAbandon p .up s else s
  let x := s.port p
  if d = .down || !((freeSpares x .up).contains k) then s
  else
    let mark := fun (x : Port) => { x.wakeUp with tx := x.wakeUp.tx ++ [UpSent.repair] }
    let s := s.modPort p (fun x => ((mark x).modLane (fun l => l.moveTo .up lane k true)).modLink
      (fun l => { l with cntRepair := satInc l.cntRepair, levt := l.levt.raise 1 }))
    if (s.port p).rty.replay.isEmpty then s else replayEpisode p 0 s

/-- BIST_RESULT received (R95): the host's count for the up lane under test. -/
def rxBistResult (p : Nat) (d : Dir) (lane errors : Nat) (s : State) : State :=
  s.modPort p (fun x => x.modLane (fun l => { l with slice := l.slice.map (fun sl =>
    if sl.dir = .up ∧ d = .up ∧ sl.lane = lane ∧ sl.inTest then { sl with errors := some (errors + sl.errors.getD 0) } else sl) }))

/-- A LANE_CTL frame (R81, R116): a sequenced frame that uses no tag; a LANE above 75 is discarded. -/
def rxLane (p : Nat) (h : Hdr) (lane : BitVec 7) (act : State → State) (s : State) : State :=
  settle s (rxSeq p h 0xF0 0 (fun s => if lane.toNat > 75 then s else act s) s)

/-! ### Loss of signal and of lock -/

/-- The repair of a down lane begins (R84). -/
def startRepair (p lane : Nat) (s : State) : State :=
  match freeSpares (s.port p) .down with
  | k :: _ => sendLane p 0x8 .down lane k (setSwap p .down (some { kind := .repair, lane := lane, spare := k, phase := .marker }) s)
  | [] => s

/-- A retrain with a cause (R84, R91). -/
def retrainFor (p cause : Nat) (s : State) : State :=
  linkFault p .c2 (recoverRelease p (s.modPort p (fun x =>
    (x.retrain s.day.tick s.stackId).modLink (fun l => { l with failCause := cause }))))

/-- The planned swap that the lost lanes meet (R85): the lane being moved switches at once; any other loss abandons it. -/
def swapMeets (p : Nat) (lost : BitVec 78) (s : State) : State :=
  match (s.port p).lane.swapDn with
  | some w =>
    if w.kind = .repair then s
    else
      let leaving := if w.kind = .swap then w.lane else 76 + w.spare.val
      let target := if w.kind = .swap then 76 + w.spare.val else w.lane
      if lost = 1#78 <<< leaving ∧ !lost.getLsbD target then
        swapMatch p (setSwap p .down (some { w with phase := .mirroring }) s)
      else swapAbandon p .down (sendLane p 0x4 .down w.lane w.spare s)
  | none => s

/-- Down lanes of an ACTIVE link lose signal, not all of them (R85, R91). -/
def losLanes (p : Nat) (lost : BitVec 78) (s : State) : State :=
  let x0 := s.port p
  let sl0 := x0.lane.slice
  let test := fun (l : Nat) => x0.lane.outDn.contains l ||
    (match sl0 with | some sl => sl.dir == .down && sl.lane == l && sl.inTest | none => false)
  -- lanes out of service or under BIST
  let hit := (lanesIn lost).any test
  let s := if hit then s.modPort p (fun x => (x.modLink (fun l => { l with levt := l.levt.raise 5 })).modLane (fun l =>
      { l with slice := l.slice.map (fun sl => if sl.dir = .down ∧ lost.getLsbD sl.lane then { sl with errors := some 1 } else sl) }))
    else s
  -- lanes of the planned swap that the rule for it settles
  let moved : Bool := match x0.lane.swapDn with
    | some w => w.kind != .repair && lost == 1#78 <<< (if w.kind = .swap then w.lane else 76 + w.spare.val)
    | none => false
  let s := swapMeets p lost s
  let x := s.port p
  let spareLane := fun (k : Spare) => if lost.getLsbD (76 + k.val) && !test (76 + k.val) then x.lane.mapDn.carry k else none
  let needs := if moved then [] else
    ((lanesIn lost).filter (fun l => l < 76 && !test l)) ++ ([0, 1].filterMap spareLane)
  -- spares that lost signal are bad
  let s := ([0, 1] : List Spare).foldl (fun s k =>
    if lost.getLsbD (76 + k.val) then s.modPort p (fun x => x.modLane (fun l => { l with mapDn := l.mapDn.mark k })) else s) s
  let waiting := (s.port p).lane.waitRepair ++ needs
  if needs.isEmpty then linkFault p .c1 s
  else if waiting.length > (freeSpares (s.port p) .down).length then retrainFor p 5 s
  else
    let s := if repairing (s.port p) then s.modPort p (fun x => x.modLane (fun l => { l with waitRepair := waiting }))
      else match waiting with
        | l :: ls => startRepair p l (s.modPort p (fun x => x.modLane (fun y => { y with waitRepair := ls })))
        | [] => s
    linkFault p .c1 s

/-- The link goes DOWN for want of any down signal (R91). -/
def losAll (p : Nat) (s : State) : State :=
  linkFault p .c2 (recoverRelease p (s.modPort p (fun x =>
    (if x.link.lstate = .active then x.leaveActive s.day.tick s.stackId .down else x).modLink (fun l => { l with
      lstate := .down, stage := .detect, stageTicks := 0, attempt := 0, failCause := 1, goActive := false }))))

/-- Down lanes `lanes` lose signal (R90, R91): without effect while the direction occults. -/
def lossOfSignal (p : Nat) (lanes : BitVec 78) (s : State) : State :=
  let x := s.port p
  let lost := lanes &&& x.link.sig
  if x.link.dnOcc || lost = 0 then s
  else
    let sig := x.link.sig &&& ~~~lost
    let s1 := s.modPort p (fun x => x.modLink (fun l => { l with sig := sig }))
    let counted := s1.modPort p (fun x => x.modLink (fun l => { l with cntLos := satInc l.cntLos, levt := l.levt.raise 0 }))
    match x.link.lstate with
    | .active => if sig = 0 then losAll p counted else losLanes p lost counted
    | .train => if sig = 0 then losAll p counted else s1
    | _ => s1

/-- The link of a DOWN port with signal on at least 76 down lanes begins to train (R71). -/
def Port.tryTrain (x : Port) : Port :=
  if x.link.lstate = .down ∧ (lanesIn x.link.sig).length ≥ 76 then
    x.modLink (fun l => { l with lstate := .train, stage := .detect, stageTicks := 0, attempt := 0 })
  else x

/-- Down lanes show signal again (R71, R90). -/
def signalReturn (p : Nat) (lanes : BitVec 78) (s : State) : State :=
  s.modPort p (fun x => (x.modLink (fun l => { l with sig := l.sig ||| lanes })).tryTrain)

/-- The port is powered with a lane clock: OFF becomes DOWN (R71). -/
def portOn (p : Nat) (s : State) : State :=
  if s.domOn (portDom p) && s.quadLock (quadOf p) && (s.port p).link.lstate == .off then
    s.modPort p (fun x => (x.modLink (fun l => { l with lstate := .down, noClk := !s.clk.framePll })).tryTrain)
  else s

/-- A PLL has shown lock for 16 ticks since tick `from_`, with its reference present (R70). -/
def lockDue (from_ : Nat) (s : State) : Bool := s.clk.refclk && decide (from_ + 16 ≤ s.day.tick)

/-- A PLL is declared locked (R70, R71). A quadrant PLL has its power from the domain of port 8q (R25). With the frame clock the ports
frame again (R91). -/
def pllLock (w : Pll) (s : State) : State :=
  match w with
  | .frame =>
    if !s.clk.framePll && lockDue s.clk.frameFrom s then
      { s with clk := { s.clk with framePll := true } }.allPorts (fun _ x => (x.modLink (fun l => { l with noClk := false })).pump s.day.tick)
    else s
  | .quad q =>
    if s.domOn (portDom (8 * q.val)) && lockDue (tget 0 s.clk.quadFrom q.val) s then
      let s := { s with clk := { s.clk with quadPll := s.clk.quadPll ||| (1#4 <<< q.val) } }
      (List.range 8).foldl (fun s j => portOn (8 * q.val + j) s) s
    else s

/-- Port `p` goes OFF (R71, R91): it leaves ACTIVE first where it was. -/
def Port.goOff (tick : Nat) (me : StackId) (x : Port) : Port :=
  (if x.link.lstate = .active then x.leaveActive tick me .off else x).modLink (fun l => { l with
    lstate := .off, stage := .detect, stageTicks := 0, attempt := 0, goActive := false, dnOcc := false, upOcc := false })

/-- Quadrant PLL `q` loses lock (R91): its ports go OFF with cause 8, one C2 record each, one GAL_LOL event. -/
def lossOfLock (q : Nat) (s : State) : State :=
  if !s.quadLock q then s
  else
    let s := { s with clk := { s.clk with quadPll := s.clk.quadPll &&& ~~~(1#4 <<< q), quadFrom := tset s.clk.quadFrom q s.day.tick } }
    let ps := ((List.range 8).map (8 * q + ·)).filter (fun p => s.domOn (portDom p))
    let s := ps.foldl (fun s p =>
      let s := recoverRelease p (s.modPort p (fun x => (x.fence s.day.tick s.stackId .link).goOff s.day.tick s.stackId))
      let s := s.modPort p (fun x => x.modLink (fun l => { l with failCause := 8, levt := l.levt.raise 4 }))
      galLinkEv p .c2 s) s
    raise 3 q .c2 (payloadSoon s (.galLink (ps.headD (8 * q)))) s

/-- The frame-clock PLL loses lock (R29, R91): a C3 event; no port can frame, and Daymark changes source at the boundary. -/
def frameLossOfLock (s : State) : State :=
  if s.clk.framePll then
    raise 38 0 .c3 0 ({ s with clk := { s.clk with framePll := false, frameFrom := s.day.tick } }.allPorts
      (fun _ x => x.modLink (fun l => { l with noClk := true })))
  else s

/-! ### Repair marker -/

/-- A REPAIR block is seen (R84): with valid words on 70 lanes it is the marker. -/
def repairMarker (p valid : Nat) (s : State) : State :=
  match (s.port p).lane.swapDn with
  | some w =>
    if w.kind = .repair ∧ valid ≥ 70 then
      let s := s.modPort p (fun x => (x.modLane (fun l => (l.moveTo .down w.lane w.spare true).setSwap none .down)).modLink
        (fun l => { l with cntRepair := satInc l.cntRepair, levt := l.levt.raise 1 }))
      match (s.port p).lane.waitRepair with
      | l :: ls => startRepair p l (s.modPort p (fun x => x.modLane (fun y => { y with waitRepair := ls })))
      | [] => s
    else s
  | none => s

/-- No marker within one tick (R84): the link retrains with cause 9. -/
def repairTimeout (p : Nat) (s : State) : State :=
  if repairing (s.port p) then retrainFor p 9 s else s

/-! ### Training -/

/-- The length of a stage in ticks (R73). -/
def Stage.ticks : Stage → Nat
  | .detect => 1 | .phase => 5 | .adapt => 32 | .ident => 4 | .deskew => 4 | .laneTest => 48 | .param => 2

def Stage.next : Stage → Stage
  | .detect => .phase | .phase => .adapt | .adapt => .ident | .ident => .deskew | .deskew => .laneTest
  | .laneTest => .param | .param => .param

/-- An attempt fails with a cause (R74): back to DETECT, or FAILED after the third. -/
def Port.failAttempt (cause : Nat) (x : Port) : Port :=
  if x.link.attempt ≥ 2 then
    x.modLink (fun l => { l with lstate := .failed, attempt := 3, failCause := cause, stage := .detect, stageTicks := 0
                                 levt := l.levt.raise 3 })
  else x.modLink (fun l => { l with stage := .detect, stageTicks := 0, attempt := l.attempt + 1 })

/-- The cause of a failed attempt whose stage's criterion is not met (R97). The spec's list has none for ADAPT.
DESIGN CHOICE, log entry 65. -/
def Stage.cause : Stage → Nat
  | .detect => 1 | .phase | .adapt => 2 | .ident => 3 | .deskew => 4 | .laneTest => 5 | .param => 6

/-- The link becomes ACTIVE (R79, R80, R111): the scramblers start from their seeds, and the first up frame is a CREDITS frame with
the credits in effect. FAIL_CAUSE returns to 0 here.
DESIGN CHOICE, log entry 65. -/
def Port.activate (tick : Nat) (x : Port) : Port :=
  { x with
    link := { x.link with lstate := .active, goActive := false, stage := .detect, stageTicks := 0, attempt := 0, failCause := 0
                          activeTick := some tick }
    lane := { x.lane with scrUp := 0, scrDn := 0 }
    fr := { x.fr with credFrame := true, credOld := x.fr.cred } }.send tick (.credits ((List.range 7).map (fun c => tget 0 x.fr.cred c)))

/-- PARAM has passed (R79): the first ACTIVE frame leaves at this boundary, or, without the frame clock, at the first one that has
it (R91). -/
def Port.paramPassed (tick : Nat) (x : Port) : Port :=
  if x.link.noClk then x.modLink (fun l => { l with goActive := true }) else x.activate tick

/-- The stage `st` of port `p` ends (R73, R74): where it is the running stage and its ticks have passed, its criterion, or
the host's lag, decides; `f` is what the stage leaves behind when it passes, `g` what it leaves when its criterion fails. -/
def stageEnd (p : Nat) (st : Stage) (good hostLag : Bool) (f g : Port → Port) (s : State) : State :=
  let l := (s.port p).link
  if l.lstate ≠ .train ∨ l.stage ≠ st ∨ l.stageTicks ≠ st.ticks ∨ l.goActive then s
  else if hostLag then s.modPort p (Port.failAttempt 7)
  else if !good then s.modPort p (fun x => (g x).failAttempt st.cause)
  else s.modPort p (fun x =>
    if st = .param then (f x).paramPassed s.day.tick else (f x).modLink (fun l => { l with stage := st.next, stageTicks := 0 }))

/-- The failing lanes of LANETEST at the stack's receiver: those found failing, those without signal, those forced
(R78, R97). GAL_LANE_FORCE acts with the value that is in effect when LANETEST ends.
DESIGN CHOICE, log entry 65. -/
def lanesFailing (x : Port) (failing : BitVec 78) : BitVec 78 :=
  let f := x.lane.force
  let forced := fun (lo : Nat) => if f.getLsbD (lo + 7) then 1#78 <<< (f.extractLsb' lo 7).toNat else 0
  failing ||| ~~~x.link.sig ||| forced 0 ||| forced 8

/-- The spare map that LANETEST chooses, where the good spares suffice (R78). -/
def chooseMap (rev : BitVec 3) (failing : BitVec 78) : Option LaneMap :=
  let b0 := failing.getLsbD 76
  let b1 := failing.getLsbD 77
  let m : LaneMap := { s0Bad := b0, s1Bad := b1, rev := rev }
  match (lanesIn failing).filter (· < 76), b0, b1 with
  | [], _, _ => some m
  | [l], false, _ => some { m with s0 := some l }
  | [l], true, false => some { m with s1 := some l }
  | [l, k], false, false => some { m with s0 := some l, s1 := some k }
  | _, _, _ => none

/-- The spare map that a parameter block gives for the up direction (R79). -/
def blockMap (b : BitVec 64) : LaneMap :=
  let lane := fun (lo : Nat) => let v := (b.extractLsb' lo 7).toNat; if v = 0x7F then none else some v
  { s0 := lane 16, s0Bad := b.getLsbD 23, s1 := lane 24, s1Bad := b.getLsbD 31 }

/-- Lanes that a map leaves to spares. -/
def LaneMap.moved (m : LaneMap) : List Nat := m.s0.toList ++ m.s1.toList

def trainDetect (p : Nat) (sig : BitVec 78) (lag : Bool) (s : State) : State :=
  stageEnd p .detect (decide ((lanesIn sig).length ≥ 76)) lag (fun x => x.modLink (fun l => { l with sig := sig })) id s

def trainPhase (p : Nat) (locked : BitVec 78) (lag : Bool) (s : State) : State :=
  stageEnd p .phase (decide ((lanesIn locked).length ≥ 76)) lag id id s

def trainAdapt (p : Nat) (settled lag : Bool) (s : State) : State := stageEnd p .adapt settled lag id id s

/-- The orders in which the three groups of R67 are found (R76). -/
def groupOrders (data ctl spare : List (Option (BitVec 16))) : List GroupOrder :=
  [groupOrder data 0 64, groupOrder ctl 64 12, groupOrder spare 76 2]

/-- The reversal of the groups. -/
def revOf (g : List GroupOrder) : BitVec 3 :=
  g.zipIdx.foldl (fun w y => if y.1 = .reversed then w ||| (1#3 <<< y.2) else w) 0

/-- IDENT: the training words that the physical lanes of each group show, none on a lane without signal (R76). -/
def trainIdent (p : Nat) (data ctl spare : List (Option (BitVec 16))) (lag : Bool) (s : State) : State :=
  let g := groupOrders data ctl spare
  stageEnd p .ident (!g.contains .other) lag
    (fun x => x.modLane (fun l => { l with mapDn := { l.mapDn with rev := revOf g } })) id s

/-- DESKEW: `offs` is the delay in UI of each physical lane that shows signal (R77); the receiver aligns the lanes by it. -/
def trainDeskew (p : Nat) (offs : List (Option Nat)) (lag : Bool) (s : State) : State :=
  stageEnd p .deskew (decide (skewOf offs ≤ 24)) lag (fun x => x.modLane (fun l => { l with skewDn := offs })) id s

/-- The failing spares of a LANETEST are marked bad, also where the attempt fails (R78). -/
def LaneMap.markFailing (failing : BitVec 78) (m : LaneMap) : LaneMap :=
  { m with s0Bad := m.s0Bad || failing.getLsbD 76, s1Bad := m.s1Bad || failing.getLsbD 77 }

def trainLanetest (p : Nat) (failing : BitVec 78) (lag : Bool) (s : State) : State :=
  let x := s.port p
  let bad := lanesFailing x failing
  let m := chooseMap x.lane.mapDn.rev bad
  stageEnd p .laneTest m.isSome lag
    (fun x => x.modLane (fun l => match m with
      | some m => { l with mapDn := m, outDn := m.moved }
      | none => l))
    (fun x => x.modLane (fun l => { l with mapDn := l.mapDn.markFailing bad })) s

/-- PARAM: `copies` lists, copy by copy, the blocks that lanes 4k to 4k+3 have carried one after the other (R79). -/
def trainParam (p : Nat) (copies : List (List (BitVec 64))) (lag : Bool) (s : State) : State :=
  let b := acceptBlock (s.port p).lane.outDn copies
  stageEnd p .param b.isSome lag
    (fun x => x.modLane (fun l => match b with
      | some b => { l with mapUp := blockMap b, outUp := (blockMap b).moved }
      | none => l)) id s

/-! ### Occulting -/

/-- The up direction enters occulting (R87, R88, R426) where nothing is queued, unacknowledged or owed: one block of OCCULT words. -/
def occultEntry (p : Nat) (s : State) : State :=
  let x := s.port p
  let allowed := s.pwr.srAct || (x.link.upOccEn && x.link.upIdle != 0)
  let quiet := x.rty.unsent.isEmpty && x.rty.replay.isEmpty && x.rty.coal.isEmpty && !x.rty.ackOwed && !x.rty.nakWait && !x.rty.nakOwed
    && x.lane.swapUp.isNone && (match x.lane.slice with | some sl => sl.dir == .down | none => true)
  if x.framing && allowed && quiet then
    s.modPort p (fun x => { x.modLink (fun l => { l with upOcc := true }) with tx := x.tx ++ [.occult] })
  else s

/-- The up direction leaves occulting (R88, R89) as soon as something is queued or owed: the wake burst, then what waited. The
scramblers go on where they stopped (R80, R88). -/
def occultExit (p : Nat) (s : State) : State :=
  let x := s.port p
  if x.link.upOcc && (!x.rty.unsent.isEmpty || !x.rty.coal.isEmpty || x.rty.ackOwed || x.rty.nakWait || x.rty.nakOwed) then
    s.modPort p (fun x => x.wakeUp.pump s.day.tick)
  else s

/-- A block of OCCULT words is received (R88). -/
def occultBlock (p : Nat) (s : State) : State :=
  if receiving (s.port p) then s.modPort p (fun x => x.modLink (fun l => { l with dnOcc := true })) else s

/-- The host's wake burst is received (R88). -/
def wakeBurst (p : Nat) (s : State) : State :=
  s.modPort p (fun x => x.modLink (fun l => { l with dnOcc := false }))

/-! ### The commands -/

def execSwapReq (p : PortId) (h : Hdr) (d : Dir) (l : BitVec 7) (k : Spare) (s : State) : Host.Outcome State Fault Refusal :=
  .next (rxLane p.val h l (rxSwapReq p.val false d l.toNat k) s)
def execRestoreReq (p : PortId) (h : Hdr) (d : Dir) (l : BitVec 7) (k : Spare) (s : State) : Host.Outcome State Fault Refusal :=
  .next (rxLane p.val h l (rxSwapReq p.val true d l.toNat k) s)
def execMirror (p : PortId) (h : Hdr) (d : Dir) (l : BitVec 7) (k : Spare) (s : State) : Host.Outcome State Fault Refusal :=
  .next (rxLane p.val h l (rxMirror p.val false d l.toNat k) s)
def execRestore (p : PortId) (h : Hdr) (d : Dir) (l : BitVec 7) (k : Spare) (s : State) : Host.Outcome State Fault Refusal :=
  .next (rxLane p.val h l (rxMirror p.val true d l.toNat k) s)
def execSwitched (p : PortId) (h : Hdr) (d : Dir) (l : BitVec 7) (k : Spare) (s : State) : Host.Outcome State Fault Refusal :=
  .next (rxLane p.val h l (rxSwitched p.val false d l.toNat k) s)
def execRestored (p : PortId) (h : Hdr) (d : Dir) (l : BitVec 7) (k : Spare) (s : State) : Host.Outcome State Fault Refusal :=
  .next (rxLane p.val h l (rxSwitched p.val true d l.toNat k) s)
def execSwapFail (p : PortId) (h : Hdr) (d : Dir) (l : BitVec 7) (k : Spare) (s : State) : Host.Outcome State Fault Refusal :=
  .next (rxLane p.val h l (rxSwapFail p.val d l.toNat k) s)
def execRepair (p : PortId) (h : Hdr) (d : Dir) (l : BitVec 7) (k : Spare) (s : State) : Host.Outcome State Fault Refusal :=
  .next (rxLane p.val h l (rxRepair p.val d l.toNat k) s)
def execBistResult (p : PortId) (h : Hdr) (d : Dir) (l : BitVec 7) (n : BitVec 19) (s : State) : Host.Outcome State Fault Refusal :=
  .next (rxLane p.val h l (rxBistResult p.val d l.toNat n.toNat) s)
/-- A LANE_CTL that R81 discards: the frame itself is received. -/
def execLaneCtlDiscard (p : PortId) (h : Hdr) (_action : BitVec 4) (_lane : BitVec 7) (s : State) :
    Host.Outcome State Fault Refusal := .next (settle s (rxSeq p.val h 0xF0 0 id s))
def execOccultBlock (p : PortId) (s : State) : Host.Outcome State Fault Refusal := .next (occultBlock p.val s)
def execWakeBurst (p : PortId) (s : State) : Host.Outcome State Fault Refusal := .next (wakeBurst p.val s)
def execOccultEntry (p : PortId) (s : State) : Host.Outcome State Fault Refusal := .next (occultEntry p.val s)
def execOccultExit (p : PortId) (s : State) : Host.Outcome State Fault Refusal := .next (occultExit p.val s)
def execSignalReturn (p : PortId) (w : BitVec 78) (s : State) : Host.Outcome State Fault Refusal :=
  .next (settle s (signalReturn p.val w s))
def execLossOfSignal (p : PortId) (w : BitVec 78) (s : State) : Host.Outcome State Fault Refusal :=
  .next (settle s (lossOfSignal p.val w s))
def execPllLock (w : Pll) (s : State) : Host.Outcome State Fault Refusal := .next (settle s (pllLock w s))
def execLossOfLock (q : Fin 4) (s : State) : Host.Outcome State Fault Refusal := .next (settle s (lossOfLock q.val s))
def execFrameClockLossOfLock (s : State) : Host.Outcome State Fault Refusal := .next (settle s (frameLossOfLock s))
def execDetect (p : PortId) (w : BitVec 78) (lag : Bool) (s : State) : Host.Outcome State Fault Refusal :=
  .next (trainDetect p.val w lag s)
def execPhase (p : PortId) (w : BitVec 78) (lag : Bool) (s : State) : Host.Outcome State Fault Refusal :=
  .next (trainPhase p.val w lag s)
def execAdapt (p : PortId) (ok lag : Bool) (s : State) : Host.Outcome State Fault Refusal :=
  .next (trainAdapt p.val ok lag s)
def execIdent (p : PortId) (data ctl spare : List (Option (BitVec 16))) (lag : Bool) (s : State) : Host.Outcome State Fault Refusal :=
  .next (trainIdent p.val data ctl spare lag s)
def execDeskew (p : PortId) (n : List (Option Nat)) (lag : Bool) (s : State) : Host.Outcome State Fault Refusal :=
  .next (trainDeskew p.val n lag s)
def execLanetest (p : PortId) (w : BitVec 78) (lag : Bool) (s : State) : Host.Outcome State Fault Refusal :=
  .next (trainLanetest p.val w lag s)
def execParam (p : PortId) (b : List (List (BitVec 64))) (lag : Bool) (s : State) : Host.Outcome State Fault Refusal :=
  .next (settle s (trainParam p.val b lag s))
def execSwapMatch (p : PortId) (s : State) : Host.Outcome State Fault Refusal := .next (swapMatch p.val s)
def execSwapNoMatchTimeout (p : PortId) (s : State) : Host.Outcome State Fault Refusal := .next (swapNoMatch p.val s)
def execSwapReqUnanswered (p : PortId) (s : State) : Host.Outcome State Fault Refusal := .next (swapUnanswered p.val s)
def execRepairMarker (p : PortId) (n : Fin 79) (s : State) : Host.Outcome State Fault Refusal :=
  .next (repairMarker p.val n.val s)
def execRepairTimeout (p : PortId) (s : State) : Host.Outcome State Fault Refusal :=
  .next (settle s (repairTimeout p.val s))
def execLaneBistSlice (p : PortId) (s : State) : Host.Outcome State Fault Refusal := .next (laneBistSlice p.val s)
def execLaneBistRestore (p : PortId) (n : BitVec 19) (s : State) : Host.Outcome State Fault Refusal :=
  .next (settle s (laneBistRestore p.val n.toNat s))

end Sys2Proof.Machine
end

