-- ==== Sys2Proof/Machine/Context.lean ====
section
/-! DEFINITION. Accesses that one command makes by itself (context, descriptor and page-table reads, BAR2), descriptors
(R206 to R210, R224) and stream contexts (R244 to R246, R254, R274). -/

namespace Sys2Proof.Machine

/-! ### Accesses of the stack's own units -/

/-- Who commits an access of the stack's own (R188): for a walk or a descriptor read a Tender cluster, as source 32 + t with the class of its
stream; else a unit with class 7, which no budget holds (R189). -/
structure Own where
  src : Option Nat := none
  cls : Nat := 7
  deriving DecidableEq, Repr

/-- The access of Tender cluster `t` for a stream of class `c`. -/
def Own.tender (t c : Nat) : Own := { src := some (32 + t), cls := c }

/-- Granule `g` lies in a unit that is retired, or to be retired (R56, R178): nothing goes there. -/
def ownDead (s : State) (g : Nat) : Bool :=
  retiredAt s (64 * g) || doomed (s.chan (chanOf (64 * g))).i (dieOf (bankOf (64 * g)))

/-- The access to granule `g` can be committed and issue now (R155, R178, R191, R193). -/
def ownMay (s : State) (o : Own) (g : Nat) : Bool :=
  let ch := chanOf (64 * g)
  s.cluReady (cluOf ch) && !(s.clu (cluOf ch)).inStep && !doomed (s.chan ch).i (dieOf (bankOf (64 * g))) &&
    !holdsClass s.sec (s.chan ch).q o.cls && o.src.all (fun x => budgetsAdmit s.sec x o.cls)

/-- An access to granule `g` holds its counts and its place while `f` performs it, behind what the queue held for the granule before (R18, R190,
R193): it is committed, performed and complete within one command.
DESIGN CHOICE, log entry 54. -/
def ownAccess {α : Type} (o : Own) (g : Nat) (f : State → State × α) (s : State) : State × α :=
  let ch := chanOf (64 * g)
  let s := match o.src with
    | some x => takeCounts x o.cls s
    | none => ownCommit (s.modSec (fun x => { x with out := tset x.out 7 (tget 0 x.out 7 + 1) }))
  let r := f (drainOn ch g (takePlace ch o.cls { s with clk := { s.clk with xbarGated := false } }))
  let s := releasePlace ch o.cls r.1
  (match o.src with
    | some x => releaseCounts x o.cls s
    | none => s.modSec (fun x => { x with out := tset x.out 7 (tget 0 x.out 7 - 1) }), r.2)

/-- Granule `g` read now, against the merge buffer and the cells (R137, R167, R170); `rdc` where it takes an RDC of its own. -/
def takeGran (rdc : Bool) (g : Nat) (s : State) : State × GranRes :=
  let ch := chanOf (64 * g)
  let s : State := match (s.chan ch).i.mergeOf g with
    | some m => if m.fill = Fill.waiting then fillReturn ch g [] s else s
    | none => s
  match (s.chan ch).i.mergeOf g with
  | some m =>
    match m.fill with
    | .base d _ => (s, .data (layUnits m.cover m.data d))
    | _ => (s, .poison)
  | none =>
    let r := decodeGran g [] false (if rdc then ownColumn g true s else s)
    (r.1, r.2.1)

/-- A read of granule `g` by a unit of the stack. -/
def peekGran (o : Own) (g : Nat) (s : State) : State × GranRes :=
  if ownDead s g then (s, .unc) else ownAccess o g (takeGran true g) s

/-- Granule `g + 1` stands in the column of granule `g`, so one column command serves both (R135, R181). -/
def sameColumn (s : State) (g : Nat) : Bool := cellsOf s g = cellsOf s (g + 1)

/-- The chunk of granule `g`, read by a unit of class 7 as one access: both granules. -/
def peekChunk (g : Nat) (s : State) : State × GranRes × GranRes :=
  if ownDead s g then (s, .unc, .unc)
  else ownAccess {} g (fun s =>
    let a := takeGran true g (drainOn (chanOf (64 * g)) (g + 1) s)
    let b := takeGran (!sameColumn a.1 g) (g + 1) a.1
    (b.1, a.2, b.2)) s

/-- A write of the whole of granule `g` (R163, R170, R173); `wrc` where it takes a WRC of its own. -/
def layGran (wrc : Bool) (g : Nat) (v : Option (List (BitVec 8))) (s : State) : State :=
  let s := s.modInteg (chanOf (64 * g)) (fun i => i.dropMerge g)
  if wrc then ownWrite g v s
  else putGran g v (s.modInteg (chanOf (64 * g)) (fun i => { i with rewrites := i.rewrites.filter (fun r => r.1 ≠ g) }))

/-- A write of the whole of granule `g` by a unit of the stack: nothing where its slice is retired (R58, R178). -/
def pokeGran (o : Own) (g : Nat) (v : Option (List (BitVec 8))) (s : State) : State :=
  if ownDead s g then s else (ownAccess o g (fun s => (layGran true g v s, ())) s).1

/-- The chunk of granule `g`, written by a unit of class 7 as one access. -/
def pokeChunk (g : Nat) (lo hi : List (BitVec 8)) (s : State) : State :=
  if ownDead s g then s
  else (ownAccess {} g (fun s =>
    let s := layGran true g (some lo) (drainOn (chanOf (64 * g)) (g + 1) s)
    (layGran (!sameColumn s g) (g + 1) (some hi) s, ())) s).1

/-- The bytes of granule `g` as stored, without the consequences of a read. -/
def storedGran (s : State) (g : Nat) : List (BitVec 8) :=
  let w := readGran s g []
  match decode (erasedOf (s.chan (chanOf (64 * g))).i) w.1 w.2 with
  | .corrected d _ _ => d
  | _ => w.1

/-! ### Descriptors -/

/-- A descriptor (R206, R207). -/
structure Desc where
  ctrl : Word32
  count : Nat
  src : Nat
  dst : Nat
  idx : Nat
  limit : Nat
  opa : Nat
  opb : Nat
  res : Nat
  deriving DecidableEq, Repr

def Desc.of (b : List (BitVec 8)) : Desc :=
  let w := fun (o n : Nat) => leNat (slice b o n)
  { ctrl := BitVec.ofNat 32 (w 0 4), count := w 4 4, src := w 8 8, dst := w 0x10 8, idx := w 0x18 8, limit := w 0x20 8,
    opa := w 0x28 8, opb := w 0x30 8, res := w 0x38 8 }

def Desc.op (d : Desc) : Nat := bitsOf d.ctrl 0 4
def Desc.func (d : Desc) : Nat := bitsOf d.ctrl 10 2
def Desc.pred (d : Desc) : Nat := bitsOf d.ctrl 12 3
def Desc.oor (d : Desc) : Bool := d.ctrl.getLsbD 15
def Desc.carry (d : Desc) : Bool := d.ctrl.getLsbD 16
def Desc.selIdx (d : Desc) : Bool := d.ctrl.getLsbD 17
def Desc.clamp (d : Desc) : Bool := d.ctrl.getLsbD 18
/-- ETYPE (R207). -/
def tyOf (n : Nat) : Ty :=
  match n with | 0 => .fp64 | 1 => .fp32 | 2 => .int64 | 3 => .uint64 | _ => .int32
def Desc.ty (d : Desc) : Ty := tyOf (bitsOf d.ctrl 4 3)
/-- Bytes of an index (R207, R208). -/
def Desc.isz (d : Desc) : Nat := if bitsOf d.ctrl 8 2 < 2 then 4 else 8
/-- The accumulation of SCATTER_ACC and the function of REDUCE. -/
def Desc.racc (d : Desc) : RaccOp := match d.func with | 0 => .add | 1 => .min | 2 => .max | _ => .fw
/-- The signed unit exponent of a floating-point REDUCE SUM (R219). -/
def Desc.redE (d : Desc) : Int := (BitVec.ofNat 16 d.opb).toInt
def Desc.fpSum (d : Desc) : Bool := d.op = 6 && d.func = 0 && d.ty.isFp
/-- Bytes of REDUCE's result (R219, R224). -/
def Desc.redSize (d : Desc) : Nat := if d.func = 0 && d.ty = .int32 then 8 else d.ty.size
/-- Bytes of an element of DST. -/
def Desc.dsz (d : Desc) : Nat :=
  if d.op = 5 && d.func = 3 then 16 else if d.op = 6 then d.redSize
  else if d.op = 8 || d.op = 9 || (d.op = 7 && d.selIdx) then 8 else d.ty.size
/-- Bytes of an element of SRC. -/
def Desc.ssz (d : Desc) : Nat := if d.op = 9 then 16 else d.ty.size
def Desc.usesSrc (d : Desc) : Bool := d.op != 2
def Desc.usesDst (d : Desc) : Bool := !(d.op = 9 && d.func = 0)
def Desc.usesIdx (d : Desc) : Bool := d.op = 3 || d.op = 4 || d.op = 5

/-- The spans of R224, in bytes. -/
def Desc.srcSpan (d : Desc) : Nat := if d.op = 3 then d.limit * d.ssz else d.count * d.ssz
def Desc.dstSpan (d : Desc) : Nat :=
  if d.op = 4 || d.op = 5 || d.op = 8 then d.limit * d.dsz else if d.op = 6 then d.redSize else d.count * d.dsz
def Desc.idxSpan (d : Desc) : Nat := d.count * d.isz

def overlaps (a n b m : Nat) : Bool := a < b + m && b < a + n && n ≠ 0 && m ≠ 0

/-- The checks of R210 in their order: the descriptor offset of the first that fails. -/
def Desc.check (d : Desc) : Option Nat :=
  let fw := (d.op = 5 && d.func = 3) || d.op = 9
  let bad := fun (a n : Nat) => a ≥ 2 ^ 48 || a = 0 || a % n ≠ 0
  let funcOk := if d.op = 5 then true else if d.op = 6 || d.op = 9 then d.func < 3 else d.func = 0
  let predOk := if d.op = 7 then d.pred < 7 else d.pred = 0
  let b := f64.decode d.opb
  let opbOk :=
    if d.fpSum then d.opb < 2 ^ 16 && -1074 ≤ d.redE && d.redE ≤ 1023
    else if d.op = 8 then
      (if d.ty.isFp then (match b with | .fin false m _ => m ≠ 0 | _ => false) else d.opb < 64)
    else true
  let fsrc := if d.usesSrc then some (0x08, d.src, d.ssz, d.srcSpan) else none
  let fdst := if d.usesDst then some (0x10, d.dst, d.dsz, d.dstSpan) else none
  let fidx := if d.usesIdx then some (0x18, d.idx, d.isz, d.idxSpan) else none
  let fields := fsrc.toList ++ fdst.toList ++ fidx.toList
  if d.op = 0 || d.op > 9 || d.ctrl.getLsbD 7 || bitsOf d.ctrl 19 13 ≠ 0 then some 0x00
  else if bitsOf d.ctrl 4 3 > 4 || (fw && d.ty != .fp64) || (d.op = 7 && d.pred = 6 && d.ty.isFp) then some 0x00
  else if !funcOk || !predOk then some 0x00
  else if d.limit ≥ 2 ^ 48 || ((d.usesIdx || d.op = 8) && d.limit = 0) then some 0x20
  else if !opbOk then some 0x30
  else match fields.find? (fun f => bad f.2.1 f.2.2.1) with
    | some f => some f.1
    | none =>
      if d.res ≥ 2 ^ 48 || d.res % 32 ≠ 0 then some 0x38
      else match fields.find? (fun f => f.2.1 + f.2.2.2 > 2 ^ 48) with
        | some f => some f.1
        | none =>
          let clash := (d.usesSrc && overlaps d.dst d.dstSpan d.src d.srcSpan && !(d.op = 1 && d.src = d.dst)) ||
            (d.usesIdx && overlaps d.dst d.dstSpan d.idx d.idxSpan)
          if d.usesDst && clash then some 0x10 else none

/-! ### Contexts -/

/-- The 128 bytes of a context (R244, R245). -/
def Ctx.bytes (c : Ctx) : List (BitVec 8) :=
  let ctl := c.asid + c.cls * 2 ^ 16 + c.notify.toNat * 2 ^ 19 + c.state * 2 ^ 20 + c.tcl * 2 ^ 24 + c.dloaded.toNat * 2 ^ 26
  let stat := c.gen.toNat + c.cause * 2 ^ 16 + c.flags.toNat * 2 ^ 24
  ((c.dcopy ++ List.replicate 64 0).take 64) ++ leBytes 8 c.desc ++ leBytes 4 ctl ++ leBytes 4 stat ++ leBytes 4 c.cursor ++
    leBytes 4 c.skipped ++ leBytes 8 c.ahead.toNat ++ leBytes 8 c.outcnt ++ leBytes 16 c.acc.toNat ++ leBytes 8 c.detail.toNat

/-- The context that 128 bytes hold. -/
def Ctx.of (b : List (BitVec 8)) : Ctx :=
  let w := fun (o n : Nat) => leNat (slice b o n)
  let ctl := w 0x48 4
  let stat := w 0x4C 4
  { dcopy := slice b 0 64, desc := w 0x40 8, asid := ctl % 2 ^ 16, cls := ctl / 2 ^ 16 % 8, notify := ctl / 2 ^ 19 % 2 = 1,
    state := ctl / 2 ^ 20 % 16, tcl := ctl / 2 ^ 24 % 4, dloaded := ctl / 2 ^ 26 % 2 = 1, gen := BitVec.ofNat 16 stat,
    cause := stat / 2 ^ 16 % 256, flags := BitVec.ofNat 6 (stat / 2 ^ 24), cursor := w 0x50 4, skipped := w 0x54 4,
    ahead := BitVec.ofNat 64 (w 0x58 8), outcnt := w 0x60 8, acc := BitVec.ofNat 128 (w 0x68 16),
    detail := BitVec.ofNat 64 (w 0x78 8) }

/-- The address of the context of stream `n` (R52). -/
def ctxAddr (n : Nat) : Nat := 0x17FE000000 + 128 * n
def ctxClu (n : Nat) : Nat := cluOf (chanOf (ctxAddr n))
/-- The chunk of the context is retired (R58, R274). -/
def ctxRetired (s : State) (n : Nat) : Bool := retiredAt s (ctxAddr n)

/-- Stream states (R247). -/
def sFREE := 0
def sIDLE := 1
def sQUEUED := 2
def sRUNNING := 3
def sSTOPPING := 4
def sSTOPPED := 5
def sPREEMPTED := 6
def sDONE := 7
def sUNUSABLE := 8

/-- Causes of a stop (R266, R227). -/
def cXLATE := 0x01
def cPREEMPT := 0x02
def cABORT := 0x03
def cRELAYTMO := 0x04
def cREMOTE := 0x05
def cRETIRED := 0x06
def cLOST := 0x07
def cCTXRETIRED := 0x08
def cCTXPOISON := 0x09
def cDESC := 0x10
def cINDEX := 0x11
def cPOISON := 0x12
def cREGION := 0x13
def cREMOTEFIN := 0x14

def State.modTnd (s : State) (f : Tnd → Tnd) : State := { s with tnd := f s.tnd }
def State.tclu (s : State) (t : Nat) : TndClu := tget {} s.tnd.clus t
def State.modTclu (s : State) (t : Nat) (f : TndClu → TndClu) : State :=
  s.modTnd (fun x => { x with clus := tmod {} x.clus t f })

/-- The resident entry of a stream, with its cluster (R254). -/
def resident (s : State) (n : Nat) : Option (Nat × Res) :=
  (List.range 4).findSome? (fun t => ((s.tclu t).res.find? (fun r => r.stream = n)).map (fun r => (t, r)))

def isResident (s : State) (n : Nat) : Bool := (resident s n).isSome

/-- A resident entry changed. -/
def modRes (t n : Nat) (f : Res → Res) (s : State) : State :=
  s.modTclu t (fun u => { u with res := u.res.map (fun r => if r.stream = n then f r else r) })

/-- The context as the store holds it. -/
def storedCtx (s : State) (n : Nat) : Ctx :=
  Ctx.of (storedGran s (ctxAddr n / 64) ++ storedGran s (ctxAddr n / 64 + 1))

/-- The context in effect (R246, R274). -/
def ctxOf (s : State) (n : Nat) : Ctx :=
  match resident s n with
  | some r => r.2.ctx
  | none =>
    if ctxRetired s n then
      tget { (storedCtx s n) with state := sUNUSABLE, cause := cCTXRETIRED, detail := 0 } s.tnd.lost n
    else storedCtx s n

/-- The context written to the store (R254): an access of class 7. -/
def storeCtx (n : Nat) (c : Ctx) (s : State) : State :=
  if ctxRetired s n then s.modTnd (fun x => { x with lost := tset x.lost n c })
  else
    let b := c.bytes
    pokeChunk (ctxAddr n / 64) (slice b 0 64) (slice b 64 64) s

/-- The context in effect changed: the cached copy where the stream is resident, else the store. -/
def putCtx (n : Nat) (c : Ctx) (s : State) : State :=
  match resident s n with
  | some r => modRes r.1 n (fun e => { e with ctx := c, dirty := true }) s
  | none => storeCtx n c s

/-- Readiness of the translation unit and of Tender cluster `t` (R298). -/
def xlReady (s : State) : Bool := s.ready.getLsbD 12
def tndReady (s : State) (t : Nat) : Bool := s.ready.getLsbD (8 + t)
/-- The context of stream `n` has been written since stack reset (R434). -/
def ctxWritten (s : State) (n : Nat) : Bool := s.tnd.written.getLsbD (ctxClu n)

/-- A stream that waits for an entry is in the waiting list, in the order it began to wait (R254). -/
def addWait (n : Nat) (c : Ctx) (pre : Bool) (s : State) : State :=
  s.modTnd (fun x => { x with wait := x.wait.filter (fun w => w.stream ≠ n) ++
    [{ stream := n, t := c.tcl, cls := c.cls, preempted := pre }] })
def dropWait (n : Nat) (s : State) : State :=
  s.modTnd (fun x => { x with wait := x.wait.filter (fun w => w.stream ≠ n) })

/-- The payload of a STREAM_STOP, STREAM_DONE or STREAM_LOST record (R268). -/
def streamPayload (n cause tcl state : Nat) (detail : BitVec 64) : BitVec 96 :=
  detail ++ BitVec.ofNat 32 (n + cause * 2 ^ 18 + tcl * 2 ^ 26 + state * 2 ^ 28)

/-- The class of a stop record (R266). -/
def causeCls (c : Nat) : Cls := if c = cPREEMPT ∨ c = cABORT then .c0 else .c2

/-- A STREAM_STOP record of a stream whose context is `c` (R268). -/
def stopRecord (n : Nat) (c : Ctx) (s : State) : State :=
  let s := if 0x10 ≤ c.cause ∧ c.cause ≤ 0x14 then s.modTclu c.tcl (fun u => { u with stop := satInc u.stop }) else s
  emit { unit := 0x07, inst := c.tcl, cls := causeCls c.cause
         payload := .value (streamPayload n c.cause c.tcl c.state c.detail) } s

end Sys2Proof.Machine
end

