-- ==== Sys2Proof/Machine/Xlate.lean ====
section
/-! DEFINITION. Translation of Tender addresses (R255 to R259). -/

namespace Sys2Proof.Machine

/-- A table entry (R257). -/
def teV (e : BitVec 64) : Bool := e.getLsbD 0
def teW (e : BitVec 64) : Bool := e.getLsbD 1
def teLeaf (e : BitVec 64) : Bool := e.getLsbD 2
def teRmt (e : BitVec 64) : Bool := e.getLsbD 3
def teAddr (e : BitVec 64) : Nat := (e.extractLsb' 12 25).toNat * 4096
def teStack (e : BitVec 64) : Nat := (e.extractLsb' 48 12).toNat

/-- Bits of the address below the span of an entry of `level` (R256). -/
def levelShift (level : Nat) : Nat := 12 + 9 * (level - 1)
/-- The virtual page number at a level. -/
def vpnAt (level va : Nat) : Nat := va / 2 ^ levelShift level

/-- A translation failure (R258). -/
structure XFail where
  kind : Nat
  level : Nat
  deriving DecidableEq, Repr

/-- The entry breaks a rule of R257 (R258 kind 3). -/
def badEntry (level : Nat) (e : BitVec 64) : Bool :=
  e.extractLsb' 4 8 != 0 || e.extractLsb' 37 11 != 0 || e.extractLsb' 60 4 != 0 || (!teRmt e && teStack e != 0) ||
    (teLeaf e && level = 4) || (!teLeaf e && level = 1) || (teRmt e && !teLeaf e) || (teRmt e && teStack e = 0xFFF) ||
    (teLeaf e && teAddr e % 2 ^ levelShift level ≠ 0)

def tlbFind (s : State) (asid level va : Nat) : Option (BitVec 64) :=
  (s.tnd.tlb.find? (fun e => e.asid = asid ∧ e.level = level ∧ e.vpn = vpnAt level va)).map (·.entry)

/-- An entry joins the cache of 16,384; the oldest goes when it is full.
DESIGN CHOICE, log entry 40. -/
def tlbAdd (asid level va : Nat) (e : BitVec 64) (s : State) : State :=
  s.modTnd (fun x =>
    let l := x.tlb.filter (fun y => !(y.asid = asid ∧ y.level = level ∧ y.vpn = vpnAt level va)) ++
      [{ asid := asid, level := level, vpn := vpnAt level va, entry := e }]
    { x with tlb := l.drop (l.length - 16384) })

/-- Entries removed by XLATE_INVAL (R259): all spaces, one, or one with a range of virtual addresses. -/
def tlbDrop (asid : Option Nat) (lo hi : Nat) (s : State) : State :=
  s.modTnd (fun x => { x with tlb := x.tlb.filter (fun y =>
    !((match asid with | some a => y.asid = a | none => true) &&
      y.vpn * 2 ^ levelShift y.level < hi && (y.vpn + 1) * 2 ^ levelShift y.level > lo)) })

/-- The cached leaf that maps `va`. -/
def leafOf (s : State) (asid va : Nat) : Option (Nat × BitVec 64) :=
  [3, 2, 1].findSome? (fun l => match tlbFind s asid l va with
    | some e => if teLeaf e then some (l, e) else none
    | none => none)

/-- An 8-byte unit read for a walk by an access of the walk's stream (R188, R256): nothing where it cannot be committed now, a failure where it
cannot be read. -/
def walkRead (o : Own) (s : State) (a : Nat) : State × Option (Except Nat (BitVec 64)) :=
  if !s.cluReady (cluOf (chanOf a)) then (s, none)
  else if retiredAt s a then (s, some (.error 7))
  else if !ownMay s o (a / 64) then (s, none)
  else
    let r := peekGran o (a / 64) s
    match r.2 with
    | .data d => (r.1, some (.ok (BitVec.ofNat 64 (leNat (slice d (a % 64) 8)))))
    | _ => (r.1, some (.error 6))

/-- The levels of a walk from `level` down, the table at `base` (R256 to R258). `none` where it cannot go on yet. -/
def walkFrom (o : Own) (asid va : Nat) : Nat → Nat → State → State × Option (Except XFail Unit)
  | 0, _, s => (s, some (.ok ()))
  | level + 1, base, s =>
    let l := level + 1
    let r : State × Option (Except Nat (BitVec 64)) := match tlbFind s asid l va with
      | some e => (s, some (.ok e))
      | none => walkRead o s (base + 8 * (vpnAt l va % 512))
    match r.2 with
    | none => (r.1, none)
    | some (.error k) => (r.1, some (.error { kind := k, level := l }))
    | some (.ok e) =>
      if !teV e then (r.1, some (.error { kind := 1, level := l }))
      else if badEntry l e then (r.1, some (.error { kind := 3, level := l }))
      else if teLeaf e then (tlbAdd asid l va e r.1, some (.ok ()))
      else if teAddr e ≥ hvTop r.1.tenderPart then (r.1, some (.error { kind := 4, level := l }))
      else walkFrom o asid va level (teAddr e) (tlbAdd asid l va e r.1)

/-- The address of an entry of the ASID table (R255). -/
def asidAddr (a : Nat) : Nat := 0x17FA000000 + 8 * a

/-- A walk (R53, R255 to R258): it reads the entry of the address space, whose ROOT must lie below HV_TOP, then the tables.
DESIGN CHOICE, log entry 40. -/
def doWalk (o : Own) (asid va : Nat) (s : State) : State × Option (Except XFail Unit) :=
  let r := walkRead o s (asidAddr asid)
  match r.2 with
  | none => (r.1, none)
  | some (.error k) => (r.1, some (.error { kind := k, level := 0 }))
  | some (.ok e) =>
    if !e.getLsbD 0 then (r.1, some (.error { kind := 5, level := 0 }))
    else if teAddr e ≥ hvTop r.1.tenderPart then (r.1, some (.error { kind := 4, level := 0 }))
    else walkFrom o asid va 4 (teAddr e) r.1

/-- Where an access goes (R257). -/
inductive Where_ where
  | local_ (pa : Nat)
  | remote (stack pa : Nat)
  deriving DecidableEq, Repr

/-- The translation of `va` by the cached leaf: nothing where a walk is needed (R257, R258). `desc` marks a descriptor read. -/
def xlate (s : State) (asid va : Nat) (needW desc : Bool) : Option (Except XFail Where_) :=
  match leafOf s asid va with
  | none => none
  | some (l, e) =>
    let pa := teAddr e + va % 2 ^ levelShift l
    let relays := (List.range 32).any (fun p => (s.port p).rly.en)
    some (
      if needW && !teW e then .error { kind := 2, level := l }
      else if teRmt e && teStack e ≠ s.stackId.toNat then
        if desc then .error { kind := 9, level := l }
        else if s.stackId = 0xFFF || !relays then .error { kind := 8, level := l }
        else .ok (.remote (teStack e) pa)
      else if pa ≥ hvTop s.tenderPart then .error { kind := 4, level := l }
      else .ok (.local_ pa))

/-- DETAIL of a stop with cause XLATE (R266). -/
def xlateDetail (va : Nat) (f : XFail) (needW : Bool) : BitVec 64 :=
  BitVec.ofNat 64 (va % 2 ^ 48 + f.kind * 2 ^ 48 + f.level * 2 ^ 52 + needW.toNat * 2 ^ 55)

end Sys2Proof.Machine
end

