-- ==== Sys2Proof/Machine/Stream.lean ====
section
/-! DEFINITION. Stream states, doorbells, context residency and pre-emption (R247 to R254, R265 to R270, R274, R275,
R434). -/

namespace Sys2Proof.Machine

/-- An element has been sent: its outcome is still awaited (R265 step 3). -/
def El.sent (e : El) : Bool :=
  match e.st with
  | .out | .relayed | .ride _ => true
  | _ => false

/-- The stream stops issuing (R265 step 1): it is STOPPING and what has not been sent is dropped. -/
def Res.stopping (r : Res) : Res :=
  { r with dirty := true, ctx := { r.ctx with state := sSTOPPING }
           run := r.run.map (fun u => { u with els := u.els.filter El.sent }) }

/-- A failure of element `i` (R265, R267): the lowest index is kept, and the stream stops. -/
def Res.failed (i cause : Nat) (detail : BitVec 64) (r : Res) : Res :=
  Res.stopping { r with run := r.run.map (fun u => { u with
      els := u.els.filter (fun e => e.i ≠ i)
      fail := match u.fail with
        | some f => if f.i ≤ i then some f else some { i := i, cause := cause, detail := detail }
        | none => some { i := i, cause := cause, detail := detail } }) }

/-! ### Doorbells -/

/-- The doorbell, or the manager's command, is answered (R109, R203, R249). -/
def finishDb (src : Option (Nat × Nat)) (st d : Nat) (s : State) : State :=
  match src with
  | some (p, t) =>
    recoverRelease p (s.modPort p (fun x =>
      let f := x.fr.modTag t (fun r => { r with outcome := .performed })
      { x with fr := if st = stBAD then reportBad 0x30 (BitVec.ofNat 9 t) d f else f }.answer
        s.day.tick s.stackId t (if st = stOK && (x.fr.tag t).throttled then stHINT else st) d []))
  | none => s

/-- The descriptor reads of stream `n` in progress end without effect; their doorbells have been accepted (R250). -/
def dropReads (n : Nat) (s : State) : State :=
  let l := s.tnd.dbq.filter (fun d => d.stream = n && d.reading)
  l.foldl (fun s d => finishDb d.src stOK 0 s) (s.modTnd (fun x => { x with dbq := x.dbq.filter (fun d => !(l.contains d)) }))

/-- ABORT, accepted in the state the stream is in (R249); a QUEUED stream's descriptor read is discarded. -/
def abortStream (n : Nat) (mgr : Bool) (s : State) : State :=
  let c := ctxOf s n
  let d : Nat := mgr.toNat
  if c.state = sQUEUED ∨ c.state = sPREEMPTED then
    let c := { c with state := sSTOPPED, cause := cABORT, detail := BitVec.ofNat 64 d }
    stopRecord n c (putCtx n c (dropReads n (dropWait n s)))
  else match resident s n with
    | some (t, _) => modRes t n (fun r =>
        Res.stopping { r with run := r.run.map (fun u : Run => if u.abort.isSome then u else { u with abort := some d }) }) s
    | none => s

/-- A command is allowed in a state (R249). -/
def cmdAllowed (cmd : Nat) (c : Ctx) : Bool :=
  if cmd = 1 then c.state = sIDLE || c.state = sDONE || c.state = sSTOPPED
  else if cmd = 2 then c.state = sSTOPPED && c.cause ≠ cDESC
  else if cmd = 3 then c.state = sQUEUED || c.state = sRUNNING || c.state = sSTOPPING || c.state = sPREEMPTED
  else false

/-- START clears the stream's progress (R249). -/
def Ctx.cleared (c : Ctx) : Ctx :=
  { c with cursor := 0, ahead := 0, skipped := 0, outcnt := 0, acc := 0, flags := 0, cause := 0, detail := 0, dloaded := false }

/-- What an accepted command does; `true` when a descriptor read must follow (R248 to R250): the stream is QUEUED from the acceptance on. -/
def applyCmd (cmd n : Nat) (mgr : Bool) (s : State) : State × Bool :=
  let c := ctxOf s n
  if cmd = 1 then (putCtx n { c.cleared with state := sQUEUED } s, true)
  else if cmd = 2 then
    let s := putCtx n { c with state := sQUEUED } s
    if c.dloaded then (addWait n c false s, false) else (s, true)
  else (abortStream n mgr s, false)

/-- Nothing of the run but reports of what has been sent is outstanding once CURSOR is COUNT: the final writes that the
descriptor asks for have been sent or are done (R251, R263). -/
def Run.finalsSent (d : Desc) (u : Run) : Bool :=
  u.els.all El.sent && (d.op ≠ 6 || u.finDst || u.els.any (fun e => e.i = d.count)) &&
    (d.res = 0 || u.finRes || u.els.any (fun e => e.i = d.count + 1))

/-- A doorbell of the stream is being decided or reads its descriptor, or one is to wait for the report of the final
writes (R251). -/
def dbBlocked (s : State) (n : Nat) : Bool :=
  s.tnd.dbq.any (fun d => d.stream = n && d.reading) ||
    (match resident s n with
      | some (_, r) => r.ctx.state = sRUNNING && r.ctx.dloaded && r.ctx.cursor = (Desc.of r.ctx.dcopy).count &&
          (match r.run with | some u => u.fail.isNone && u.finalsSent (Desc.of r.ctx.dcopy) | none => false)
      | none => false)

/-- The first waiting doorbell of stream `n` is decided (R249). -/
def decideDb (n : Nat) (s : State) : State :=
  match s.tnd.dbq.find? (fun d => d.stream = n) with
  | none => s
  | some d =>
    if dbBlocked s n then s
    else
      let c := ctxOf s n
      let rest := s.tnd.dbq.erase d
      let done := s.modTnd (fun x => { x with dbq := rest })
      if c.state = sFREE ∨ c.state = sUNUSABLE then finishDb d.src stBAD 0x41 done
      else if d.gen ≠ c.gen then finishDb d.src stBAD 0x40 done
      else if !cmdAllowed d.cmd c then finishDb d.src stBAD 0x42 done
      else
        let r := applyCmd d.cmd n d.src.isNone done
        if r.2 then r.1.modTnd (fun x => { x with dbq := { d with reading := true } :: rest })
        else finishDb d.src stOK 0 r.1

/-- Every waiting doorbell of a resident stream is decided, in order (R251). -/
def decideAll (n : Nat) : Nat → State → State
  | 0, s => s
  | k + 1, s => if isResident s n && !dbBlocked s n then decideAll n k (decideDb n s) else s

/-- A committed doorbell reaches the translation unit (R251). -/
def arriveDb (d : Db) (s : State) : State :=
  let s := s.modTnd (fun x => { x with dbq := x.dbq ++ [d] })
  decideAll d.stream (s.tnd.dbq.length) s

/-- A stored context cannot be read (R248, R273): one that its readable half shows FREE stays FREE; any other stream is UNUSABLE with cause
CTX_POISON and waits for nothing. -/
def ctxPoisoned (n : Nat) (hi : GranRes) (s : State) : State :=
  let free : Bool := match hi with
    | .data y => decide ((Ctx.of (List.replicate 64 0 ++ y)).state = sFREE)
    | _ => false
  if free then s
  else
    let c := { storedCtx s n with state := sUNUSABLE, cause := cCTXPOISON, detail := 0 }
    stopRecord n c (storeCtx n c (dropReads n (dropWait n s)))

/-- The context of a waiting doorbell has been read from the store, an access of class 7 (R250). -/
def doorbellContextRead (n : Nat) (s : State) : State :=
  if !xlReady s || !s.tnd.dbq.any (fun d => d.stream = n) || isResident s n || dbBlocked s n then s
  else if ctxRetired s n then decideDb n s
  else if !ownMay s {} (ctxAddr n / 64) then s
  else
    let r := peekChunk (ctxAddr n / 64) s
    match r.2.1, r.2.2 with
    | .data _, .data _ => decideDb n r.1
    | _, hi => decideDb n (ctxPoisoned n hi r.1)

/-- A descriptor read fails (R250): the doorbell is accepted, the stream is STOPPED. -/
def descFail (n cause : Nat) (detail : BitVec 64) (s : State) : State :=
  let c := { ctxOf s n with state := sSTOPPED, dloaded := false, cause := cause, detail := detail }
  stopRecord n c (putCtx n c s)

/-- The descriptor read of an accepted START or RESUME ends (R250): a walk where it needs one, and the read, are accesses of the stream's
class. -/
def descriptorRead (n : Nat) (s : State) : State :=
  match s.tnd.dbq.find? (fun d => d.stream = n && d.reading) with
  | none => s
  | some d =>
    let c := ctxOf s n
    let o := Own.tender c.tcl c.cls
    let fin := fun (s : State) =>
      let s := finishDb d.src stOK 0 (s.modTnd (fun x => { x with dbq := x.dbq.erase d }))
      decideAll n s.tnd.dbq.length s
    if c.state ≠ sQUEUED then fin s else
    let w : State × Option (Except XFail Unit) := if (leafOf s c.asid c.desc).isSome then (s, some (.ok ())) else doWalk o c.asid c.desc s
    match w.2 with
    | none => s
    | some (.error f) => fin (descFail n cXLATE (xlateDetail c.desc f false) w.1)
    | some (.ok _) =>
      match xlate w.1 c.asid c.desc false true with
      | some (.ok (.local_ pa)) =>
        if !w.1.cluReady (cluOf (chanOf pa)) then w.1
        else if retiredAt w.1 pa then fin (descFail n cRETIRED (BitVec.ofNat 64 c.desc) w.1)
        else if !ownMay w.1 o (pa / 64) then w.1
        else
          let r := peekGran o (pa / 64) w.1
          match r.2 with
          | .data b =>
            let c := { c with dcopy := b, dloaded := true, state := sQUEUED }
            fin (addWait n c false (putCtx n c r.1))
          | _ => fin (descFail n cPOISON 1 r.1)
      | some (.error f) => fin (descFail n cXLATE (xlateDetail c.desc f false) w.1)
      | _ => w.1

/-! ### Residency -/

/-- A cache entry is pinned while its stream is RUNNING or STOPPING (R254). -/
def Res.pinned (r : Res) : Bool := r.ctx.state = sRUNNING || r.ctx.state = sSTOPPING

/-- `a` is granted an entry before `b`, which stands behind it in the waiting list (R254). -/
def waitBefore (a b : WaitE) : Bool := a.cls > b.cls || (a.cls = b.cls && (a.preempted || !b.preempted))

/-- A waiting stream of cluster `t` that can still become RUNNING: one that is not resident and whose chunk is retired is
UNUSABLE (R274). -/
def canRun (s : State) (t : Nat) (w : WaitE) : Bool := w.t = t && (isResident s w.stream || !ctxRetired s w.stream)

/-- The waiting stream of cluster `t` that the next entry goes to (R254). -/
def nextWait (s : State) (t : Nat) : Option WaitE :=
  (s.tnd.wait.filter (canRun s t)).foldl (fun (b : Option WaitE) w => match b with
    | none => some w
    | some b => if waitBefore b w then some b else some w) none

/-- The stream becomes RUNNING (R210, R248, R264): its descriptor is checked. -/
def startRun (t n : Nat) (s : State) : State :=
  let o := s.tnd.order
  let s := s.modTnd (fun x => { x with order := x.order + 1 })
  modRes t n (fun r =>
    let r := { r with ctx := { r.ctx with state := sRUNNING }, dirty := true
                      run := some { next := r.ctx.cursor, order := o } }
    match (Desc.of r.ctx.dcopy).check with
    | some off => r.failed 0 cDESC (BitVec.ofNat 64 off)
    | none => r) s

/-- The stream becomes RUNNING, and a doorbell that waited for its context is decided against that (R251). -/
def startStream (t n : Nat) (s : State) : State :=
  let s := startRun t n s
  decideAll n s.tnd.dbq.length s

/-- A cache entry is granted and the fill completes: a read and the marking write of class 7 (R248, R254, R264). -/
def streamFill (n : Nat) (s : State) : State :=
  match s.tnd.wait.find? (fun w => w.stream = n) with
  | none => s
  | some w =>
    if !tndReady s w.t then s
    else match resident s n with
      | some (t, _) =>
        -- The entry of a pre-empted stream passes to the stream it made way for (R254, R270).
        if w.preempted && nextWait s w.t ≠ some w && (s.tclu w.t).res.length ≥ 512 then s else startStream t n (dropWait n s)
      | none =>
        if nextWait s w.t ≠ some w || (s.tclu w.t).res.length ≥ 512 || ctxRetired s n || !ownMay s {} (ctxAddr n / 64) then s
        else
          let r := peekChunk (ctxAddr n / 64) s
          match r.2.1, r.2.2 with
          | .data x, .data y =>
            let c := Ctx.of (x ++ y)
            let s := storeCtx n { c with state := sRUNNING } (dropWait n r.1)
            startStream w.t n (s.modTclu w.t (fun u => { u with res := u.res ++ [{ stream := n, ctx := c }] }))
          | _, _ =>
            let c := { storedCtx r.1 n with state := sUNUSABLE, cause := cCTXPOISON, detail := 0, tcl := w.t }
            stopRecord n c (storeCtx n c (dropWait n r.1))

/-- The oldest unpinned entry of cluster `t` is evicted and written back when changed (R254, R274). -/
def contextEvict (t : Nat) (s : State) : State :=
  match (s.tclu t).res.find? (fun r => !r.pinned && (!r.dirty || ctxRetired s r.stream || ownMay s {} (ctxAddr r.stream / 64))) with
  | none => s
  | some r =>
    let s := s.modTclu t (fun u => { u with res := u.res.filter (fun e => e.stream ≠ r.stream) })
    if r.dirty then storeCtx r.stream r.ctx s else s

/-- A RELAY of the stream is outstanding. -/
def Run.relaying (u : Run) : Bool := u.els.any (fun e => e.st == .relayed)

/-- Victim `a` is preferred to `b` (R270). -/
def victimBefore (a b : Res) : Bool :=
  let ra := (a.run.map Run.relaying).getD false
  let rb := (b.run.map Run.relaying).getD false
  if ra != rb then !ra
  else if a.ctx.cls ≠ b.ctx.cls then a.ctx.cls < b.ctx.cls
  else (a.run.map Run.order).getD 0 > (b.run.map Run.order).getD 0

/-- Pre-emption on cluster `t` (R269, R270). -/
def preemption (t : Nat) (s : State) : State :=
  match nextWait s t with
  | none => s
  | some w =>
    let res := (s.tclu t).res
    let running := res.filter (fun r => r.ctx.state = sRUNNING)
    let below := running.filter (fun r => r.ctx.cls < w.cls)
    let inHand := (res.filter (fun r => r.ctx.state = sSTOPPING && (match r.run with
      | some u => u.preempt.isSome && u.fail.isNone && u.abort.isNone | none => false))).length
    let want := (s.tnd.wait.filter (fun v => canRun s t v && running.any (fun r => r.ctx.cls < v.cls))).length
    if res.length < 512 || res.any (fun r => !r.pinned) || inHand ≥ want then s
    else match below with
      | [] => s
      | r :: rs =>
        let v := rs.foldl (fun b x => if victimBefore x b then x else b) r
        modRes t v.stream (fun r => Res.stopping { r with run := r.run.map (fun u =>
          { u with preempt := some (w.stream, w.cls) }) }) s

/-- A stream that ends in a chunk that is retired becomes UNUSABLE (R274). -/
def Ctx.ifRetired (ret : Bool) (c : Ctx) : Ctx :=
  if ret then { c with state := sUNUSABLE, cause := cCTXRETIRED, detail := 0 } else c

/-- A STOPPING stream has nothing outstanding (R265 to R268). -/
def streamDrain (n : Nat) (s : State) : State :=
  match resident s n with
  | none => s
  | some (t, r) =>
    match r.run with
    | none => s
    | some u =>
      if r.ctx.state ≠ sSTOPPING || !u.els.isEmpty then s
      else
        let c := match u.fail, u.abort, u.preempt with
          | some f, _, _ => { r.ctx with state := sSTOPPED, cause := f.cause, detail := f.detail }
          | none, some d, _ => { r.ctx with state := sSTOPPED, cause := cABORT, detail := BitVec.ofNat 64 d }
          | none, none, some p => { r.ctx with state := sPREEMPTED, cause := cPREEMPT, detail := BitVec.ofNat 64 (p.1 + p.2 * 2 ^ 18) }
          | none, none, none => { r.ctx with state := sSTOPPED, cause := 0, detail := 0 }
        let s := modRes t n (fun e => { e with ctx := c, run := none, dirty := true }) s
        let s := stopRecord n c s
        let s := if c.state = sPREEMPTED then addWait n c true s else s
        let s := if ctxRetired s n then
            let c := c.ifRetired true
            stopRecord n c (dropWait n (modRes t n (fun e => { e with ctx := c }) s))
          else s
        decideAll n s.tnd.dbq.length s

/-- The completion report of the final writes (R248, R251, R263, R268). -/
def finalWrites (n : Nat) (s : State) : State :=
  match resident s n with
  | none => s
  | some (t, r) =>
    match r.run with
    | none => s
    | some u =>
      let d := Desc.of r.ctx.dcopy
      if r.ctx.state ≠ sRUNNING || r.ctx.cursor ≠ d.count || !u.els.isEmpty || (d.op = 6 && !u.finDst) || (d.res ≠ 0 && !u.finRes) then s
      else
        let c := { r.ctx with state := sDONE, ahead := 0 }
        let s := modRes t n (fun e => { e with ctx := c, run := none, dirty := true }) s
        let s := if c.notify then
            emit { unit := 0x08, inst := t, cls := .c0, payload := .value (streamPayload n 0 t sDONE 0) } s
          else s
        let s := if ctxRetired s n then
            let c := c.ifRetired true
            stopRecord n c (modRes t n (fun e => { e with ctx := c }) s)
          else s
        decideAll n s.tnd.dbq.length s

/-! ### Start-up and loss of the units -/

/-- Every powered cluster is ready or has failed (R434). -/
def clustersSettled (s : State) : Bool :=
  (List.range 8).all (fun k => tget .off s.pwr.dom (36 + k) == .off || s.cluReady k || (s.clu k).stage == .failed)

/-- The translation unit, then the Tender clusters whose domains are on, become ready (R434, R435). -/
def unitsReady (s : State) : State :=
  let s := { s with ready := s.ready ||| 0x1000#16 }
  { s with ready := (List.range 4).foldl (fun w t => if s.domOn (44 + t) then w ||| (1#16 <<< (8 + t)) else w) s.ready }

/-- Streams whose context has a cell, of its data or of its checks, that is not zero. -/
def listedStreams (s : State) : List Nat :=
  let at_ : List Nat → List Nat := fun l => (l.filter (fun a => decide (0x17FE000000 ≤ a ∧ a < memTop))).map (fun a => (a - 0x17FE000000) / 128)
  let plain := at_ (s.mem.map (·.1)) ++ at_ (s.chk.map (fun c => c.1 / 4 * 64))
  let moored := (List.range 32).flatMap (fun ch => (List.range 32).flatMap (fun n =>
    match tget none (s.chan ch).i.mooring n with
    | some m => (maskGrans m.mask).filterMap (fun j =>
        let a := addrOf ch m.bank m.row j
        if 0x17FE000000 ≤ a then some ((a - 0x17FE000000) / 128) else none)
    | none => []))
  (plain ++ moored).dedup

/-- The contexts in the ready clusters that are not yet written are written FREE with GEN 0 (R253, R434); then the units
become ready when every powered cluster has settled. -/
def contextWrite (s : State) : State :=
  if !s.tenderPart || !s.domOn 48 || s.tnd.scan then s
  else
    let fresh := fun (n : Nat) => s.cluReady (ctxClu n) && !ctxWritten s n
    let s1 := (listedStreams s).foldl (fun s n => if fresh n then storeCtx n {} s else s) s
    let s1 := s1.modTnd (fun x => { x with written := x.written ||| s.ready.extractLsb' 0 8 })
    if clustersSettled s1 && !xlReady s1 then unitsReady s1 else s1

/-- After LIGHTSHIP_EXIT: contexts stored RUNNING or STOPPING are UNUSABLE, one STREAM_LOST record each; those stored
QUEUED or PREEMPTED wait again, a QUEUED one that has no descriptor yet for its descriptor read; then the units become ready (R275). -/
def contextScan (s : State) : State :=
  if !s.tenderPart || !s.domOn 48 || !s.tnd.scan || !clustersSettled s || s.kpr.st ≠ .run then s
  else
    let s := s.modTnd (fun x => { x with scan := false, wait := [] })
    let one := fun (s : State) (n : Nat) =>
      if ctxRetired s n || !s.cluReady (ctxClu n) then s
      else
        let c := storedCtx s n
        if c.state = sRUNNING ∨ c.state = sSTOPPING then
          let c := { c with state := sUNUSABLE, cause := cLOST, detail := 0 }
          emit { unit := 0x09, inst := 0, cls := .c2, payload := .value (streamPayload n cLOST c.tcl sUNUSABLE 0) } (storeCtx n c s)
        else if c.state = sQUEUED ∧ !c.dloaded then
          -- Its descriptor read was lost with the translation unit: it is read again.
          s.modTnd (fun x => { x with dbq := x.dbq ++ [{ src := none, stream := n, gen := c.gen, cmd := 1, reading := true }] })
        else if c.state = sQUEUED ∨ c.state = sPREEMPTED then addWait n c (c.state = sPREEMPTED) s
        else s
    unitsReady ((listedStreams s).foldl one s)

/-- A Tender cluster loses its cache (R275, R427): its streams' entries go. -/
def loseCache (t : Nat) (s : State) : State := s.modTclu t (fun u => { u with res := [] })

/-- The resident context of a stream is lost (R356 CTX_UE): UNUSABLE with cause LOST. -/
def loseContext (n : Nat) (s : State) : State :=
  match resident s n with
  | none => s
  | some (t, r) =>
    let c := { r.ctx with state := sUNUSABLE, cause := cLOST, detail := 0 }
    stopRecord n c (modRes t n (fun e => { e with ctx := c, run := none, dirty := true }) (dropWait n s))

/-! ### The commands -/

def execDescriptorReadComplete (n : BitVec 18) (s : State) : Host.Outcome State Fault Refusal :=
  .next (settle s (descriptorRead n.toNat s))
def execDoorbellContextRead (n : BitVec 18) (s : State) : Host.Outcome State Fault Refusal :=
  .next (settle s (doorbellContextRead n.toNat s))
def execStreamFillComplete (n : BitVec 18) (s : State) : Host.Outcome State Fault Refusal :=
  .next (settle s (streamFill n.toNat s))
def execContextEvict (t : Fin 4) (s : State) : Host.Outcome State Fault Refusal := .next (contextEvict t.val s)
def execPreemption (t : Fin 4) (s : State) : Host.Outcome State Fault Refusal := .next (preemption t.val s)
def execStreamDrainComplete (n : BitVec 18) (s : State) : Host.Outcome State Fault Refusal :=
  .next (settle s (streamDrain n.toNat s))
def execFinalWritesComplete (n : BitVec 18) (s : State) : Host.Outcome State Fault Refusal :=
  .next (settle s (finalWrites n.toNat s))
def execContextWriteComplete (s : State) : Host.Outcome State Fault Refusal := .next (settle s (contextWrite s))
def execContextScan (s : State) : Host.Outcome State Fault Refusal := .next (settle s (contextScan s))

end Sys2Proof.Machine
end

