-- ==== Sys2Proof/Machine/Arbiter.lean ====
section
/-! DEFINITION. The arbiter of commits (R191, R192), and the checks at the head of a port's class queue (R61, R112, R117, R119 to R121). -/

namespace Sys2Proof.Machine

/-- The bytes of an address range that opcode `o` touches (R105). -/
def rangeLen (o : BitVec 8) : Nat := if o = 0x01 || o = 0x04 then 64 else if isAtomic o then 8 else 128

/-- A FENCE received earlier holds every later request until it is committed and complete (R120). -/
def fenceHolds (x : Port) (arr : Nat) : Bool :=
  x.fr.tags.any (fun y => y.2.kind == .fence && y.2.arr < arr && (y.2.st == .held || y.2.st == .issued))

/-- R120 and R121 hold the request at the head of its queue, and R119 a DOORBELL behind an earlier one of its class. -/
def orderHolds (x : Port) (r : Req) : Bool :=
  let k := kindOf r.opc
  fenceHolds x r.arr ||
    (k == .fence && x.fr.tags.any (fun y => y.2.arr < r.arr && !x.completed y.1)) ||
    (k == .doorbell && x.fr.tags.any (fun y => y.2.arr < r.arr && (y.2.st == .held || y.2.st == .issued) &&
      ((y.2.writes && y.2.outcome == .notPerformed) || (y.2.kind == .doorbell && y.2.sect == r.f.sect.toNat))))

/-- The checks made at the head of the queue (R61, R117 check 11): status and DETAIL of the first that fails. -/
def headCheck (s : State) (r : Req) : Option (Nat × Nat) :=
  let k := kindOf r.opc
  if r.f.stack ≠ s.stackId then some (stWRONG, 0)
  else if k = .fence then none
  else if k = .doorbell then
    let n := r.f.addr.toNat % 2 ^ 18
    if xlReady s && ctxWritten s n && tndReady s (ctxOf s n).tcl then none else some (stNOTREADY, 0x01)
  else
    let o := effOpc r.opc r.f
    (addrCheck s r.f.addr.toNat (rangeLen o)).map (fun st => (st, 0))

/-- The channel that a request is addressed to; a FENCE and a DOORBELL go to none (R190). -/
def Req.chan (r : Req) : Option Nat :=
  if kindOf r.opc = .fence ∨ kindOf r.opc = .doorbell then none else some (chanOf r.f.addr.toNat)

/-- Conditions 1 to 5 of R191 hold for the head of class queue `c` of port `p`. -/
def headReady (s : State) (p c : Nat) : Option Req :=
  match tget [] (s.port p).fr.cq c with
  | [] => none
  | r :: _ =>
    if (headCheck s r).isNone && !orderHolds (s.port p) r && budgetsAdmit s.sec p c &&
        r.chan.all (fun ch => !holdsClass s.sec (s.chan ch).q c) then some r else none

/-- The classes of the ports' ready heads for channel `ch`, with their ports (R192). -/
def portOffers (s : State) (ch : Nat) : List (Nat × Nat) :=
  s.ports.flatMap (fun x => (List.range 7).filterMap (fun c =>
    match headReady s x.1 c with
    | some r => if r.chan = some ch then some (x.1, c) else none
    | none => none))

/-- How far source `src` stands behind the source whose request channel `ch` committed last (R192). -/
def turnKey (s : State) (ch src : Nat) : Nat := (src + 35 - tget 35 s.sec.turn ch) % 36

/-- Among the offers to channel `ch`, none goes before class `c` of source `src`: no higher class, and of its class no source whose turn comes
first (R192). -/
def winsOver (s : State) (ch src c : Nat) (offers : List (Nat × Nat)) : Bool :=
  offers.all (fun o => o.2 < c || (o.2 = c && turnKey s ch src ≤ turnKey s ch o.1))

/-- Channel `ch` has committed a request of source `src`. -/
def took (ch src : Nat) (s : State) : State := s.modSec (fun x => { x with turn := tset x.turn ch src })

end Sys2Proof.Machine
end

