-- ==== Sys2Proof/Machine/Element.lean ====
section
/-! DEFINITION. Elements of a stream: their accesses, issue, completion and application (R208, R215 to R227, R233 to R238,
R260 to R267). -/

namespace Sys2Proof.Machine

def TAcc.va : TAcc → Nat
  | .read a _ | .write a _ _ | .acc a _ _ _ | .fin a _ => a

/-- The access needs W in the leaf (R258); IN_PLACE and DRAIN write their element. -/
def TAcc.needW : TAcc → Bool
  | .read .. => false
  | .fin _ m => m != 1
  | _ => true

/-- Bytes that an access reads and writes in memory, for TND_BYTES (R242): a fixed-window element has 16 bytes (R208), and DRAIN writes its
DST[i] in the same access. -/
def TAcc.reads : TAcc → Nat
  | .read _ n => n
  | .write .. => 0
  | .acc _ op _ d => if op = .fw then 16 else d.length
  | .fin .. => 16
def TAcc.writes : TAcc → Nat
  | .read .. => 0
  | .write _ d _ => d.length
  | .acc _ op _ d => if op = .fw then 16 else d.length
  | .fin _ m => if m = 0 then 16 else if m = 1 then 0 else 24

/-- The access as a controller sees it at physical address `pa` (R129, R223, R234); `dst` is where DRAIN writes. -/
def TAcc.toOp (pa dst : Nat) : TAcc → AccOp
  | .read .. => .read
  | .write _ d pois =>
    let o := pa % 128
    if d.length = 4 && !pois then .put4 (o / 8) (o % 8 = 4) (BitVec.ofNat 32 (leNat d))
    else
      let units := (o + d.length - 1) / 8 - o / 8 + 1
      .write pois ((BitVec.ofNat 16 (2 ^ units - 1)) <<< (o / 8)) (patch (List.replicate 128 0) o d)
  | .acc _ op ty d =>
    let o := pa % 128
    let op' := op
    if op = .fw then .racc .fw ty (1#32 <<< (o / 4)) (patch (List.replicate 128 0) o d)
    else .racc op' ty ((BitVec.ofNat 32 (2 ^ (d.length / 4) - 1)) <<< (o / 4)) (patch (List.replicate 128 0) o d)
  | .fin _ m => .fin m (pa % 128 / 8) dst

/-! ### What each operation computes -/

/-- The bytes of an element value. -/
def elemBytes (t : Ty) (v : Nat) : List (BitVec 8) := leBytes t.size (v % 2 ^ (8 * t.size))

/-- The first access of element `i` (R215). -/
def firstAcc (d : Desc) (i : Nat) : Ph × TAcc :=
  if d.usesIdx then (.idx, .read (d.idx + i * d.isz) d.isz)
  else if d.op = 2 then (.dst, .write (d.dst + i * d.dsz) (elemBytes d.ty d.opa) false)
  else if d.op = 9 then (.src, .fin (d.src + i * 16) d.func)
  else (.src, .read (d.src + i * d.ssz) d.ssz)

/-- The index that the bytes of IDX[i] give; a negative one lies out of range (R222). -/
def indexOf (d : Desc) (b : List (BitVec 8)) : Int :=
  let v := leNat b
  match bitsOf d.ctrl 8 2 with
  | 1 => (BitVec.ofNat 32 v).toInt
  | 3 => (BitVec.ofNat 64 v).toInt
  | _ => v

/-- The comparison of SELECT (R214, R220). -/
def predHolds (d : Desc) (v : Nat) : Bool :=
  let a := d.opa % 2 ^ (8 * d.ty.size)
  let r : Bool × Bool × Bool :=   -- equal, less, ordered
    if d.ty.isFp then
      let x := d.ty.fmt.decode v
      let y := d.ty.fmt.decode a
      (x.eq y, x.lt y, x != .nan && y != .nan)
    else
      let x := d.ty.toInt v
      let y := d.ty.toInt a
      (x = y, x < y, true)
  match d.pred with
  | 0 => r.1
  | 1 => !r.1
  | 2 => r.2.1
  | 3 => r.1 || r.2.1
  | 4 => r.2.2 && !r.1 && !r.2.1
  | 5 => r.2.2 && !r.2.1
  | _ => v &&& a != 0

/-- A bin of HIST (R221). -/
inductive Bin where
  | nan
  | low
  | high
  | at_ (b : Nat)
  deriving DecidableEq, Repr

/-- floor of a finite value. -/
def floorOf (neg : Bool) (m : Nat) (e : Int) : Int :=
  let v : Int := if neg then -(m : Int) else m
  if e ≥ 0 then v * (2 ^ e.toNat : Nat) else v / ((2 ^ (-e).toNat : Nat) : Int)

/-- BIN(x) and the flags it raises (R221). -/
def binOf (d : Desc) (v : Nat) : Bin × BitVec 6 :=
  let put := fun (b : Int) => if b < 0 then Bin.low else if b ≥ d.limit then .high else .at_ b.toNat
  if d.ty.isFp then
    let x := f64.decode (f64.encode (d.ty.fmt.decode v))
    let a := f64.decode d.opa
    let b := f64.decode d.opb
    let na : Fp := match a with | .nan => .nan | .inf n => .inf (!n) | .fin n m e => .fin (!n) m e
    let t1 := f64.decode (f64.encode (x.add na))
    let t := f64.decode (f64.encode (t1.mul b))
    let fl := x.flags ||| t1.flags ||| t.flags
    match t with
    | .nan => (.nan, fl ||| fNAN)
    | .inf neg => (if neg then .low else .high, fl)
    | .fin neg m e => (put (floorOf neg m e), fl)
  else
    (put ((d.ty.toInt v - d.ty.toInt d.opa) / ((2 ^ d.opb : Nat) : Int)), 0)

/-- The identity of REDUCE's function (R219). -/
def redInit (d : Desc) : BitVec 128 :=
  let n := d.ty
  if d.func = 0 then 0
  else if n.isFp then BitVec.ofNat 128 (n.fmt.infinity (d.func = 2))
  else
    let w := 8 * n.size
    BitVec.ofNat 128 (if n.signed then (if d.func = 1 then 2 ^ (w - 1) - 1 else 2 ^ (w - 1))
      else (if d.func = 1 then 2 ^ w - 1 else 0))

/-- SRC[i] folded into the accumulator (R219); the first element of MIN and MAX is folded with itself, since no infinity has been read. -/
def redFold (d : Desc) (first : Bool) (acc : BitVec 128) (v : Nat) : BitVec 128 × BitVec 6 :=
  if d.fpSum then fwAdd d.redE acc (d.ty.fmt.decode v)
  else if d.func = 0 && d.ty = .int32 then (BitVec.ofNat 128 (Ty.int64.wrap (Ty.int64.toInt acc.toNat + Ty.int32.toInt v)), 0)
  else
    let r := d.ty.combine d.racc (if first && d.func ≠ 0 then v else acc.toNat) v
    (BitVec.ofNat 128 r.1, r.2)

/-- The bytes REDUCE writes to DST[0] (R219). -/
def redResult (d : Desc) (acc : BitVec 128) : List (BitVec 8) :=
  if d.fpSum then leBytes d.ty.size (fwFinal d.ty.fmt d.redE acc) else leBytes d.redSize acc.toNat

/-- The result record (R226). -/
def resultRecord (d : Desc) (c : Ctx) : List (BitVec 8) :=
  leBytes 8 c.outcnt ++ leBytes 4 c.skipped ++ leBytes 4 c.flags.toNat ++ leBytes 16 (if d.fpSum then c.acc.toNat else 0)

/-! ### Applied elements -/

/-- CURSOR moves past every applied element at its head (R260, R262). -/
def Ctx.advance (red : Bool) : Nat → Ctx → Ctx
  | 0, c => c
  | n + 1, c =>
    if c.ahead.getLsbD 0 then
      Ctx.advance red n { c with
        cursor := c.cursor + 1, ahead := c.ahead >>> 1
        acc := if red then c.acc else c.acc.extractLsb' 64 64 ++ (c.acc.extractLsb' 0 64 >>> 1) }
    else c

/-- Element `i` of the stream is applied (R215, R260); `skip` counts it as skipped. -/
def Ctx.applied (d : Desc) (i : Nat) (skip : Bool) (count : Bool) (flags : BitVec 6) (c : Ctx) : Ctx :=
  let c := { c with
    ahead := c.ahead ||| (1#64 <<< (i - c.cursor)), flags := c.flags ||| flags ||| (if skip then fSKIP else 0)
    skipped := if skip then satInc c.skipped else c.skipped, outcnt := if count then c.outcnt + 1 else c.outcnt }
  c.advance (d.op = 6) 65

/-- Element `i` is in doubt (R262). -/
def Ctx.inDoubt (i : Nat) (c : Ctx) : Ctx :=
  let low := c.acc.extractLsb' 0 64 ||| (1#64 <<< (i - c.cursor))
  { c with ahead := c.ahead ||| (1#64 <<< (i - c.cursor)), acc := (c.acc.extractLsb' 64 64 + 1) ++ low }.advance false 65

def Run.drop (i : Nat) (u : Run) : Run := { u with els := u.els.filter (fun e => e.i ≠ i && e.st != .ride i) }
def Run.put (e : El) (u : Run) : Run := { u with els := u.els.map (fun f => if f.i = e.i then e else f) }

/-- The element is finished as applied, with its partner of R223; the counts of R226 and R242 follow. -/
def elApplied (t n : Nat) (e : El) (skip : Bool) (flags : BitVec 6) (s : State) : State :=
  match resident s n with
  | none => s
  | some (_, r) =>
    let d := Desc.of r.ctx.dcopy
    if e.i ≥ d.count then
      let s := modRes t n (fun r => { r with
        dirty := true
        ctx := { r.ctx with flags := r.ctx.flags ||| flags ||| e.flags ||| (if skip then fSKIP else 0)
                            skipped := if skip then satInc r.ctx.skipped else r.ctx.skipped }
        run := r.run.map (fun u =>
          let u := u.drop e.i
          if e.i = d.count then { u with finDst := true } else { u with finRes := true }) }) s
      s.modTclu t (fun u => { u with skip := satAdd u.skip skip.toNat })
    else
      let mates := (match r.run with | some u => u.els.filter (fun f => f.st == .ride e.i) | none => [])
      let one := fun (c : Ctx) (f : El) =>
        let sk := skip || f.skip
        c.applied d f.i sk (if d.op = 7 then f.ph = .dst else if d.op = 8 then f.ph = .dst && !sk else true) (flags ||| f.flags)
      let skipN := ((e :: mates).filter (fun f => skip || f.skip)).length
      let s := modRes t n (fun r => { r with
        dirty := true, ctx := (e :: mates).foldl one r.ctx, run := r.run.map (Run.drop e.i) }) s
      s.modTclu t (fun u => { u with elem := u.elem + (1 + mates.length), skip := satAdd u.skip skipN })

/-- The element fails (R227, R265, R267). -/
def elFail (t n : Nat) (e : El) (cause : Nat) (detail : BitVec 64) (s : State) : State :=
  modRes t n (fun r => (Res.failed e.i cause detail { r with run := r.run.map (Run.drop e.i) })) s

/-- The element goes on to another access, unless its stream stops. -/
def elNext (t n : Nat) (e : El) (s : State) : State :=
  modRes t n (fun r => { r with run := r.run.map (fun u =>
    if r.ctx.state = sRUNNING then u.put { e with st := .want } else u.drop e.i) }) s

/-- The write that ends COPY, GATHER, SCATTER or FINALIZE, poisoned where the source was (R225). -/
def lastWrite (e : El) (va : Nat) (b : List (BitVec 8)) : El :=
  { e with ph := .dst, acc := .write va b e.pois, flags := e.flags ||| (if e.pois then fPOISON else 0) }

/-- The source of element `e` has been read, or its element converted (R215, R219 to R221, R225). -/
def afterSource (t n : Nat) (d : Desc) (e : El) (s : State) : State :=
  let v := leNat e.val
  let own := elemBytes d.ty v
  let e := if 1 ≤ d.op ∧ d.op ≤ 5 ∧ d.ty.isFp ∧ !e.pois then { e with flags := e.flags ||| (d.ty.fmt.decode v).flags } else e
  match d.op with
  | 1 => elNext t n (lastWrite e (d.dst + e.i * d.dsz) own) s
  | 3 => elNext t n (lastWrite e (d.dst + e.i * d.dsz) own) s
  | 4 => elNext t n (lastWrite e (d.dst + e.idx * d.dsz) own) s
  | 5 => elNext t n { e with ph := .dst, acc := .acc (d.dst + e.idx * d.dsz) d.racc d.ty own } s
  | 6 =>
    match resident s n with
    | none => s
    | some (_, r) =>
      let a := if r.ctx.cursor = 0 then redInit d else r.ctx.acc
      let f := redFold d (r.ctx.cursor = 0) a v
      let fl := f.2 ||| (if d.ty.isFp then (d.ty.fmt.decode v).flags else 0)
      elApplied t n e false fl (modRes t n (fun r => { r with ctx := { r.ctx with acc := f.1 } }) s)
  | 7 =>
    let fl := if d.ty.isFp then (d.ty.fmt.decode v).flags else 0
    if predHolds d v then
      match resident s n with
      | none => s
      | some (_, r) =>
        let k := r.ctx.outcnt
        let b := if d.selIdx then leBytes 8 e.i else own
        elNext t n { e with ph := .dst, acc := .write (d.dst + k * d.dsz) b false, flags := e.flags ||| fl } s
    else elApplied t n e false fl s
  | 8 =>
    let b := binOf d v
    let go := fun (k : Nat) => elNext t n { e with ph := .dst, flags := e.flags ||| b.2
                                                   acc := .acc (d.dst + k * 8) .add .uint64 (leBytes 8 1) } s
    match b.1 with
    | .nan => elApplied t n e true b.2 s
    | .low => if d.clamp then go 0 else elApplied t n e true b.2 s
    | .high => if d.clamp then go (d.limit - 1) else elApplied t n e true b.2 s
    | .at_ k => go k
  | _ => elNext t n (lastWrite e (d.dst + e.i * 8) (e.val.take 8)) s

/-- The index of element `e` has been read (R222). -/
def afterIndex (t n : Nat) (d : Desc) (e : El) (b : List (BitVec 8)) (s : State) : State :=
  let x := indexOf d b
  if x < 0 ∨ x ≥ d.limit then
    if !d.oor then elFail t n e cINDEX (BitVec.ofNat 64 (leNat b % 2 ^ 32)) s
    else if d.op = 3 then
      elNext t n { e with ph := .dst, skip := true, acc := .write (d.dst + e.i * d.dsz) (elemBytes d.ty d.opa) false } s
    else elApplied t n e true 0 s
  else
    let k := x.toNat
    if d.op = 3 then elNext t n { e with ph := .src, idx := k, acc := .read (d.src + k * d.ssz) d.ssz } s
    else elNext t n { e with ph := .src, idx := k, acc := .read (d.src + e.i * d.ssz) d.ssz } s

/-- The access of element `e` met poison (R225). -/
def elPoison (t n : Nat) (d : Desc) (e : El) (s : State) : State :=
  let stop := fun (k : Nat) => elFail t n e cPOISON (BitVec.ofNat 64 k) s
  match e.ph with
  | .idx => stop 0
  | .src =>
    if !d.carry then stop 1
    else if d.op = 6 then elApplied t n e false fPOISON s
    else if d.op = 5 || d.op = 7 || d.op = 8 then elApplied t n e true fPOISON s
    else if d.op = 9 && d.func = 0 then elApplied t n e false fPOISON s
    else afterSource t n d { e with pois := true, val := List.replicate 16 0 } s
  | .dst => if d.carry then elApplied t n e true fPOISON s else stop 2

/-- The access of element `e` has ended well: `b` are the bytes it read, `fl` the flags its controller reports. -/
def elDone (t n : Nat) (d : Desc) (e : El) (b : List (BitVec 8)) (fl : BitVec 6) (s : State) : State :=
  let e := { e with flags := e.flags ||| fl }
  if e.i ≥ d.count then elApplied t n e false 0 s
  else match e.ph with
    | .idx => afterIndex t n d e b s
    | .src => if d.op = 9 && d.func ≠ 1 then elApplied t n e false 0 s else afterSource t n d { e with val := b } s
    | .dst => elApplied t n e false 0 s

/-! ### Issue -/

/-- The final writes of a stream whose elements are all applied (R226, R263). -/
def finalEl (d : Desc) (c : Ctx) (u : Run) : Option El :=
  if d.op = 6 && !u.finDst then
    let a := if c.cursor = 0 then redInit d else c.acc
    let b := redResult d a
    some { i := d.count, ph := .dst, acc := .write d.dst b (c.flags.getLsbD 4)
           flags := if d.ty.isFp && !c.flags.getLsbD 4 then (d.ty.fmt.decode (leNat b)).flags else 0 }
  else if d.res ≠ 0 && !u.finRes then
    some { i := d.count + 1, ph := .dst, acc := .write d.res (resultRecord d c) false }
  else none

/-- The next element that a stream may begin, within its window (R216, R261, R264). -/
def newEl (d : Desc) (c : Ctx) : Nat → Run → Option El
  | 0, _ => none
  | k + 1, u =>
    if c.cursor = d.count then (if u.els.isEmpty then finalEl d c u else none)
    else if u.next ≥ d.count || u.next ≥ c.cursor + 64 || ((d.op = 6 || d.op = 7) && !u.els.isEmpty) then none
    else if u.next < c.cursor || c.ahead.getLsbD (u.next - c.cursor) then newEl d c k { u with next := u.next + 1 }
    else
      let f := firstAcc d u.next
      some { i := u.next, ph := f.1, acc := f.2 }

/-- The access writes its granule. -/
def TAcc.hits : TAcc → Bool
  | .read .. => false
  | .fin _ m => m != 1
  | _ => true

/-- The granules that an element's write or accumulation may still reach, `none` where they are not known yet (R217). -/
def El.targets (d : Desc) (e : El) : Option (List Nat) :=
  if e.ph = .dst then some [e.acc.va / 64]
  else if d.op = 4 || d.op = 5 || d.op = 8 then none
  else if d.op = 9 then
    some ((if d.func = 1 then [] else [e.acc.va / 64]) ++ (if d.func = 0 then [] else [(d.dst + e.i * 8) / 64]))
  else some [(d.dst + e.i * d.dsz) / 64]

/-- The write of element `e` has been sent to a controller of this stack, which applies what reaches a granule in order (R137). -/
def El.committed (e : El) : Bool :=
  e.acc.hits && (match e.st with
    | .out | .ride _ => true
    | _ => false)

/-- The earlier element `f` might apply its write or accumulation to a granule of `gs` after a later one (R217); an access that is relayed may
be refused and sent again. -/
def mayHit (gs : List Nat) (d : Desc) (f : El) : Bool :=
  !f.committed && (match f.targets d with
    | none => true
    | some l => l.any gs.contains)

/-- An earlier element of the stream holds the write or accumulation back: one of the same granule (R217), and for COPY and FILL, which write
DST in ascending chunks, each one that is not yet written, but for those sent to the same chunk (R216). -/
def held (d : Desc) (u : Run) (e : El) : Bool :=
  e.acc.hits && u.els.any (fun f => f.i < e.i &&
    (mayHit ((e.targets d).getD [e.acc.va / 64]) d f ||
      ((d.op = 1 || d.op = 2) && !(f.committed && f.acc.va / 128 = e.acc.va / 128))))

/-- Accesses of cluster `t` that are outstanding (R238). -/
def outstanding (s : State) (t : Nat) : Nat :=
  (s.tclu t).res.foldl (fun n r => n + (match r.run with | some u => (u.els.filter El.sent).length | none => 0)) 0

/-- The other half of the 8-byte unit of a 4-byte write of the same stream that is ready too (R223). -/
def partner (u : Run) (e : El) : Option El :=
  match e.acc with
  | .write va b false =>
    if b.length = 4 then u.els.find? (fun f => f.i ≠ e.i && f.st == .want && f.ph == .dst &&
      (match f.acc with | .write w c false => c.length = 4 && w / 8 = va / 8 && w ≠ va | _ => false))
    else none
  | _ => none

/-- Conditions 1 to 3 of R191 and the limit of R238 hold for an access of class `c` of cluster `t` at `pa`. -/
def mayCommit (s : State) (t c pa : Nat) : Bool :=
  let ch := chanOf pa
  s.cluReady (cluOf ch) && budgetsAdmit s.sec (32 + t) c && !holdsClass s.sec (s.chan ch).q c && outstanding s t < 2048

/-- The RUNNING streams of a cluster in the order of R238: class, then in turn. -/
def issueOrder (u : TndClu) : List Res :=
  sortBy (fun (a b : Res) =>
    if a.ctx.cls ≠ b.ctx.cls then a.ctx.cls > b.ctx.cls
    else
      let last := tget 0 u.turns a.ctx.cls
      let key := fun (n : Nat) => if n > last then n else n + 2 ^ 18
      key a.stream ≤ key b.stream) (u.res.filter (fun r => r.ctx.state = sRUNNING))

/-- The element whose access the stream issues next (R238): of those ready, the first that R217 does not hold back; where there is none, a new
one, which is then `true`. -/
def Res.nextEl (r : Res) : Option (El × Bool) :=
  match r.run with
  | none => none
  | some u =>
    let d := Desc.of r.ctx.dcopy
    let ready := sortBy (fun (a b : El) => a.i ≤ b.i) (u.els.filter (fun e => e.st == .want))
    match ready.find? (fun e => !held d u e) with
    | some e => some (e, false)
    | none => ((newEl d r.ctx 65 u).filter (fun e => !held d u e)).map (fun e => (e, true))

/-- The accesses that the Tender clusters but `t` offer to channel `ch`: source and class (R192). -/
def tenderOffers (s : State) (t ch : Nat) : List (Nat × Nat) :=
  (List.range 4).flatMap (fun k => if k = t || !tndReady s k then [] else
    (issueOrder (s.tclu k)).filterMap (fun r => match r.nextEl with
      | some (e, _) => (match xlate s r.ctx.asid e.acc.va e.acc.needW false with
        | some (.ok (.local_ pa)) => if chanOf pa = ch && mayCommit s k r.ctx.cls pa then some (32 + k, r.ctx.cls) else none
        | _ => none)
      | none => none))

/-- The access of element `e` is committed to a channel of this stack, where R191 allows it and the arbiter takes it (R192); `dst` is where
DRAIN writes. -/
def commitLocal (t n : Nat) (c : Ctx) (u : Run) (e : El) (pa dst : Nat) (s : State) : Option State :=
  let ch := chanOf pa
  let s := { s with clk := { s.clk with xbarGated := false } }
  if !mayCommit s t c.cls pa || !winsOver s ch (32 + t) c.cls (portOffers s ch ++ tenderOffers s t ch) then none
  else
    let m := partner u e
    let m := match m with | some f => if held (Desc.of c.dcopy) (u.drop e.i) f then none else some f | none => none
    let acc := match m, e.acc with
      | some f, .write va b _ =>
        let o := f.acc
        (match o with
          | .write w b2 _ => if w < va then TAcc.write w (b2 ++ b) false else TAcc.write va (b ++ b2) false
          | _ => e.acc)
      | _, a => a
    let pa := pa - (e.acc.va - acc.va)
    let op := acc.toOp pa dst
    let need : BitVec 2 := match op with | .read => 1#2 <<< (pa / 64 % 2) | _ => op.touches
    let ent : Entry := { id := 0, src := .tender t n e.i, cls := c.cls, guar := s.sec.guar c.cls, chunk := pa / 128, op := op, need := need
                         accepted := s.day.tick, s := if (s.clu (cluOf ch)).inStep then 1 else 0 }
    let s := modRes t n (fun r => { r with run := r.run.map (fun u =>
      let u := u.put { e with st := .out, acc := acc, pa := pa }
      match m with | some f => u.put { f with st := .ride e.i } | none => u) }) s
    some (arrive ch ent (takePlace ch c.cls (took ch (32 + t) (takeCounts (32 + t) c.cls s))))

/-- Element `e` waits for the walk of the page of `va`, where a walker is free (R259). -/
def startWalk (t n : Nat) (asid : Nat) (e : El) (va : Nat) (s : State) : Option State :=
  let w := (asid, va / 4096)
  let put := modRes t n (fun r => { r with run := r.run.map (Run.put { e with st := .walk (va / 4096) }) })
  if s.tnd.walks.contains w then some (put s)
  else if s.tnd.walks.length < 32 then some (put (s.modTnd (fun x => { x with walks := x.walks ++ [w] })))
  else none

/-- Element `e` issues its access (R234, R235, R238, R258, R273): it is translated, or starts a walk; a local access is committed,
a remote one waits for its RELAY. DRAIN, one access, needs its DST[i] in this stack too (log entry 69).
DEDUCED, log entry 69. -/
def issueEl (t n : Nat) (c : Ctx) (u : Run) (e : El) (s : State) : Option State :=
  let va := e.acc.va
  let dva := (Desc.of c.dcopy).dst + 8 * e.i
  match xlate s c.asid va e.acc.needW false with
    | none => startWalk t n c.asid e va s
    | some (.error f) => some (elFail t n e cXLATE (xlateDetail va f e.acc.needW) s)
    | some (.ok (.remote k pa)) =>
      (match e.acc with
        | .fin .. => some (elFail t n e cREMOTEFIN 0 s)
        | _ => some (modRes t n (fun r => { r with run := r.run.map (Run.put { e with st := .queued, stack := k, pa := pa }) }) s))
    | some (.ok (.local_ pa)) =>
      if s.cluReady (cluOf (chanOf pa)) && retiredAt s pa then some (elFail t n e cRETIRED (BitVec.ofNat 64 va) s)
      else match e.acc with
        | .fin _ 2 =>
          (match xlate s c.asid dva true false with
            | none => startWalk t n c.asid e dva s
            | some (.error f) => some (elFail t n e cXLATE (xlateDetail dva f true) s)
            | some (.ok (.remote ..)) => some (elFail t n e cREMOTEFIN 0 s)
            | some (.ok (.local_ dpa)) => commitLocal t n c u e pa dpa s)
        | _ => commitLocal t n c u e pa 0 s

/-- The stream issues the access of its next element (R238). -/
def issueStream (t : Nat) (s : State) (r : Res) : Option State :=
  match r.run, r.nextEl with
  | some u, some (e, false) => issueEl t r.stream r.ctx u e s
  | some u, some (e, true) =>
    let u := { u with els := u.els ++ [e], next := max u.next (e.i + 1) }
    issueEl t r.stream r.ctx u e (modRes t r.stream (fun r => { r with run := some u }) s)
  | _, _ => none

/-- Cluster `t` issues one element access (R238). -/
def elementIssue (t : Nat) (s : State) : State :=
  if !tndReady s t then s
  else match (issueOrder (s.tclu t)).findSome? (fun r => (issueStream t s r).map (fun s => (r, s))) with
    | some (r, s) => s.modTclu t (fun u => { u with turns := tset u.turns r.ctx.cls r.stream })
    | none => s

/-! ### Completion -/

/-- The finished access of element `k` of stream `n`, with its cluster: a channel link delivers what it has for a Tender cluster in the order in
which its controller produced it (R19), so only the first such access of a channel can be taken. -/
def doneOf (s : State) (n k : Nat) : Option (Nat × Nat × Done) :=
  (List.range 32).findSome? (fun ch => (List.range 4).findSome? (fun t =>
    ((s.chan ch).q.done.find? (fun d => match d.e.src with
      | .tender v _ _ => v = t
      | _ => false)).bind (fun d => if d.e.src = .tender t n k then some (ch, t, d) else none)))

/-- The bytes that a performed access has moved (R242): what a region check refused has moved nothing, what poison refused has written nothing. -/
def movedBytes (e : El) (f : Entry) : Nat :=
  (if f.badRegion then 0 else e.acc.reads) + (if f.badRegion || f.poisonBits ≠ 0 || f.refused ≠ 0 then 0 else e.acc.writes)

/-- A performed access of element `e` has the effect that its operation gives it (R225, R227, R233). -/
def elEnds (t n : Nat) (r : Res) (d : Desc) (e : El) (f : Entry) (s : State) : State :=
  if f.badRegion then
    elFail t n e cREGION (match e.acc with | .fin .. => 2 | .acc _ .fw _ _ => 0 | _ => 1) s
  else if f.refused = 1 then elPoison t n d { e with ph := .dst } s
  else if f.refused = 2 then elFail t n e cRETIRED (BitVec.ofNat 64 (d.dst + 8 * e.i)) s
  else if f.poisonBits ≠ 0 then
    (match e.acc with
      | .read .. => if r.ctx.state = sRUNNING then elPoison t n d e s else elNext t n e s
      | _ => elPoison t n d e s)
  else match e.acc with
    | .read _ m =>
      if r.ctx.state = sRUNNING then elDone t n d e (slice f.data (e.pa % 128) m) 0 s else elNext t n e s
    | .fin .. => elDone t n d e (leBytes 8 f.old.toNat) f.flags s
    | _ => elDone t n d e [] f.flags s

/-- The access of element `k` of stream `n` has completed (R39, R41, R44, R190, R227, R233, R260, R273): a performed access of a stream that runs
on is late after the deadline of R40, counted from its acceptance. -/
def elementApplied (n k : Nat) (s : State) : State :=
  match doneOf s n k with
  | none => s
  | some (ch, t, dn) =>
    let s := s.modSched ch (fun q => { q with done := q.done.erase dn })
    let s := releaseCounts (32 + t) dn.e.cls s
    let late := decide (s.day.tick > dn.e.accepted + 2 + 3 * dn.e.s + dn.e.a)
    match resident s n with
    | none => s
    | some (_, r) =>
      match (r.run.getD {}).els.find? (fun e => e.i = k && e.st == .out) with
      | none => s
      | some e =>
        match dn.how with
        | .retired => elFail t n e cRETIRED (BitVec.ofNat 64 e.acc.va) s
        | .notReady => elNext t n e s
        | .stopped => elNext t n e s
        | .performed =>
          let s := if dn.e.guar && late && r.ctx.state = sRUNNING then addLate dn.e.cls s else s
          elEnds t n r (Desc.of r.ctx.dcopy) e dn.e (s.modTclu t (fun u => { u with bytes := u.bytes + movedBytes e dn.e }))

/-- The elements that wait for the walk of page `vpn`, with cluster and context. -/
def walkers (s : State) (asid vpn : Nat) : List (Nat × Res × El) :=
  (List.range 4).flatMap (fun t => (s.tclu t).res.flatMap (fun r => match r.run with
    | some u => if r.ctx.asid = asid then (u.els.filter (fun e => e.st == .walk vpn)).map (fun e => (t, r, e)) else []
    | none => []))

/-- A page-table walk ends (R188, R256 to R259): its reads are accesses of the stream for which it goes on; its entries are cached, and the
elements that waited for it issue or fail. A walk that no stream waits for any more ends without a read. -/
def walkComplete (asid vpn : Nat) (s : State) : State :=
  if !s.tnd.walks.contains (asid, vpn) then s
  else match walkers s asid vpn with
    | [] => s.modTnd (fun x => { x with walks := x.walks.erase (asid, vpn) })
    | (t, r, e) :: rest =>
      let w := doWalk (.tender t r.ctx.cls) asid (vpn * 4096) s
      match w.2 with
      | none => w.1
      | some res =>
        let s := w.1.modTnd (fun x => { x with walks := x.walks.erase (asid, vpn) })
        ((t, r, e) :: rest).foldl (fun s (x : Nat × Res × El) =>
          let n := x.2.1.stream
          let e := x.2.2
          match res with
          | .ok _ => modRes x.1 n (fun r => { r with run := r.run.map (Run.put { e with st := .want }) }) s
          | .error f =>
            let own := e.acc.va / 4096 = vpn
            let va := if own then e.acc.va else (Desc.of x.2.1.ctx.dcopy).dst + 8 * e.i
            elFail x.1 n e cXLATE (xlateDetail va f (!own || e.acc.needW)) s) s

/-! ### The commands -/

def execElementIssue (t : Fin 4) (s : State) : Host.Outcome State Fault Refusal := .next (settle s (elementIssue t.val s))
def execElementApplied (n : BitVec 18) (k : Nat) (s : State) : Host.Outcome State Fault Refusal :=
  .next (settle s (elementApplied n.toNat k s))
def execXlateWalkComplete (a : BitVec 16) (vpn : Nat) (s : State) : Host.Outcome State Fault Refusal :=
  .next (settle s (walkComplete a.toNat vpn s))

end Sys2Proof.Machine
end

