-- ==== Sys2Proof/Machine/Commit.lean ====
section
/-! DEFINITION. From a class queue to memory and back (R39, R61, R104 to R112, R119 to R121, R191, R203), and the retry
timeouts of a port (R110, R114). -/

namespace Sys2Proof.Machine

/-! ### Commit -/

/-- Each bit of a mask doubled: the 4-byte halves of the enabled 8-byte units. -/
def halves (m : BitVec 16) : BitVec 32 :=
  (List.range 16).foldl (fun w u => if m.getLsbD u then w ||| (3#32 <<< (2 * u)) else w) 0

def padded (l : List (BitVec 8)) : List (BitVec 8) := (l ++ List.replicate 128 0).take 128

/-- The access that a committed request makes (R105, R106, R129). -/
def reqOp (o : BitVec 8) (r : ReqF) : AccOp :=
  let a := r.addr.toNat
  let d := padded r.data
  if o = 0x01 ∨ o = 0x02 then .read
  else if o = 0x04 then .write r.poison ((0xFF#16) <<< (8 * (a / 64 % 2))) (List.replicate (64 * (a / 64 % 2)) 0 ++ d)
  else if o = 0x05 then .write r.poison 0xFFFF d
  else if o = 0x06 then .write r.poison r.mask d
  else if isAtomic o then
    .atomic o (a % 128 / 8) (BitVec.ofNat 64 (leNat (slice d 0 8))) (BitVec.ofNat 64 (leNat (slice d 8 8)))
  else
    let op : RaccOp := if o = 0x50 then .add else if o = 0x51 then .min else if o = 0x52 then .max else .fw
    .racc op (tyOf (r.operand.extractLsb' 26 3).toNat) (halves r.mask) d

/-- The granules that the request needs of its chunk. -/
def reqNeed (o : BitVec 8) (r : ReqF) : BitVec 2 :=
  if o = 0x01 then 1#2 <<< (r.addr.toNat / 64 % 2) else if o = 0x02 then 3 else (reqOp o r).touches

/-- The head leaves its class queue. -/
def popHead (p c : Nat) (s : State) : State :=
  s.modPort p (fun x => { x with fr := { x.fr with cq := tset x.fr.cq c (tget [] x.fr.cq c).tail } })

/-- The tag of a committed request (R39, R40, R190, R203). -/
def issueTag (p t c stepping : Nat) (s : State) : State :=
  let b : Option Bound := if s.sec.guar c && !(s.port p).fr.fenced then some { accepted := s.day.tick, s := stepping } else none
  takeCounts p c (s.modPort p (fun x => { x with fr := x.fr.modTag t (fun r =>
    { r with st := .issued, holds := true, throttled := s.sec.k ≠ 0, bound := b }) }))

/-- The status of a request that went well (R203). -/
def okStatus (r : TagRec) : Nat := if r.throttled then stHINT else stOK

/-- The arbiter takes the ready head of class queue `c` of port `p` in this cycle (R192): the port has no ready head of a higher class, and no
other offer to its channel goes before it. -/
def portTurn (s : State) (p c : Nat) (ch : Option Nat) : Bool :=
  (List.range 7).all (fun d => d ≤ c || (headReady s p d).isNone) &&
    ch.all (fun ch => winsOver s ch p c (portOffers s ch ++ tenderOffers s 4 ch))

/-- The request at the head of class queue `c` of port `p` is committed, answered, or waits (R112, R191, R192). -/
def commitHead (p c : Nat) (s : State) : State :=
  let x := s.port p
  match tget [] x.fr.cq c with
  | [] => s
  | r :: _ =>
    let t := r.f.tag.toNat
    let k := kindOf r.opc
    match headCheck s r with
      | some e => (popHead p c s).modPort p (fun x => x.answer s.day.tick s.stackId t e.1 e.2 [])
      | none =>
        if (headReady s p c).isNone || !portTurn s p c r.chan then s
        else if k = .fence then
          (issueTag p t c 0 (popHead p c s)).modPort p (fun x =>
            Port.answer s.day.tick s.stackId t (okStatus (x.fr.tag t)) 0 []
              { x with fr := x.fr.modTag t (fun r => { r with outcome := .performed }) })
        else if k = .doorbell then
          arriveDb { src := some (p, t), stream := r.f.addr.toNat % 2 ^ 18, gen := r.f.operand.extractLsb' 0 16
                     cmd := (r.f.operand.extractLsb' 16 8).toNat } (issueTag p t c 0 (popHead p c s))
        else
          let a := r.f.addr.toNat
          let ch := chanOf a
          let o := effOpc r.opc r.f
          let stepping := if (s.clu (cluOf ch)).inStep then 1 else 0
          let e : Entry := { id := 0, src := .port p t, cls := c, guar := s.sec.guar c, chunk := a / 128, op := reqOp o r.f
                             need := reqNeed o r.f, low := o = 0x01 || o = 0x04 || isAtomic o, accepted := s.day.tick, s := stepping }
          let s := takePlace ch c (took ch p (issueTag p t c stepping (popHead p c s)))
          arrive ch e { s with clk := { s.clk with xbarGated := false } }

/-! ### Performance -/

/-- The finished access of tag `t` of port `p`: a channel link delivers what it has for the port in the order in which its
controller produced it (R19), so only the first such access of a channel can be taken. -/
def doneTag (s : State) (p t : Nat) : Option (Nat × Done) :=
  (List.range 32).findSome? (fun ch => ((s.chan ch).q.done.find? (fun d => match d.e.src with
    | .port q _ => q = p
    | _ => false)).bind (fun d => if d.e.src = .port p t then some (ch, d) else none))

/-- The poison bits of DETAIL (R104, R107). -/
def poisonDetail (e : Entry) (low : Bool) : Nat :=
  (if low then (if e.poisonBits = 0 then 0 else 1) else e.poisonBits.toNat) + (if e.unc then 4 else 0)

/-- The outcome of an access as R123 records it. -/
def outcomeOf (e : Entry) : TagOut :=
  match e.op with
  | .write .. => if e.need = 0 && e.poisonBits = 0 then .performed else if e.applied = 0 then .notPerformed else .partly
  | .read => if e.need = 0 then .performed else .notPerformed
  | _ => if e.need = 0 && e.poisonBits = 0 && !e.badRegion then .performed else .notPerformed

/-- The data of a response (R102, R105, R106). -/
def rspData (e : Entry) : List (BitVec 8) :=
  match e.op with
  | .read =>
    let d := padded e.data
    if e.low then (if (e.applied ||| e.poisonBits) = 1 then d.take 64 else d.drop 64) else d
  | .atomic .. => if e.poisonBits = 0 then leBytes 8 e.old.toNat else leBytes 8 0
  | _ => []

/-- A controller has finished a request of the port, and its response is sent (R107, R109, R110, R123, R124, R237). -/
def requestPerformed (p t : Nat) (s : State) : State :=
  match doneTag s p t with
  | none => s
  | some (ch, dn) =>
    let e := dn.e
    let s := s.modSched ch (fun q => { q with done := q.done.erase dn })
    let r := (s.port p).fr.tag t
    let st : Nat × Nat := match dn.how with
      | .retired => (stRETIRED, 0)
      | .notReady => (stNOTREADY, 0)
      | .stopped => (stFENCED, match outcomeOf e with | .notPerformed => 0x02 | .partly => 0x03 | .performed => 0x01)
      | .performed =>
        if e.badRegion then (stBAD, 0x1A)
        else if e.poisonBits ≠ 0 then (stPOISON, poisonDetail e e.low)
        else (okStatus r, 0)
    let data := match dn.how with | .performed => rspData e | _ => []
    recoverRelease p (s.modPort p (fun x =>
      let x := { x with fr := x.fr.modTag t (fun r => { r with
        outcome := outcomeOf e, bound := if dn.how = Fin_.performed then r.bound.map (fun (b : Bound) => { b with s := max b.s e.s, a := e.a }) else none }) }
      let x := if st = (stBAD, 0x1A) then { x with fr := reportBad 0x40 (BitVec.ofNat 9 t) 0x1A x.fr } else x
      if r.kind = .write then x.holdWrite s.stackId s.day.tick t st.1 st.2
      else x.answer s.day.tick s.stackId t st.1 st.2 data))

/-! ### Timeouts of the retry layer -/

/-- 512 frames after the last NAK (R114). -/
def nakResend (p : Nat) (s : State) : State :=
  let x := s.port p
  if !receiving x || !x.rty.nakWait then s
  else if x.rty.naks < 4 then s.modPort p (fun x => x.sendNak s.day.tick (x.rty.naks + 1))
  else retryLimit p s

/-- The oldest unacknowledged frame has waited 1,024 frames (R114, R115); the frames are not counted. DESIGN CHOICE, log entry 16. -/
def replayTimeout (p : Nat) (s : State) : State :=
  let x := s.port p
  if x.link.lstate ≠ .active || x.rty.replay.isEmpty then s
  else if x.rty.episodes < 4 then
    replayEpisode p 0 (s.modPort p (fun x => { x with rty := { x.rty with episodes := x.rty.episodes + 1 } }))
  else retryLimit p s

/-! ### The commands -/

def execRd64 (p : PortId) (h : Hdr) (r : ReqF) (s : State) : Host.Outcome State Fault Refusal := .next (rxRequest p.val h 0x01 r s)
def execRd128 (p : PortId) (h : Hdr) (r : ReqF) (s : State) : Host.Outcome State Fault Refusal := .next (rxRequest p.val h 0x02 r s)
def execWr64 (p : PortId) (h : Hdr) (r : ReqF) (s : State) : Host.Outcome State Fault Refusal := .next (rxRequest p.val h 0x04 r s)
def execWr128 (p : PortId) (h : Hdr) (r : ReqF) (s : State) : Host.Outcome State Fault Refusal := .next (rxRequest p.val h 0x05 r s)
def execWrm (p : PortId) (h : Hdr) (r : ReqF) (s : State) : Host.Outcome State Fault Refusal := .next (rxRequest p.val h 0x06 r s)
def execAtAdd (p : PortId) (h : Hdr) (r : ReqF) (s : State) : Host.Outcome State Fault Refusal := .next (rxRequest p.val h 0x10 r s)
def execAtSwap (p : PortId) (h : Hdr) (r : ReqF) (s : State) : Host.Outcome State Fault Refusal := .next (rxRequest p.val h 0x11 r s)
def execAtCas (p : PortId) (h : Hdr) (r : ReqF) (s : State) : Host.Outcome State Fault Refusal := .next (rxRequest p.val h 0x12 r s)
def execAtAnd (p : PortId) (h : Hdr) (r : ReqF) (s : State) : Host.Outcome State Fault Refusal := .next (rxRequest p.val h 0x13 r s)
def execAtOr (p : PortId) (h : Hdr) (r : ReqF) (s : State) : Host.Outcome State Fault Refusal := .next (rxRequest p.val h 0x14 r s)
def execAtXor (p : PortId) (h : Hdr) (r : ReqF) (s : State) : Host.Outcome State Fault Refusal := .next (rxRequest p.val h 0x15 r s)
def execAtSmax (p : PortId) (h : Hdr) (r : ReqF) (s : State) : Host.Outcome State Fault Refusal := .next (rxRequest p.val h 0x16 r s)
def execAtSmin (p : PortId) (h : Hdr) (r : ReqF) (s : State) : Host.Outcome State Fault Refusal := .next (rxRequest p.val h 0x17 r s)
def execAtUmax (p : PortId) (h : Hdr) (r : ReqF) (s : State) : Host.Outcome State Fault Refusal := .next (rxRequest p.val h 0x18 r s)
def execAtUmin (p : PortId) (h : Hdr) (r : ReqF) (s : State) : Host.Outcome State Fault Refusal := .next (rxRequest p.val h 0x19 r s)
/-- The request just received is committed where it stands at the head of its class queue. -/
def commitOwn (p c t : Nat) (s : State) : State :=
  match tget [] (s.port p).fr.cq c with
  | r :: _ => if r.f.tag.toNat = t then commitHead p c s else s
  | [] => s

/-- A FENCE is queued and completes at once where nothing earlier is open (R120). -/
def execFence (p : PortId) (h : Hdr) (r : ReqF) (s : State) : Host.Outcome State Fault Refusal :=
  .next (settle s (commitOwn p.val r.sect.toNat r.tag.toNat (rxRequest p.val h 0x20 r s)))
/-- A doorbell of the command given: queued, and decided where it may be (R121, R249). -/
def rxDoorbell (p : Nat) (h : Hdr) (cmd : BitVec 8) (r : ReqF) (s : State) : State :=
  let r := { r with operand := r.operand.extractLsb' 24 8 ++ (cmd ++ r.operand.extractLsb' 0 16) }
  settle s (commitOwn p r.sect.toNat r.tag.toNat (rxRequest p h 0x30 r s))
def execStart (p : PortId) (h : Hdr) (r : ReqF) (s : State) : Host.Outcome State Fault Refusal := .next (rxDoorbell p.val h 0x01 r s)
def execResume (p : PortId) (h : Hdr) (r : ReqF) (s : State) : Host.Outcome State Fault Refusal := .next (rxDoorbell p.val h 0x02 r s)
def execAbort (p : PortId) (h : Hdr) (r : ReqF) (s : State) : Host.Outcome State Fault Refusal := .next (rxDoorbell p.val h 0x03 r s)
def execDoorbellUndefinedCommand (p : PortId) (h : Hdr) (r : ReqF) (s : State) : Host.Outcome State Fault Refusal :=
  .next (rxDoorbell p.val h (r.operand.extractLsb' 16 8) r s)
def execRelayed (p : PortId) (h : Hdr) (r : ReqF) (s : State) : Host.Outcome State Fault Refusal := .next (rxRequest p.val h 0x40 r s)
/-- A RELAYED frame whose inner opcode is the one given (R127, R129). -/
def rxRacc (p : Nat) (h : Hdr) (o : BitVec 8) (r : ReqF) (s : State) : State :=
  rxRequest p h 0x40 { r with operand := r.operand.extractLsb' 8 24 ++ o } s
def execRaccAdd (p : PortId) (h : Hdr) (r : ReqF) (s : State) : Host.Outcome State Fault Refusal := .next (rxRacc p.val h 0x50 r s)
def execRaccMin (p : PortId) (h : Hdr) (r : ReqF) (s : State) : Host.Outcome State Fault Refusal := .next (rxRacc p.val h 0x51 r s)
def execRaccMax (p : PortId) (h : Hdr) (r : ReqF) (s : State) : Host.Outcome State Fault Refusal := .next (rxRacc p.val h 0x52 r s)
def execRaccFw (p : PortId) (h : Hdr) (r : ReqF) (s : State) : Host.Outcome State Fault Refusal := .next (rxRacc p.val h 0x53 r s)
def execReservedOpcodeRequest (p : PortId) (h : Hdr) (o : BitVec 8) (r : ReqF) (s : State) : Host.Outcome State Fault Refusal :=
  .next (rxRequest p.val h o r s)
def execIdle (p : PortId) (a : Fseq) (s : State) : Host.Outcome State Fault Refusal := .next (settle s (rxIdle p.val a s))
def execNak (p : PortId) (a e : Fseq) (s : State) : Host.Outcome State Fault Refusal := .next (settle s (rxNak p.val a e s))
/-- CREDITS or UNFENCE received on the down direction (R116). -/
def execDownLinkFrameDiscard (p : PortId) (h : Hdr) (unfence : Bool) (s : State) : Host.Outcome State Fault Refusal :=
  .next (settle s (rxSeq p.val h (if unfence then 0xE2 else 0xE1) 0
    (fun s => s.modPort p.val (fun x => { x with fr := { x.fr with fevt := x.fr.fevt.raise 3 } })) s))
def execFrameCrcFailure (p : PortId) (s : State) : Host.Outcome State Fault Refusal :=
  .next (settle s (if receiving (s.port p.val) then crcFail p.val false s else s))
def execRequestCommit (p : PortId) (c : BitVec 3) (s : State) : Host.Outcome State Fault Refusal :=
  .next (settle s (commitHead p.val c.toNat s))
def execRequestPerformed (p : PortId) (t : Tag) (s : State) : Host.Outcome State Fault Refusal :=
  .next (settle s (requestPerformed p.val t.toNat s))
def execWrDoneCoalesceTimeout (p : PortId) (s : State) : Host.Outcome State Fault Refusal :=
  .next (s.modPort p.val (fun x => x.coalesce s.stackId s.day.tick))
def execNakResendTimeout (p : PortId) (s : State) : Host.Outcome State Fault Refusal := .next (settle s (nakResend p.val s))
def execReplayTimeout (p : PortId) (s : State) : Host.Outcome State Fault Refusal := .next (settle s (replayTimeout p.val s))

end Sys2Proof.Machine
end

