-- ==== Sys2Proof/Machine/Relay.lean ====
section
/-! DEFINITION. Relay (R127 to R132, R235 to R237, R262, R271, R272). -/

namespace Sys2Proof.Machine

def Relay.rtag (r : Relay) (t : Nat) : RTag := tget {} r.rtags t
def Relay.modRtag (r : Relay) (t : Nat) (f : RTag → RTag) : Relay := { r with rtags := tmod {} r.rtags t f }
def Port.modRly (x : Port) (f : Relay → Relay) : Port := { x with rly := f x.rly }

/-- The lowest free RTAG of a port (R130). -/
def Relay.freeRtag (r : Relay) : Option Nat := (List.range 512).find? (fun t => (r.rtag t).st == .free)

/-- A port may send a RELAY (R130). -/
def relayEligible (x : Port) : Bool :=
  x.rly.en && x.link.lstate == .active && !x.fr.fenced && x.rly.credit != 0 && x.rly.freeRtag.isSome

/-- The eligible port whose turn it is (R130). -/
def relayPort (s : State) : Option Nat :=
  ((List.range 32).map (fun j => (s.rlyTurn + 1 + j) % 32)).find? (fun p => relayEligible (s.port p))

/-- The inner request of a RELAY (R105, R127, R235, R236): opcode, address, mask, poison, data. -/
structure Inner where
  iopc : BitVec 8
  addr : Nat
  mask : BitVec 16 := 0
  poison : Bool := false
  data : List (BitVec 8) := []
  deriving DecidableEq, Repr

/-- The 8-byte unit mask of `n` bytes from offset `o` of a chunk. -/
def unitMask (o n : Nat) : BitVec 16 := (BitVec.ofNat 16 (2 ^ ((o + n - 1) / 8 - o / 8 + 1) - 1)) <<< (o / 8)

/-- What leaves the other half of a unit unchanged in a 4-byte accumulation (log entry 24).
DEDUCED, log entry 24. -/
def neutral (op : RaccOp) (t : Ty) : List (BitVec 8) :=
  leBytes 4 (match op, t.isFp with
    | .min, true => f32.infinity false
    | .max, true => f32.infinity true
    | _, true => 0x80000000
    | .min, false => 0x7FFFFFFF
    | .max, false => 0x80000000
    | _, false => 0)

/-- The inner request that carries the access of an element (R235, R236). -/
def innerOf (e : El) : Inner :=
  let o := e.pa % 128
  let base := e.pa - o
  match e.acc with
  | .write _ b pois =>
    if b.length = 4 && !pois then
      match e.cas with
      | none => { iopc := 0x01, addr := e.pa - e.pa % 64 }
      | some x => { iopc := 0x12, addr := e.pa - e.pa % 8
                    data := leBytes 8 x.toNat ++ patch (leBytes 8 x.toNat) (e.pa % 8) b }
    else { iopc := 0x06, addr := base, mask := unitMask o b.length, poison := pois, data := patch (List.replicate 128 0) o b }
  | .acc _ op ty b =>
    let iopc : BitVec 8 := match op with | .add => 0x50 | .min => 0x51 | .max => 0x52 | .fw => 0x53
    let unit := if b.length = 4 then patch (neutral op ty ++ neutral op ty) (o % 8) b else b
    { iopc := iopc, addr := base, mask := unitMask (o - o % 8) 8, data := patch (List.replicate 128 0) (o - o % 8) unit }
  | _ => { iopc := 0x01, addr := e.pa - e.pa % 64 }

/-- The 8-byte units that an inner request touches. -/
def innerUnits (iopc : BitVec 8) (addr : Nat) (mask : BitVec 16) : List Nat :=
  if iopc = 0x01 then (List.range 8).map (addr / 8 + ·)
  else if iopc = 0x12 then [addr / 8]
  else ((List.range 16).filter (fun j => mask.getLsbD j)).map (addr / 8 + ·)

/-- An earlier RELAY of the stream to the same stack is outstanding and overlaps (R131). -/
def relayHeld (s : State) (n stack : Nat) (q : Inner) : Bool :=
  (List.range 32).any (fun p => (s.port p).rly.rtags.any (fun y =>
    y.2.st == .outstanding && y.2.stream = n && y.2.stack.toNat = stack &&
      (innerUnits y.2.iopc y.2.addr.toNat y.2.mask).any (fun k => (innerUnits q.iopc q.addr q.mask).contains k)))

/-- The RELAYs that wait to be sent, in the order of R238: cluster, stream, element. -/
def relayQueue (s : State) : List (Nat × Res × El) :=
  (List.range 4).flatMap (fun t => (issueOrder (s.tclu t)).flatMap (fun r => match r.run with
    | some u => (sortBy (fun (a b : El) => a.i ≤ b.i) (u.els.filter (fun e => e.st == .queued))).map (fun e => (t, r, e))
    | none => []))

/-- A queued RELAY is sent on port `p` where its turn is and its cluster may have one more element operation outstanding (R127 to R131, R238,
R242). -/
def relaySend (p : Nat) (s : State) : State :=
  if relayPort s ≠ some p then s
  else match (relayQueue s).find? (fun q => outstanding s q.1 < 2048 && !relayHeld s q.2.1.stream q.2.2.stack (innerOf q.2.2)) with
    | none => s
    | some (t, r, e) =>
      match (s.port p).rly.freeRtag with
      | none => s
      | some g =>
        let q := innerOf e
        let ty : Nat := match e.acc with
          | .acc _ _ ty _ => (match ty with | .fp64 => 0 | .fp32 => 1 | .int64 => 2 | .uint64 => 3 | .int32 => 4)
          | _ => 0
        let body : UpBody := .relay (BitVec.ofNat 9 g) r.ctx.cls (BitVec.ofNat 12 e.stack) s.stackId (BitVec.ofNat 37 q.addr) q.mask
          (BitVec.ofNat 32 (q.iopc.toNat + r.stream * 2 ^ 8 + ty * 2 ^ 26)) q.poison q.data
        let s := s.modPort p (fun x => (x.modRly (fun y => ({ y with credit := y.credit - 1 }).modRtag g (fun _ =>
          { st := .outstanding, stack := BitVec.ofNat 12 e.stack, stream := r.stream, elems := [e.i], sent := s.day.tick
            iopc := q.iopc, addr := BitVec.ofNat 37 q.addr, mask := q.mask }))).send s.day.tick body)
        let s := modRes t r.stream (fun r => { r with run := r.run.map (Run.put { e with st := .relayed }) }) s
        { (s.modTclu t (fun u => { u with relay := u.relay + 1 })) with rlyTurn := p }

/-- The access puts the element in doubt when its outcome is unknown (R262, R271). -/
def doubtful (g : RTag) : Bool := g.iopc != 0x01

/-- The RELAY of element `e` ended without a definite outcome or with a refusal: in doubt or not applied; the stream stops
(R262, R271). -/
def relayFail (t n : Nat) (d : Desc) (e : El) (doubt : Bool) (cause : Nat) (detail : BitVec 64) (s : State) : State :=
  let s := if doubt && e.i < d.count then
      modRes t n (fun r => { r with dirty := true, ctx := r.ctx.inDoubt e.i }) s
    else s
  elFail t n e cause detail s

/-- The element of a RELAY, where its stream still has it. -/
def relayEl (s : State) (g : RTag) : Option (Nat × Res × El) :=
  match resident s g.stream with
  | some (t, r) => ((r.run.getD {}).els.find? (fun e => some e.i = g.elems.head? && e.st == .relayed)).map (fun e => (t, r, e))
  | none => none

/-- The outcome of a RELAY (R236, R237, R271). -/
def relayOutcome (g : RTag) (status detail : Nat) (data : List (BitVec 8)) (s : State) : State :=
  match relayEl s g with
  | none => s
  | some (t, r, e) =>
    let n := g.stream
    let d := Desc.of r.ctx.dcopy
    let remote : BitVec 64 := BitVec.ofNat 64 (status + detail * 2 ^ 8 + g.stack.toNat * 2 ^ 16 + e.i % 2 ^ 32 * 2 ^ 32)
    let bytes := padded data
    let read := g.iopc = 0x01
    let good := status = stOK || status = stHINT || (status = stFENCED && detail = 0x01 && !read)
    if good then
      if read then
        (match e.acc with
          | .write _ _ _ => elNext t n { e with cas := some (BitVec.ofNat 64 (leNat (slice bytes (e.pa % 64 - e.pa % 8) 8))) } s
          | _ =>
            if r.ctx.state = sRUNNING then
              let m := match e.acc with | .read _ m => m | _ => 0
              elDone t n d e (slice bytes (e.pa % 64) m) 0 s
            else elNext t n e s)
      else if g.iopc = 0x12 then
        let old : Word64 := BitVec.ofNat 64 (leNat (slice bytes 0 8))
        if status = stFENCED || some old = e.cas then elDone t n d e [] 0 s
        else elNext t n { e with cas := some old } s
      else elDone t n d e [] 0 s
    else if status = stPOISON then
      (match e.acc with
        | .read .. => if r.ctx.state = sRUNNING then elPoison t n d e s else elNext t n e s
        | _ => elPoison t n d e s)
    else if status = stBAD && detail = 0x1A then
      elFail t n e cREGION (if g.iopc = 0x53 then 0 else 1) s
    else relayFail t n d e (status = stFENCED && detail = 0x03 && !read) cREMOTE remote s

/-- The relay timeout that acts (R133). -/
def Relay.tmoEff (r : Relay) : Nat := max r.tmo 64

/-- A RELAY times out at the boundary after tick n + TMO (R132, R262, R271). -/
def relayTimeout (p t : Nat) (s : State) : State :=
  let x := s.port p
  let g := x.rly.rtag t
  if g.st ≠ .outstanding ∨ s.day.tick ≤ g.sent + x.rly.tmoEff then s
  else
    let s := s.modPort p (fun x => { (x.modRly (fun y => { (y.modRtag t (fun g => { g with st := .zombie })) with
      cntTmo := satInc y.cntTmo })) with fr := { x.fr with fevt := x.fr.fevt.raise 6 } })
    match relayEl s g with
    | none => s
    | some (c, r, e) =>
      let d := Desc.of r.ctx.dcopy
      let fin : Nat := if e.i ≥ d.count then 1 else 0
      relayFail c g.stream d e (doubtful g) cRELAYTMO
        (BitVec.ofNat 64 (e.i % 2 ^ 32 + g.stack.toNat * 2 ^ 32 + fin * 2 ^ 44)) s

/-- The RELAYs whose time had come when the tick began, and whose timeout no command of the tick named, time out (R132). -/
def relaysDue (s : State) : State :=
  (List.range 32).foldl (fun s p => ((s.port p).rly.rtags.map (·.1)).foldl (fun s t => relayTimeout p t s) s) s

/-- A RELAY_RSP is received (R118, R130, R132): one that comes after its RELAY's time finds a zombie. -/
def rxRelayRsp (p : Nat) (r : RspF) (s : State) : State :=
  let s := relayTimeout p r.tag.toNat s
  let g := (s.port p).rly.rtag r.tag.toNat
  if g.st = .outstanding ∧ r.orig = s.stackId ∧ r.stack = g.stack then
    relayOutcome g r.status.toNat r.detail.toNat r.data
      (s.modPort p (fun x => x.modRly (fun y => y.modRtag r.tag.toNat (fun _ => {}))))
  else
    s.modPort p (fun x => { (x.modRly (fun y => if g.st = .zombie then y.modRtag r.tag.toNat (fun _ => {}) else y)) with
      fr := { x.fr with fevt := x.fr.fevt.raise 7 } })

/-- RLY_CREDIT (R130, R118): the credit saturates at 512. -/
def rxRlyCredit (p n : Nat) (s : State) : State :=
  s.modPort p (fun x => x.modRly (fun y => { y with credit := min 512 (y.credit + n) }))

def execRelayRsp (p : PortId) (h : Hdr) (r : RspF) (s : State) : Host.Outcome State Fault Refusal :=
  .next (settle s (rxSeq p.val h 0x41 r.tag (rxRelayRsp p.val r) s))
def execRlyCredit (p : PortId) (h : Hdr) (n : BitVec 10) (s : State) : Host.Outcome State Fault Refusal :=
  .next (settle s (rxSeq p.val h 0xE3 0 (rxRlyCredit p.val n.toNat) s))
def execRelay (p : PortId) (s : State) : Host.Outcome State Fault Refusal := .next (settle s (relaySend p.val s))
def execRelayTimeout (p : PortId) (t : Tag) (s : State) : Host.Outcome State Fault Refusal :=
  .next (settle s (relayTimeout p.val t.toNat s))

end Sys2Proof.Machine
end

