-- ==== Sys2Proof/Machine/Ctrl.lean ====
section
/-! DEFINITION. The commands of a channel controller as rows of their own: scheduling, row and column commands, frequency
steps, merge entries, TSV tests, mooring rounds (R134 to R162, R168 to R184). -/

namespace Sys2Proof.Machine

/-- A command that a row names, at the first clock of the channel that is due for it (R134, R143); none where the bank or slice is in no state
for it, where a test has found what retires the slice (R178), or while a replay episode runs (R159).
DESIGN CHOICE, log entry 4.
DEDUCED, log entry 7. -/
def rowCommand (ch : Nat) (c : Cmd) (s : State) : State :=
  match (s.chan ch).q.until (s.clu (cluOf ch)).step c with
  | some q =>
    if ctrlOn s ch && q.episode.isNone && !doomed (s.chan ch).i (c.die q) then
      issue ch { cmd := c } (land ch (s.modSched ch (fun _ => q)))
    else s
  | none => s

/-- A command of a request, as a row of its own: where such commands may go to the slice. -/
def requestCommand (ch : Nat) (c : Cmd) (s : State) : State :=
  if sliceOpen s ch (c.die (s.chan ch).q) then rowCommand ch c s else s

/-- A maintenance command as a row of its own (R32): one that the tick still owes. -/
def maintCommand (ch : Nat) (m : Maint) (c : Cmd) (s : State) : State :=
  if (s.chan ch).q.maint.contains m then rowCommand ch c s else s

/-- The slice is awake and executes commands. -/
def Sched.awake (q : Sched) (d : Nat) : Bool := !(q.slice d).sr && !(q.slice d).alert

/-! ### Self-refresh -/

/-- A command for a slice to enter self-refresh (R152, R153, R155): in T1 of a step, or while no request in the queue is for the slice. -/
def sreCmd (ch d : Nat) (s : State) : State :=
  let u := s.clu (cluOf ch)
  let wanted := (s.chan ch).q.queue.any (fun e => dieOf (bankOf (128 * e.chunk)) = d)
  if u.stepTick = 1 || (!u.inStep && !wanted) then rowCommand ch (.sre d) s else s

/-- SRX is issued outside the ticks of a step in which the slices stay in self-refresh (R155). -/
def srxCmd (ch d : Nat) (s : State) : State :=
  let t := (s.clu (cluOf ch)).stepTick
  if t = 1 ∨ t = 2 then s else rowCommand ch (.srx d) s

/-- A cluster whose four channels are all in self-refresh stops its clock (R152). -/
def stopClock (k : Nat) (s : State) : State :=
  if (List.range 4).all (fun j => chanSr s (4 * k + j)) then s.modClu k (fun u => { u with clkStop := true }) else s

/-- Idle self-refresh (R152, R426): the queue has been empty for SR_IDLE ticks, or is empty while SR_N acts low. -/
def srIdle (ch : Nat) (s : State) : State :=
  let q := (s.chan ch).q
  let u := s.clu (cluOf ch)
  if ctrlOn s ch && !u.inStep && q.queue.isEmpty && q.link.isEmpty && q.episode.isNone &&
      (s.pwr.srAct || (u.srIdle ≠ 0 && q.emptyTicks ≥ u.srIdle)) then
    stopClock (cluOf ch) (chanSleep false ch (landAll ch s))
  else s

/-! ### Row and column commands -/

/-- MRR (R134, R155): a die's pattern register is read, in training only. A pattern that reads wrong leaves the step's
training undone. -/
def mrrCmd (ch d : Nat) (ok : Bool) (s : State) : State :=
  let k := cluOf ch
  let u := s.clu k
  if (u.stepTick = 3 || u.stage = .dies) && ctrlOn s ch && (s.chan ch).q.awake d && !doomed (s.chan ch).i d then
    let s := s.modSched ch (fun q => { q with clk := max (q.clk + 1) (q.slice d).rdy }.log .mrr d 0 0)
    if ok then s else s.modClu k (fun u => { u with t3Done := false, phyBad := true })
  else s

/-- The scrub job that a column command on the open row of a bank serves, where no request waits for it (R173). -/
def scrubHere (ch b col : Nat) (rd : Bool) (s : State) : Option ScrubJob :=
  let q := (s.chan ch).q
  match (q.bank b).row with
  | none => none
  | some r =>
    if !q.maint.contains .scrubSlot then none
    else (scrubJobs ch s).find? (fun j => let c := jobCells s j; c.1 = b && c.2.1 = r && c.2.2.1 = col && c.2.2.2 != rd)

/-- An RDC or WRC as a row of its own (R134, R135, R137, R167, R173): at the first clock that is due for it; its data are taken, or written, when
they have arrived. It serves the requests that wait for it, else the scrub job that works on the chunk. -/
def columnRow (ch b col : Nat) (rd : Bool) (errs : List SymErr) (s : State) : State :=
  if sliceOpen s ch (dieOf b) then
    match (s.chan ch).q.until (s.clu (cluOf ch)).step (if rd then .rdc b col else .wrc b col) with
    | some q =>
      let s := land ch (s.modSched ch (fun _ => q))
      let used := (s.chan ch).q.queue.any (fun e => (nextCmd ch s e) = some (if rd then .rdc b col else .wrc b col))
      let p : Pick := { cmd := if rd then .rdc b col else .wrc b col, job := if used then none else scrubHere ch b col rd s }
      landAll ch (columnIssue ch b col rd errs p.job (scrubTake ch p s))
    | none => s
  else s

/-- OPEN_MAX clocks have passed without an access to the open row of a bank (R142, R162): it is closed. A row that a queued request addresses
stays open. -/
def openMax (ch b : Nat) (s : State) : State :=
  let q := (s.chan ch).q
  let x := q.bank b
  let wanted := q.queue.any (fun e => (List.range 2).any (fun g =>
    let c := cellsOf s (2 * e.chunk + g)
    e.needs g && c.1 = b && some c.2.1 = x.row))
  if x.row.isSome && !wanted then
    requestCommand ch (.pre b) (s.modSched ch (fun q => { q with clk := max q.clk (x.lastUse + max 1 (s.clu (cluOf ch)).openMax - 1) }))
  else s

/-! ### Frequency steps -/

/-- Every request of the cluster's channels ends NOT_READY (R157). -/
def cluNotReady (k : Nat) (s : State) : State :=
  (List.range 4).foldl (fun s j => endRequests (4 * k + j) .notReady (fun _ => false) s) s

/-- A DCC_CLUSTER record of class C2 (R157, R343, R433). -/
def cluRecord (k : Nat) (s : State) : State :=
  emit { unit := 0x05, inst := k, cls := .c2, payload := .dccCluster k, atBoundary := true } s

/-- A step failure (R157): the cluster stays in or returns to self-refresh, its ready bit falls, requests held for it end
NOT_READY, and Keeper starts it again. `src` is the fault source, DCC_STEP_FAIL or CLK_CLUSTER (R356). -/
def stepFail (k src : Nat) (s : State) : State :=
  let s := (List.range 4).foldl (fun s j => chanHalt false (4 * k + j) s) s
  let s := s.modClu k (fun u => { u with
    stepTick := 0, t1Done := false, t3Done := false, phyBad := false, clkStop := true
    stage := .off, stageTicks := 0, stageEnded := false, restarted := false
    stepFail := satInc u.stepFail, evt := u.evt.raise 1 })
  let s := { s with ready := s.ready &&& ~~~(1#16 <<< k) }
  let s := cluRecord k (cluNotReady k s)
  let det := if src = 16 then payloadSoon s (.dccCluster k) else 0
  raise src k .c2 det s

/-- Every slice of the cluster's channels that commands still go to is in self-refresh, or is awake. -/
def cluSr (sr : Bool) (k : Nat) (s : State) : Bool :=
  (List.range 4).all (fun j => (List.range 16).all (fun d =>
    doomed (s.chan (4 * k + j)).i d || ((s.chan (4 * k + j)).q.slice d).sr == sr))

/-- T1 (R155): PREA and SRE to every slice, then the clock moves and the timing sets are swapped.
DEDUCED, log entry 18. -/
def stepT1 (k : Nat) (s : State) : State :=
  let u := s.clu k
  if u.stepTick = 1 && !u.t1Done then
    let s := (List.range 4).foldl (fun s j =>
      (chanSleep s.ls.on (4 * k + j) (recover (4 * k + j) 80 (landAll (4 * k + j) s))).modSched (4 * k + j) (fun q => { q with maint := [] })) s
    if cluSr true k s then s.modClu k (fun u => { u with t1Done := true, step := u.stepTo, clkStop := true }) else s
  else s

/-- T2 (R155): the PHYs lock and calibrate; where they do not, every TSV of the cluster is suspected (R174) and the step
cannot be trained. -/
def stepT2 (k : Nat) (locked : Bool) (s : State) : State :=
  let u := s.clu k
  if u.stepTick = 2 && !locked then
    let s := s.modClu k (fun u => { u with phyBad := true })
    (List.range 4).foldl (fun s j => s.modInteg (4 * k + j) (fun i =>
      (List.range 324).foldl (fun i t => i.suspect s.day.tick t) i)) s
  else s

/-- T3 (R155): SRX to every slice and MRR training. -/
def stepT3 (k : Nat) (trained : Bool) (s : State) : State :=
  let u := s.clu k
  if u.stepTick = 3 && !u.t3Done && !u.phyBad then
    let s := (List.range 4).foldl (fun s j =>
      let s := recover (4 * k + j) 80 s
      s.modChan (4 * k + j) (fun x => { x with q :=
        { (((List.range 16).filter (fun d => !doomed x.i d)).foldl (Sched.exitSr u.step s.day.tick) x.q) with maint := [] } })) s
    s.modClu k (fun u => { u with t3Done := trained && cluSr false k s, clkStop := false })
  else s

/-- The boundary after T3 (R154, R155, R172): the cluster serves at the new step, merge entries whose time ran out during the step
close, and the requests that were held go on. -/
def stepOver (k : Nat) (s : State) : State :=
  let s := s.modClu k (fun u => { u with
    stepTick := 4, t1Done := false, t3Done := false, sinceEnd := 0
    stepCnt := satInc u.stepCnt, evt := u.evt.raise 0 })
  (List.range 4).foldl (fun s j => leaveQueue (4 * k + j) (settleAll (4 * k + j) (closeDue (4 * k + j) s))) s

/-- In the tick after T3 held requests issue, urgent ones first (R155): FREQ_STEP_END is the first controller clock of it. -/
def stepEnd (k : Nat) (s : State) : State :=
  if (s.clu k).stepTick = 4 then
    (List.range 4).foldl (fun s j => if ctrlOn s (4 * k + j) then schedClock (4 * k + j) s else s)
      (s.modClu k (fun u => { u with stepTick := 0 }))
  else s

/-! ### Merge entries -/

/-- A merge entry's 2,048 frames have passed (R171, R172): its fill, if still out, returns first; in a step it closes at
the step's end. -/
def mergeTimeout (ch g : Nat) (errs : List (Nat × BitVec 8)) (s : State) : State :=
  let s := fillReturn ch g errs s
  match (s.chan ch).i.mergeOf g with
  | none => s
  | some m => leaveQueue ch (settleOn ch g (mergeEnd ch m s))

/-- The errors of the granule's own half. -/
def granErrs (g : Nat) (l : List SymErr) : List (Nat × BitVec 8) := errsOf (g % 2) l

/-! ### Tests of TSVs -/

/-- A suspected TSV may be tested in this tick (R174): a window after its suspicion, and of the command class one TSV a window, in their
order. -/
def testable (tick t : Nat) (i : Integ) : Bool :=
  i.suspects.any (fun x => x.1 = t && x.2 < tick) &&
    (t < 280 || ((i.suspects.find? (fun x => 280 ≤ x.1)).map (·.1) = some t && i.cmdTest < tick))

/-- The loopback test of a suspected TSV (R174): a TSV that fails is failing from the coming boundary; one that passes is
suspected no more. -/
def tsvLoopback (ch t : Nat) (fails : Bool) (dies : BitVec 16) (s : State) : State :=
  if testable s.day.tick t (s.chan ch).i && !(s.clu (cluOf ch)).inStep then
    let s := s.modInteg ch (fun i => { i with
      suspects := i.suspects.filter (fun x => x.1 ≠ t), cmdTest := if 280 ≤ t then s.day.tick else i.cmdTest })
    if fails then tsvFailed ch t dies s else s
  else s

/-! ### The rows -/

def execSchedulerIssue (ch : ChanId) (s : State) : Host.Outcome State Fault Refusal :=
  .next (if ctrlOn s ch.val then settle s (schedClock ch.val s) else s)
def execAct (ch : ChanId) (b : BankId) (row : Nat) (s : State) : Host.Outcome State Fault Refusal :=
  .next (settle s (requestCommand ch.val (.act b.val row) s))
def execPre (ch : ChanId) (b : BankId) (s : State) : Host.Outcome State Fault Refusal :=
  .next (settle s (requestCommand ch.val (.pre b.val) s))
def execPrea (ch : ChanId) (d : DieId) (s : State) : Host.Outcome State Fault Refusal :=
  .next (settle s (if (s.clu (cluOf ch.val)).stepTick = 1 then rowCommand ch.val (.prea d.val) s
    else requestCommand ch.val (.prea d.val) s))
def execRefpb (ch : ChanId) (b : BankId) (s : State) : Host.Outcome State Fault Refusal :=
  .next (settle s (maintCommand ch.val (.refpb b.val) (.refpb b.val) s))
def execRfmt (ch : ChanId) (b : BankId) (s : State) : Host.Outcome State Fault Refusal :=
  .next (settle s (maintCommand ch.val (.rfmt b.val) (.rfmt b.val) s))
def execSre (ch : ChanId) (d : DieId) (s : State) : Host.Outcome State Fault Refusal :=
  .next (settle s (stopClock (cluOf ch.val) (sreCmd ch.val d.val s)))
def execSrx (ch : ChanId) (d : DieId) (s : State) : Host.Outcome State Fault Refusal := .next (settle s (srxCmd ch.val d.val s))
def execPclr (ch : ChanId) (d : DieId) (s : State) : Host.Outcome State Fault Refusal :=
  .next (if ctrlOn s ch.val then s.modSched ch.val (fun q => { q with clk := q.clk + 1 }.pclr (s.clu (cluOf ch.val)).step d.val) else s)
def execMrr (ch : ChanId) (d : DieId) (ok : Bool) (s : State) : Host.Outcome State Fault Refusal :=
  .next (mrrCmd ch.val d.val ok s)
def execRdc (ch : ChanId) (b : BankId) (col : Fin 8) (errs : List SymErr) (s : State) : Host.Outcome State Fault Refusal :=
  .next (settle s (columnRow ch.val b.val col.val true errs s))
def execWrc (ch : ChanId) (b : BankId) (col : Fin 8) (s : State) : Host.Outcome State Fault Refusal :=
  .next (settle s (columnRow ch.val b.val col.val false [] s))
def execOpenMaxExpiry (ch : ChanId) (b : BankId) (s : State) : Host.Outcome State Fault Refusal := .next (openMax ch.val b.val s)
def execSrIdleExpiry (ch : ChanId) (s : State) : Host.Outcome State Fault Refusal := .next (srIdle ch.val s)
def execParityAlert (ch : ChanId) (d : DieId) (s : State) : Host.Outcome State Fault Refusal :=
  .next (if ctrlOn s ch.val && !doomed (s.chan ch.val).i d.val then settle s (parityAlert ch.val d.val false s) else s)
def execFreqStepT1 (k : CluId) (s : State) : Host.Outcome State Fault Refusal := .next (settle s (stepT1 k.val s))
def execFreqStepT2 (k : CluId) (locked : Bool) (s : State) : Host.Outcome State Fault Refusal := .next (stepT2 k.val locked s)
def execFreqStepT3 (k : CluId) (trained : Bool) (s : State) : Host.Outcome State Fault Refusal := .next (settle s (stepT3 k.val trained s))
def execStepFail (k : CluId) (s : State) : Host.Outcome State Fault Refusal :=
  .next (if (s.clu k.val).stepTick = 1 ∨ (s.clu k.val).stepTick = 3 then settle s (stepFail k.val 16 s) else s)
def execClkCluster (k : CluId) (s : State) : Host.Outcome State Fault Refusal :=
  .next (if s.domOn (36 + k.val) && !s.ls.on then settle s (stepFail k.val 20 s) else s)
def execMergeFillReturn (ch : ChanId) (g : Nat) (errs : List SymErr) (s : State) : Host.Outcome State Fault Refusal :=
  .next (settle s (fillReturn ch.val g (granErrs g errs) s))
def execMergeEntryTimeout (ch : ChanId) (g : Nat) (errs : List SymErr) (s : State) : Host.Outcome State Fault Refusal :=
  .next (settle s (mergeTimeout ch.val g (granErrs g errs) s))
def execTsvLoopbackTest (ch : ChanId) (t : Fin 324) (fails : Bool) (dies : BitVec 16) (s : State) :
    Host.Outcome State Fault Refusal := .next (tsvLoopback ch.val t.val fails dies s)
def execMooringRoundEnd (ch : ChanId) (s : State) : Host.Outcome State Fault Refusal :=
  .next (if s.day.tick % 64 = 63 then settle s (mooringRound ch.val s) else s)

end Sys2Proof.Machine
end

