-- ==== Sys2Proof/Machine/Fuses.lean ====
section
/-! DEFINITION. The Light list as data: words at two margins, bank states, the critical bank and repair words (R395 to
R400, R405, R406, R416). -/

namespace Sys2Proof.Machine

/-- Words of bank `b` (R395). -/
def bankSize (b : Nat) : Nat := if b = 0 then 8 else 256
/-- The key of word `w` of bank `b`. -/
def fkey (b w : Nat) : Nat := 256 * b + w

/-- The word at normal and at the tightened margin (R397). -/
def Ll.normal (l : Ll) (b w : Nat) : Word64 := tget 0 l.fuse (fkey b w)
def Ll.marginal (l : Ll) (b w : Nat) : Word64 := tget 0 l.fuse (fkey b w) &&& ~~~(tget 0 l.weak (fkey b w))
def Ll.sh (l : Ll) (b w : Nat) : Word64 := tget 0 l.shadow (fkey b w)
def Ll.st (l : Ll) (b : Nat) : BankSt := tget .blank l.bank b

/-- `n` bits of a word from bit `lo`. -/
def wbits (w : Word64) (lo n : Nat) : Nat := w.toNat / 2 ^ lo % 2 ^ n

/-! ### Seals -/

/-- The seal word's MARK and CRC agree with the data words (R396, R398). -/
def sealValid (b : Nat) (rd : Nat → Word64) : Bool :=
  let n := bankSize b - 1
  wbits (rd n) 32 8 = 0xA5 && wbits (rd n) 0 32 = (crcWords ((List.range n).map rd)).toNat

def Ll.sealNormal (l : Ll) (b : Nat) : Bool := sealValid b (l.normal b)
def Ll.sealMargin (l : Ll) (b : Nat) : Bool := sealValid b (l.marginal b)

/-- The state of a bank at a sense (R398). -/
def Ll.sense (l : Ll) (b : Nat) : BankSt :=
  let n := bankSize b - 1
  if (List.range (bankSize b)).all (fun w => l.normal b w = 0) then .blank
  else
    let sealW := l.normal b n
    let locked := sealW.getLsbD 63
    if l.sealNormal b || l.sealMargin b then (if locked then .locked else .sealed)
    else if locked || wbits sealW 32 8 = 0xA5 then .invalid
    else .open_

/-- Words of a bank whose two reads differ (R397). -/
def Ll.weakOf (l : Ll) (b : Nat) : List Nat :=
  (List.range (bankSize b)).filter (fun w => l.normal b w ≠ l.marginal b w)

/-- The bank is in use from its margin reads (R398, R401, R404). -/
def Ll.useMargin (l : Ll) (b : Nat) : Bool := !l.sealNormal b && l.sealMargin b

/-- The shadow takes the reads of a bank that it uses (R401, R403); a word that reads 0 is not listed. -/
def Ll.load (l : Ll) (b : Nat) : Ll :=
  let rd := if l.useMargin b then l.marginal b else l.normal b
  let old := l.shadow.filter (fun x => x.1 / 256 ≠ b)
  { l with shadow := (List.range (bankSize b)).foldl (fun t w => if rd w = 0 then t else tset t (fkey b w) (rd w)) old }

/-- The free bank (R398); 0 when none remains, and before the bulk is sensed. -/
def Ll.freeBank (l : Ll) (bulk : Bool) : Nat :=
  if bulk then (((List.range 120).map (· + 9)).find? (fun b => l.st b = .blank)).getD 0 else 0

/-! ### The critical bank (R399, R416) -/

def Ll.serial (l : Ll) : Word64 := l.sh 0 0
def Ll.variant (l : Ll) : Nat := wbits (l.sh 0 1) 0 2
def Ll.stepping (l : Ll) : Nat := wbits (l.sh 0 1) 8 8
def Ll.keyRevoked (l : Ll) (k : Nat) : Bool := (l.sh 0 1).getLsbD (16 + k)
def Ll.minVersion (l : Ll) : Nat := wbits (l.sh 0 1) 20 16
def Ll.wdEn (l : Ll) : Bool := (l.sh 0 1).getLsbD 36
def Ll.kprDbg (l : Ll) : Bool := (l.sh 0 1).getLsbD 37
def Ll.bootHold (l : Ll) : Bool := (l.sh 0 1).getLsbD 38

/-- The lifecycle that a seal word of bank 0 gives (R416): 0 FACTORY, 1 INTEGRATOR, 2 FIELD. -/
def lifeOf (w : Word64) : Nat :=
  if w.getLsbD 41 || w.getLsbD 43 then 2 else if w.getLsbD 40 || w.getLsbD 42 then 1 else 0

/-! ### Repair words (R405, R406) -/

inductive Rep where
  | row (ch bank row spare : Nat)
  | col (ch bank col spare : Nat)
  | dataTsv (ch pos spare : Nat)
  | cmdTsv (ch tsv spare : Nat)
  | spareBad (ch bank : Nat) (column : Bool) (spare : Nat)
  deriving DecidableEq, Repr

def Rep.word : Rep → Word64
  | .row ch b r s => BitVec.ofNat 64 (1 + ch * 2 ^ 4 + b * 2 ^ 9 + r * 2 ^ 16 + s * 2 ^ 31)
  | .col ch b c s => BitVec.ofNat 64 (2 + ch * 2 ^ 4 + b * 2 ^ 9 + c * 2 ^ 16 + s * 2 ^ 23)
  | .dataTsv ch p s => BitVec.ofNat 64 (3 + ch * 2 ^ 4 + p * 2 ^ 9 + s * 2 ^ 18)
  | .cmdTsv ch t s => BitVec.ofNat 64 (4 + ch * 2 ^ 4 + t * 2 ^ 9 + s * 2 ^ 15)
  | .spareBad ch b c s => BitVec.ofNat 64 (5 + ch * 2 ^ 4 + b * 2 ^ 9 + c.toNat * 2 ^ 16 + s * 2 ^ 17)

/-- Every field is in its range (R405). -/
def Rep.inRange : Rep → Bool
  | .row _ _ r _ => r < 24576
  | .col .. => true
  | .dataTsv _ p _ => p < 272
  | .cmdTsv _ t _ => t < 36
  | .spareBad _ _ c s => !c || s < 4

/-- The repair that a non-empty word names; none where it is reserved, out of range or has a bit set that must be 0. -/
def parseRep (w : Word64) : Option Rep :=
  let f := wbits w
  let ch := f 4 5
  let r : Option Rep :=
    if f 0 4 = 1 then some (.row ch (f 9 7) (f 16 15) (f 31 5))
    else if f 0 4 = 2 then some (.col ch (f 9 7) (f 16 7) (f 23 2))
    else if f 0 4 = 3 then some (.dataTsv ch (f 9 9) (f 18 3))
    else if f 0 4 = 4 then some (.cmdTsv ch (f 9 6) (f 15 2))
    else if f 0 4 = 5 then some (.spareBad ch (f 9 7) (w.getLsbD 16) (f 17 5))
    else none
  match r with
  | some x => if x.word = w && x.inRange then some x else none
  | none => none

/-- The spare that a repair uses: its kind, channel, bank and number. -/
def Rep.spare : Rep → Nat × Nat × Nat × Nat
  | .row ch b _ s => (0, ch, b, s)
  | .col ch b _ s => (1, ch, b, s)
  | .dataTsv ch _ s => (2, ch, 0, s)
  | .cmdTsv ch _ s => (3, ch, 0, s)
  | .spareBad ch b c s => (c.toNat, ch, b, s)

/-- What a repair replaces. -/
def Rep.target : Rep → Nat × Nat × Nat × Nat
  | .row ch b r _ => (0, ch, b, r)
  | .col ch b c _ => (1, ch, b, c)
  | .dataTsv ch p _ => (2, ch, 0, p)
  | .cmdTsv ch t _ => (3, ch, 0, t)
  | .spareBad ch b c s => (4 + c.toNat, ch, b, s)

def Rep.isBad : Rep → Bool
  | .spareBad .. => true
  | _ => false

/-- The non-empty data words of banks 9 to 128 in one of the states `sts`, in ascending order, from the shadow. -/
def Ll.repWords (l : Ll) (sts : List BankSt) : List (Nat × Word64) :=
  l.shadow.filter (fun x => 256 * 9 ≤ x.1 && x.1 % 256 ≠ 255 && x.2 ≠ 0 && sts.contains (l.st (x.1 / 256)))

/-- The repair words in force, in order, and those ignored (R406).
DEDUCED, log entry 42. -/
def applyReps (ws : List (Nat × Word64)) : List (Nat × Rep) × List Nat :=
  let bad := (ws.filterMap (fun x => parseRep x.2)).filter Rep.isBad
  ws.foldl (fun acc x =>
    match parseRep x.2 with
    | none => (acc.1, acc.2 ++ [x.1])
    | some r =>
      if !r.isBad && (bad.any (fun b => b.spare = r.spare) ||
          acc.1.any (fun y => !y.2.isBad && y.2.spare = r.spare && y.2.target ≠ r.target)) then (acc.1, acc.2 ++ [x.1])
      else (acc.1 ++ [(x.1, r)], acc.2)) ([], [])

/-- The repairs in force, a later word replacing an earlier one of the same target. -/
def inForce (rs : List (Nat × Rep)) : List Rep :=
  (rs.filter (fun x => !(rs.any (fun y => x.1 < y.1 && x.2.target = y.2.target)))).map (·.2)

/-- The repairs in force: SEALED and LOCKED banks, and those withdrawn since start-up (R398, R406, R409). -/
def Ll.repairs (l : Ll) : List Rep :=
  inForce (applyReps ((l.repWords [.sealed, .locked, .withdrawn]).filter (fun x => !(l.gone.contains (x.1 / 256))))).1

/-- Spares of kind `kind` of the selected bank that some word names, in any bank that is not BLANK (R406); words of OPEN,
INVALID and WITHDRAWN banks count when they read the same at both margins. -/
def Ll.usedSpares (l : Ll) (kind : Nat) : List Nat :=
  (l.repWords [.open_, .sealed, .locked, .invalid, .withdrawn]).filterMap (fun x =>
    match parseRep x.2 with
    | some r =>
      let sure := l.st (x.1 / 256) = .sealed || l.st (x.1 / 256) = .locked || tget 0 l.weak x.1 &&& tget 0 l.fuse x.1 = 0
      if sure && r.spare.1 = kind && r.spare.2.1 = l.selCh && r.spare.2.2.1 = l.selBank then some r.spare.2.2.2 else none
    | none => none)

/-! ### Burning -/

/-- Bits are burned into a word (R397, R410): a verified word reads its bits at both margins; of one that is not verified each new
bit reads as it may (log entry 28). The shadow takes the value at the tightened margin.
DESIGN CHOICE, log entry 28. -/
def Ll.burnWord (l : Ll) (k : Nat) (bits g0 g1 : Word64) (ok : Bool) : Ll :=
  let old := tget 0 l.fuse k
  let oldM := old &&& ~~~(tget 0 l.weak k)
  let m := if ok then oldM ||| bits else oldM ||| (bits &&& g0)
  let n := old ||| m ||| (if ok then bits else bits &&& g1)
  { l with fuse := tset l.fuse k n, weak := tset l.weak k (n &&& ~~~m), shadow := tset l.shadow k m
           weakW := if n = m then l.weakW.filter (· ≠ k) else l.weakW }

/-- The bank's state after a burn: a blank bank becomes OPEN; a seal or lock is sensed (R398, R411, R412). -/
def Ll.resense (l : Ll) (b : Nat) (full : Bool) : Ll :=
  if full || l.st b = .blank || l.st b = .open_ then { l with bank := tset l.bank b (l.sense b) } else l

/-- A burn that is cut short (R410): of the word in progress any of the requested bits may have been burned. -/
def Ll.cutBurn (l : Ll) (g0 g1 : Word64) : Ll :=
  match l.burn with
  | some u =>
    match u.todo with
    | (w, bits) :: _ => ({ (l.burnWord (fkey u.bank w) bits g0 g1 false) with burn := none }).resense u.bank false
    | [] => { l with burn := none }
  | none => l

end Sys2Proof.Machine
end

