-- ==== Sys2Proof/Machine/Regs.lean ====
section
/-! DEFINITION. What every BAR0 register reads (R49, R59, R97, R133, R162, R204, R242, R283, R292, R293, R298, R299, R312, R331,
R352, R376, R394, R418, R453). `readReg s off` is `none` for a location that no chapter defines. -/

namespace Sys2Proof.Machine

/-- Half of a 64-bit pair. -/
def lo32 (n : Nat) : Word32 := BitVec.ofNat 32 n
def hi32 (n : Nat) : Word32 := BitVec.ofNat 32 (n / 2 ^ 32)
def cnt32 (n : Nat) : Word32 := BitVec.ofNat 32 n

/-- A signed number as a 64-bit two's complement pattern. -/
def tc64 (i : Int) : Nat := (BitVec.ofInt 64 i).toNat

/-! ### Derived values -/

/-- An 8-bit temperature field (R299): whole degrees rounded up, −127 to 127; 0x80 where not measured. -/
def tempCode (t : Option Rat) : Nat :=
  match t with
  | none => 0x80
  | some x => (BitVec.ofInt 8 (max (-127) (min 127 x.ceil))).toNat

/-- A sensor reading in degrees. -/
def deg (q : Int) : Rat := (q : Rat) / 4

/-- DIE_MAX (R383): the largest T_d of the last round. -/
def Lan.dieMax (l : Lan) : Option Rat :=
  (List.range 16).foldl (fun m d => match m, tget none l.eff d with
    | some a, some b => some (max a b)
    | none, x => x
    | x, none => x) none

/-- The hottest valid base sensor among `ss`. -/
def Lan.baseMax (l : Lan) (ss : List Nat) : Option Rat :=
  ss.foldl (fun m s => match tget none l.base s with
    | some q => if l.failBase.getLsbD s then m else some (match m with | some a => max a (deg q) | none => deg q)
    | none => m) none

/-- The level of R387 that TRIP_N asks for. -/
def Lan.tripLevel (l : Lan) : Nat := if l.tripAct then min l.floor 5 else 0
def Lan.ovrLevel (l : Lan) : Nat := match l.ovr with | some o => o.floor | none => 0
def Lan.tempLevel (l : Lan) : Nat := if l.enforcing then l.level else 0
/-- k of R387. -/
def Lan.k (l : Lan) : Nat := max l.tempLevel (max l.tripLevel l.ovrLevel)
/-- The throttle request is in force (R387). -/
def Lan.thr (l : Lan) : Bool := l.k ≠ 0 || l.req

/-- Cause `c` of lightship mode has cleared (R371, R389). -/
def causeCleared (s : State) (c : Nat) : Bool :=
  match c with
  | 1 => s.lan.cool100 ≥ 16 && !(s.lan.tripLs && s.lan.trip)
  | 2 => !s.flt.c3 && s.clk.framePll && s.clk.refclk
  | 3 => s.lan.supOk ≥ 4
  | 4 => !s.ls.c4
  | _ => true

/-- FLT_LS.IN_FORCE (R376): the causes raised since the last exit that have not cleared. -/
def inForceCauses (s : State) : BitVec 4 :=
  (List.range 4).foldl (fun w i =>
    if s.ls.raised.getLsbD i && !causeCleared s (i + 1) then w ||| (1#4 <<< i) else w) 0

/-- FLT_WORD (R357). -/
def fltWord (f : Flt) : BitVec 64 :=
  let capC3 := match f.cap with | some c => c.cls == .c3 | none => false
  (b1 f.fhPulsed ++ b1 f.lightship ++ b1 f.injected ++ b1 f.later ++ b1 f.c3 ++ b1 f.esc.isSome ++ b1 capC3
    ++ b1 f.cap.isSome ++ f.src).setWidth 64

def Cap.info (c : Cap) : Word32 :=
  fld c.src 0 ||| fld c.injected.toNat 7 ||| fld c.cls.rank 8 ||| fld c.inst 16

def capRead (c : Option Cap) (k : Nat) : Word32 :=
  match c with
  | none => 0
  | some c => match k with
    | 0 => c.info | 1 => c.tick | 2 => lo32 c.detail.toNat | _ => hi32 c.detail.toNat

/-- HV_TOP of the part (R50, R298). -/
def hvTopOf (s : State) : Nat := if s.tenderPart then 0x17F0000000 else 0x17F2000000

/-- Some port has relay enabled (R298). -/
def relayAny (s : State) : Bool := s.ports.any (fun x => x.2.rly.en)

/-- DCC_CAP_CH of channel `c` (R59, R60). -/
def capWord (s : State) (c : Nat) : Word32 :=
  if s.cluReady (cluOf c) then
    let i := (s.chan c).i
    fld (if i.retChan then 0xFFFF else i.retSlices.toNat) 0 ||| fld i.retChan.toNat 16 |||
      fld (!i.declared.isEmpty).toNat 17 ||| fld (decide ((erasedOf i).length ≥ 2)).toNat 18
  else 0

/-- Elements of a cluster that are out or relayed (R242 OUT), and streams with work (ACTIVE). -/
def tndOut (s : State) (t : Nat) : Nat := outstanding s t
def tndActive (s : State) (t : Nat) : Nat := ((s.tclu t).res.filter (fun r => r.run.isSome)).length

/-! ### Regions -/

/-- The Daymark's registers (R48). What FRAME reads in a tick counted from REFCLK or from the RC oscillator, for which no rule gives
frames, is the share of the tick that has passed, of 2,048.
DESIGN CHOICE, log entry 71. -/
def readDay (s : State) (o : Nat) : Option Word32 :=
  let d := s.day
  let c := if d.src = .pll then 2048 else if d.src = .ref then (if d.phase = 4 then 204 else 205) else (if d.phase = 4 then 52 else 51)
  match o with
  | 0x00 => some (lo32 d.tick) | 0x04 => some (hi32 (d.tick % 2 ^ 48))
  | 0x08 => some (lo32 d.tsNow.toNat) | 0x0C => some (hi32 d.tsNow.toNat)
  | 0x10 => some (fld (min 2047 (d.cyc * 2048 / c)) 0 ||| fld (decide (d.src = .ref)).toNat 16 ||| fld (decide (d.src = .rc)).toNat 17
      ||| fld d.aligned.toNat 18 ||| fld d.slewing.toNat 19 ||| fld d.uncertain.toNat 20)
  | 0x18 => some (lo32 d.rate) | 0x1C => some (hi32 d.rate)
  | 0x20 => some (fld d.servoEn.toNat 0 ||| fld d.stepEn.toNat 1 ||| fld d.periodExp 8)
  | 0x24 => some (fld d.ptm.seq.toNat 0 ||| fld d.ptmLastOk.toNat 16 ||| fld (d.ptm.bits.getLsbD 1).toNat 17)
  | 0x28 => some (lo32 (tc64 d.ptmOfs)) | 0x2C => some (hi32 (tc64 d.ptmOfs))
  | 0x40 => some (fld d.scrubChunks 0 ||| fld d.tsvBistEn.toNat 8 ||| fld d.laneBistEn.toNat 9)
  | 0x44 => some (cnt32 d.overrun)
  | 0x50 => some 0
  | _ => if 0x60 ≤ o ∧ o ≤ 0x7C then some (cnt32 (tget 0 d.late ((o - 0x60) / 4))) else none

def readSec (s : State) (o : Nat) : Option Word32 :=
  let x := s.sec
  if o ≤ 0x18 then some (fld (tget 512 x.port (o / 4)) 0 ||| fld (tget 2048 x.tnd (o / 4)) 10)
  else if 0x20 ≤ o ∧ o ≤ 0x38 then some (fld (tget 24576 x.stk ((o - 0x20) / 4)) 0)
  else if 0x40 ≤ o ∧ o ≤ 0x5C then
    let c := (o - 0x40) / 4
    some (fld (if c = 7 then 1 else x.p c) 0 ||| fld (x.effOf c) 4 ||| fld (x.guar c).toNat 7)
  else if o = 0x60 then some (fld x.hwm 0)
  else if o = 0x64 then some (fld x.dMin 0 ||| fld x.k 3 ||| fld x.nLive 6 ||| fld x.u 12)
  else if o = 0x68 then some (fld x.num 0 ||| fld x.den 8 |||
    fld (decide ((List.range 7).any (fun c => x.effOf c < x.p c))).toNat 16)
  else if o = 0x6C then some x.evt.word
  else if o = 0x70 then some (cnt32 x.holdCnt)
  else if 0x80 ≤ o ∧ o ≤ 0x9C then some (fld (tget 0 x.out ((o - 0x80) / 4)) 0)
  else if 0xA0 ≤ o ∧ o ≤ 0xDC then
    let n := tget 0 x.commit ((o - 0xA0) / 8)
    some (if o % 8 = 0 then lo32 n else hi32 n)
  else none

def MbSt.code : MbSt → Nat
  | .idle => 0 | .pending => 1 | .busy => 2 | .done => 3 | .dropped => 4

def State.mbx (s : State) (m : Nat) : Mbx := tget {} s.kpr.mbx m

def readMbx (x : Mbx) (o : Nat) : Option Word32 :=
  if o = 0 then some (fld x.cmd.toNat 0 ||| fld x.tag.toNat 16 ||| fld x.st.code 24 ||| fld x.lost.toNat 28)
  else if o = 4 then some (fld x.len.toNat 0 ||| fld x.superseded.toNat 6 ||| fld x.status.toNat 8 ||| fld x.seq.toNat 16)
  else if o = 8 then some x.effTick
  else if o ≤ 0xFC then some (tget 0 x.data ((o - 0x0C) / 4))
  else none

def KState.code : KState → Nat
  | .reset => 0 | .boot => 1 | .verify => 2 | .run => 3
def KCause.code : KCause → Nat
  | .none_ => 0 | .sramUe => 1 | .watchdog => 2 | .manager => 3 | .patch => 4

/-- The build of the Beleb ROM (R331). -/
def romVersion : Nat := 0x0103

def readKpr (s : State) (o : Nat) : Option Word32 :=
  let k := s.kpr
  match o with
  | 0xE00 => some (fld k.st.code 0)
  | 0xE04 => some (k.rst.word ||| fld k.cause.code 18 ||| fld k.injected.toNat 21)
  | 0xE08 => some (cnt32 k.rstCnt)
  | 0xE0C => some (fld k.remapFull.toNat 0 ||| fld k.lastMacro.toNat 16)
  | 0xE10 => some (cnt32 k.sramCe) | 0xE14 => some (cnt32 k.sramUe)
  | 0xE18 => some (fld romVersion 0 ||| fld k.patchVersion.toNat 16)
  | 0xE1C => some (fld k.patchActive.toNat 0 ||| fld k.patchLost.toNat 1 ||| fld k.keyId.toNat 2)
  | 0xE20 => some (lo32 k.wdLast) | 0xE24 => some (lo32 k.rstTick)
  | _ => none

/-- The ring is blocked (R336). -/
def ringBlocked (s : State) (fast : Bool) : Bool := !(s.bcn.ring fast).en || !s.pcie.mayDma

def readRing (s : State) (fast : Bool) (o : Nat) : Option Word32 :=
  let r := s.bcn.ring fast
  match o with
  | 0x00 => some (lo32 r.base.toNat) | 0x04 => some (hi32 r.base.toNat)
  | 0x08 => some (fld r.sizeW 0)
  | 0x0C => some (fld r.en.toNat 0 ||| fld r.wbEn.toNat 1)
  | 0x10 => some r.head | 0x14 => some r.tail
  | 0x18 => some (lo32 r.wb.toNat) | 0x1C => some (hi32 r.wb.toNat)
  | 0x20 => some r.next | 0x24 => some (cnt32 r.lost)
  | 0x28 => some r.evt.word
  | 0x2C => some (fld r.queue.length 0 ||| fld (ringBlocked s fast).toNat 7)
  | 0x30 => some (lo32 r.written) | 0x34 => some (hi32 r.written)
  | _ => none

/-- Bits of the level and edge sources that satisfy `f`. -/
def lsrcBits (s : State) (f : LSrc → Bool) : Nat :=
  (List.range 13).foldl (fun w l => if f (s.bcn.src l) then w + 2 ^ l else w) 0

/-- Instances of unit `u` (R343), for the mask table. -/
def unitInst (u i : Nat) : Bool :=
  match u with
  | 0x01 | 0x05 => i < 8
  | 0x02 | 0x03 | 0x04 => i < 32
  | 0x06 | 0x09 | 0x12 => i = 0
  | 0x07 | 0x08 => i < 4
  | 0x0A | 0x0D => i < 3
  | 0x0B => i < 56
  | 0x0C => i ≤ 1 || (0x10 ≤ i && i < 0x30) || (0x30 ≤ i && i < 0x3A)
  | 0x0E | 0x10 | 0x11 => i < 2
  | 0x0F => i < 48
  | _ => false

def readMask (s : State) (u w : Nat) : Word32 :=
  BitVec.ofNat 32 ((List.range 32).foldl (fun n i => if s.bcn.masked.contains (u, 32 * w + i) then n + 2 ^ i else n) 0)

def readBcn (s : State) (o : Nat) : Option Word32 :=
  if o < 0x40 then readRing s false o
  else if o = 0x40 then some (fld (lsrcBits s (·.active)) 0)
  else if o = 0x44 then some (fld s.bcn.pendSeq.toNat 0 ||| fld (lsrcBits s (·.pending)) 16)
  else if o = 0x48 then some (fld (lsrcBits s (·.quenched)) 0)
  else if 0x100 ≤ o ∧ o < 0x100 + 0x20 * 18 then some (readMask s ((o - 0x100) / 32 + 1) (o % 32 / 4))
  else none

/-- A part of the MSI-X table or the PBA (R278, R294). -/
def readMsix (s : State) (o : Nat) : Option Word32 :=
  if o < 0x80 then
    let e := tget {} s.pcie.msix (o / 16)
    some (match o % 16 with
      | 0 => lo32 e.addr.toNat | 4 => hi32 e.addr.toNat | 8 => e.data | _ => fld e.masked.toNat 0)
  else if o = 0x100 then some (fld s.pcie.pba.toNat 0)
  else if o = 0x104 then some 0
  else none

def readFlt (s : State) (o : Nat) : Option Word32 :=
  let f := s.flt
  match o with
  | 0x00 => some (lo32 (fltWord f).toNat) | 0x04 => some (hi32 (fltWord f).toNat)
  | 0x08 => some (fld f.clrSeq.toNat 0 ||| fld f.cap.isSome.toNat 16)
  | 0x10 => some (capRead f.cap 0) | 0x14 => some (capRead f.cap 1) | 0x18 => some (capRead f.cap 2) | 0x1C => some (capRead f.cap 3)
  | 0x20 => some (capRead f.esc 0) | 0x24 => some (capRead f.esc 1) | 0x28 => some (capRead f.esc 2) | 0x2C => some (capRead f.esc 3)
  | 0x30 => some (cnt32 f.laterCnt)
  | 0x40 => some (cnt32 (tget 0 f.cnt 0)) | 0x44 => some (cnt32 (tget 0 f.cnt 1))
  | 0x48 => some (cnt32 (tget 0 f.cnt 2)) | 0x4C => some (cnt32 (tget 0 f.cnt 3))
  | 0x50 => some 0
  | 0x58 => some (lo32 f.events) | 0x5C => some (hi32 f.events)
  | 0x60 => some (fld f.fhC2.toNat 0)
  | 0x64 => some (fld f.pulse.toNat 0 ||| fld f.drive.toNat 1 ||| fld (f.pulse || f.drive || f.extLow).toNat 2 ||| fld f.lastClass 3
      ||| fld f.pulses 8)
  | 0x68 => some (fld s.ls.raised.toNat 0 ||| fld (inForceCauses s).toNat 4 ||| fld s.ls.exitTick.toNat 16)
  | 0x6C => some (match f.inj with
      | some i => fld i.remaining 0 ||| fld i.checker 8 ||| fld i.unit 12 ||| fld i.two.toNat 20
      | none => 0)
  | _ => none

/-- Ticks of grace left (R394). -/
def graceLeft (s : State) : Nat := match s.lan.graceEnd with | some e => e - s.day.tick | none => 0

def readLan (s : State) (o : Nat) : Option Word32 :=
  let l := s.lan
  if o = 0x00 then some (fld (l.round % 65536) 0 ||| fld s.sec.k 16 ||| fld l.thr.toNat 19 ||| fld l.enforcing.toNat 20
      ||| fld l.trip.toNat 21 ||| fld l.ovr.isSome.toNat 22 ||| fld l.published.toNat 23)
  else if o = 0x04 then some (fld l.grace 0 ||| fld (graceLeft s) 16)
  else if o = 0x08 then some (fld l.floor 0 ||| fld l.tripLs.toNat 3)
  else if o = 0x0C then some (fld l.suspect.toNat 0)
  else if 0x10 ≤ o ∧ o ≤ 0x1C then
    some ((List.range 4).foldl (fun w b => w ||| fld (tget 0 l.agree (o - 0x10 + b)) (8 * b)) 0)
  else if o = 0x20 then some (lo32 l.failDie.toNat) else if o = 0x24 then some (hi32 l.failDie.toNat)
  else if o = 0x28 then some (fld l.failBase.toNat 0)
  else if o = 0x2C then some l.evt.word
  else if o = 0x30 then some ((List.range 8).foldl (fun w k => w ||| fld (s.clu k).limit (2 * k)) 0)
  else if o = 0x38 then some (lo32 l.rounds) else if o = 0x3C then some (hi32 l.rounds)
  else if o = 0x40 then some (lo32 l.thrTicks) else if o = 0x44 then some (hi32 l.thrTicks)
  else none

/-- KPR_READY (R298). -/
def readyWord (s : State) : Word32 := fld s.ready.toNat 0

def readId (s : State) (o : Nat) : Option Word32 :=
  let v := if s.tenderPart then 1 else 2
  match o with
  | 0x00 => some (fld 0x1696 0 ||| fld v 16 ||| fld s.ll.stepping 24)
  | 0x04 => some (fld s.tenderPart.toNat 0 ||| fld s.tenderPart.toNat 1 ||| fld s.tenderPart.toNat 2
      ||| fld (if s.tenderPart then 4 else 0) 3 ||| fld 1 6)
  | 0x08 => some (lo32 (hvTopOf s)) | 0x0C => some (hi32 (hvTopOf s))
  | 0x10 => some (fld s.stackId.toNat 0 ||| fld (relayAny s).toNat 12)
  | 0x14 => some (readyWord s)
  | 0x18 => some (portReady s)
  | 0x20 => some s.pcie.regErr.word
  | 0x24 => some s.pcie.regErrInfo
  | 0x28 => some (cnt32 s.pcie.regErrCnt)
  | 0x30 => some (lo32 s.pcie.b2Base.toNat) | 0x34 => some (hi32 s.pcie.b2Base.toNat)
  | 0x38 => some (fld s.pcie.b2En.toNat 0)
  | _ => none

def laneCode (l : Option Nat) : Nat := l.getD 0x7F
def LaneMap.word (m : LaneMap) (up : Bool) : Word32 :=
  fld (laneCode m.s0) 0 ||| fld m.s0Bad.toNat 7 ||| fld (laneCode m.s1) 8 ||| fld m.s1Bad.toNat 15 |||
    fld (if up then 0 else m.rev.toNat) 16

/-- GAL_FENCE (R133). -/
def fenceWord (f : Frames) : Word32 :=
  fld f.fenced.toNat 0 ||| fld f.fLink.toNat 1 ||| fld f.fFault.toNat 2 ||| fld f.fProto.toNat 3 ||| fld f.fMgr.toNat 4 |||
    fld f.fStack.toNat 5 ||| fld f.drained.toNat 6 ||| fld f.recovering.length 16

/-- The credit of class `c` as GAL_CRED shows it. -/
def credOf (f : Frames) (c : Nat) : Nat := tget 0 f.cred c

def readPort (s : State) (p o : Nat) : Option Word32 :=
  let x := s.port p
  let l := x.link
  let n := x.lane
  let f := x.fr
  let zs := fun (st : RtSt) => (x.rly.rtags.filter (fun t => t.2.st == st)).length
  match o with
  | 0x00 => some (galLink s p)
  | 0x04 => some (fld l.testEn.toNat 1)
  | 0x08 => some (fld l.upIdle 0 ||| fld l.upOccEn.toNat 16)
  | 0x10 => some (n.mapDn.word false) | 0x14 => some (n.mapUp.word true)
  | 0x18 => some n.force
  | 0x1C => some l.levt.word
  | 0x20 => some (cnt32 l.cntRetrain) | 0x24 => some (cnt32 l.cntRepair) | 0x28 => some (cnt32 l.cntLos) | 0x2C => some (cnt32 l.cntBskip)
  | 0x40 => some (fld n.pgMode 0 ||| fld n.pgLane 3)
  | 0x44 => some (fld (n.pcSync.getLsbD n.pgLane).toNat 0)
  | 0x48 => some (lo32 n.pcFail.toNat) | 0x4C => some (hi32 n.pcFail.toNat) | 0x50 => some (hi32 (n.pcFail.toNat / 2 ^ 32))
  | 0x54 => some (cnt32 (tget 0 n.pcErr n.pgLane))
  | 0x58 => some (lo32 (tget 0 n.pcBits n.pgLane)) | 0x5C => some (hi32 (tget 0 n.pcBits n.pgLane))
  | 0x60 => some (fld n.bistPos 0 ||| fld n.bistPass.toNat 8 ||| fld n.bistSkipped.toNat 9 ||| fld n.bistErrors 10)
  | 0x80 => some (fenceWord f)
  | 0x84 => some (fld (credOf f 0) 0 ||| fld (credOf f 1) 10) | 0x88 => some (fld (credOf f 2) 0 ||| fld (credOf f 3) 10)
  | 0x8C => some (fld (credOf f 4) 0 ||| fld (credOf f 5) 10) | 0x90 => some (fld (credOf f 6) 0)
  | 0x94 => some f.fevt.word
  | 0x98 => some (cnt32 f.cntCrc) | 0x9C => some (cnt32 f.cntReplay) | 0xA0 => some (cnt32 f.cntBadreq) | 0xA4 => some (cnt32 x.rly.cntTmo)
  | 0xA8 => some (fld x.rly.tmo 0 ||| fld x.rly.en.toNat 16)
  | 0xAC => some (fld x.rly.credit 0 ||| fld (zs .outstanding) 10 ||| fld (zs .zombie) 20)
  | 0xB0 => some f.framesDn | 0xB4 => some f.framesUp
  | 0xB8 => some (galErr s p)
  | _ =>
    if 0xC0 ≤ o ∧ o ≤ 0xFC then
      some (BitVec.ofNat 32 ((List.range 32).foldl (fun w i =>
        if (f.tag (8 * (o - 0xC0) + i)).outstanding then w + 2 ^ i else w) 0))
    else none

/-- The places in use by classes without a guarantee are at or above U (DCC_QSTAT.HWM). -/
def hwmBit (s : State) (c : Nat) : Bool := freeUsed s.sec (s.chan c).q ≥ s.sec.u

def readDcc (s : State) (k o : Nat) : Option Word32 :=
  let u := s.clu k
  if o < 0x10 then some (capWord s (4 * k + o / 4))
  else if o = 0x10 then some u.cap.word
  else if o = 0x20 then some (dccStat s k)
  else if o = 0x24 then some (fld u.wrHi 0 ||| fld u.wrLo 8 ||| fld u.predEn.toNat 15 ||| fld u.openMax 16 ||| fld u.srIdle 26)
  else if o = 0x28 then some (cnt32 u.stepCnt) else if o = 0x2C then some (cnt32 u.stepFail)
  else if o = 0x30 then some u.evt.word
  else if 0x100 ≤ o ∧ o < 0x200 then
    let c := 4 * k + (o - 0x100) / 0x40
    let q := (s.chan c).q
    match (o - 0x100) % 0x40 with
    | 0x00 => some (fld q.queue.length 0 ||| fld (q.queue.filter (fun e => e.op != .read)).length 8 ||| fld q.writeMode.toNat 16
        ||| fld (hwmBit s c).toNat 17)
    | 0x04 => some (fld q.doubled.toNat 0)
    | 0x08 => some (cnt32 q.parCnt) | 0x0C => some (cnt32 q.rfmCnt) | 0x10 => some (cnt32 q.rfmBlock)
    | 0x14 => some q.parInfo
    | 0x20 => some (lo32 q.cnt.act) | 0x24 => some (hi32 q.cnt.act)
    | 0x28 => some (lo32 q.cnt.col) | 0x2C => some (hi32 q.cnt.col)
    | 0x30 => some (lo32 q.cnt.hit) | 0x34 => some (hi32 q.cnt.hit)
    | _ => none
  else none

def readTnd (s : State) (o : Nat) : Option Word32 :=
  let live := fun (w : Word32) => if s.tenderPart then w else 0
  if o < 0x400 then
    let t := o / 0x100
    let u := s.tclu t
    match o % 0x100 with
    | 0x00 => some (live (fld (tndActive s t) 0 ||| fld (tndOut s t) 10))
    | 0x08 => some (live (lo32 u.elem)) | 0x0C => some (live (hi32 u.elem))
    | 0x10 => some (live (lo32 u.bytes)) | 0x14 => some (live (hi32 u.bytes))
    | 0x18 => some (live (lo32 u.relay)) | 0x1C => some (live (hi32 u.relay))
    | 0x20 => some (live (cnt32 u.skip)) | 0x24 => some (live (cnt32 u.stop))
    | _ => none
  else if o < 0x800 then
    match tget none s.regions ((o - 0x400) / 16) with
    | none => some 0
    | some r => some (match o % 16 with
      | 0 => lo32 r.base | 4 => hi32 r.base | 8 => fld r.pages 0
      | _ => fld (BitVec.ofInt 12 r.e).toNat 0 ||| fld 1 31)
  else none

def BankSt.code : BankSt → Nat
  | .blank => 0 | .open_ => 1 | .sealed => 2 | .locked => 3 | .invalid => 4 | .withdrawn => 5

def readLl (s : State) (o : Nat) : Option Word32 :=
  let l := s.ll
  let bulk := s.ready.getLsbD 14
  if o = 0x00 then some (fld (l.margin.contains 0).toNat 0 ||| fld (l.weakW.any (· < 256)).toNat 1 |||
      fld (decide (l.st 0 = .locked)).toNat 2 ||| fld bulk.toNat 3 ||| fld l.pass.toNat 4 ||| fld l.burn.isSome.toNat 5
      ||| fld (l.freeBank bulk) 8)
  else if o = 0x04 then some l.evt.word
  else if 0x10 ≤ o ∧ o ≤ 0x50 then
    some ((List.range 8).foldl (fun w j =>
      let b := 8 * ((o - 0x10) / 4) + j
      if b ≤ 128 then w ||| fld (l.st b).code (4 * j) ||| fld (l.weakW.any (fun k => k / 256 = b)).toNat (4 * j + 3) else w) 0)
  else if o = 0x60 then some (fld l.reBank 0 ||| fld l.reWord 8 ||| fld l.reMargin.toNat 16)
  else if o = 0x64 then some (cnt32 l.passTicks)
  else if o = 0x68 then some (lo32 l.passes) else if o = 0x6C then some (hi32 l.passes)
  else if o = 0x70 then some (cnt32 l.cntWeak) else if o = 0x74 then some (cnt32 l.cntDrift) else if o = 0x78 then some (cnt32 l.cntIgnored)
  else if o = 0x80 then some (fld l.selCh 0 ||| fld l.selBank 5)
  else if o = 0x84 then some (BitVec.ofNat 32 ((l.usedSpares 0).dedup.foldl (fun w i => w + 2 ^ i) 0))
  else if o = 0x88 then some (BitVec.ofNat 32 ((l.usedSpares 1).dedup.foldl (fun w i => w + 2 ^ i) 0))
  else none

/-- Units of the Watch groups (R451): absent from the part, in the field set. -/
def watchAbsent (s : State) (g : Nat) : Bool := !s.tenderPart && 0x240 ≤ g && g ≤ 0x27F
def fieldSet (g : Nat) : Bool := g ≤ 0xFF || (0x200 ≤ g && g ≤ 0x23F) || (0x300 ≤ g && g ≤ 0x33F)

/-- WCH_SEL.DRIVEN (R452). -/
def watchDriven (s : State) : Bool := s.wch.en && s.domOn 49 && !watchAbsent s s.wch.group

def readWch (s : State) (o : Nat) : Option Word32 :=
  let w := s.wch
  match o with
  | 0x00 => some (fld w.ptr 0 ||| fld w.paused.toNat 11)
  | 0x04 => some (fld w.lastGroup 0 ||| fld w.lastSkipped.toNat 11 ||| fld w.lastTested.toNat 12 ||| fld w.lastFailed.toNat 20)
  | 0x08 => some (cnt32 w.passTicks) | 0x0C => some (cnt32 w.skip) | 0x10 => some (cnt32 w.fail)
  | 0x18 => some (lo32 w.passes) | 0x1C => some (hi32 w.passes)
  | 0x20 => some (cnt32 w.lanePassTicks) | 0x24 => some (cnt32 w.laneSkip)
  | 0x28 => some (lo32 w.lanePasses) | 0x2C => some (hi32 w.lanePasses)
  | 0x40 => some (fld w.group 0 ||| fld w.en.toNat 10 ||| fld (watchDriven s).toNat 11)
  | 0x44 => some (fld w.ir.toNat 0 ||| fld w.acting.toNat 8)
  | 0x48 => some w.evt.word
  | _ => none

def readSnap (s : State) (o : Nat) : Option Word32 :=
  let ok : Bool := (0x08 ≤ o && o < 0x18) || (0x100 ≤ o && o < 0x5A0) || (0x600 ≤ o && o < 0x640)
  if o = 0 then some (fld s.snap.req.toNat 0)
  else if o = 4 then some (fld s.snap.seq.toNat 0)
  else if ok then
    let v := tget 0 s.snap.vals (o / 8 * 8)
    some (if o % 8 = 0 then lo32 v else hi32 v)
  else none

/-- The lamp registers (R299). -/
def readLamp (s : State) (o : Nat) : Option Word32 :=
  let l := s.lan
  match o with
  | 0x00 => some (fld 0x1696 0 ||| fld (if s.tenderPart then 1 else 2) 16 ||| fld s.ll.life 18 ||| fld s.stackId.toNat 20)
  | 0x04 => some (fld (if s.tenderPart then 98048 else 98080) 0)
  | 0x08 => some (lo32 (fltWord s.flt).toNat) | 0x0C => some (hi32 (fltWord s.flt).toNat)
  | 0x10 => some (readyWord s) | 0x14 => some (portReady s)
  | 0x18 => some (fld s.ls.on.toNat 0 ||| fld s.ls.cause 1 ||| fld (decide (s.kpr.st = .run)).toNat 4 ||| fld s.flt.c3.toNat 5
      ||| fld s.ls.entryTick.toNat 16)
  | 0x20 | 0x24 | 0x28 | 0x2C =>
    some ((List.range 4).foldl (fun w b => w ||| fld (tempCode (tget none l.eff (o - 0x20 + b))) (8 * b)) 0)
  | 0x30 => some (fld (tempCode (l.baseMax (List.range 12))) 0 ||| fld (tempCode l.dieMax) 8 ||| fld s.sec.k 16 ||| fld l.thr.toNat 19
      ||| fld (decide (l.suspect ≠ 0)).toNat 20)
  | 0x38 => some (lo32 s.day.tick) | 0x3C => some (hi32 (s.day.tick % 2 ^ 48))
  | _ => none

/-- What the register at BAR0 offset `off` reads (R283).
DESIGN CHOICE, log entry 19. -/
def readReg (s : State) (off : Nat) : Option Word32 :=
  if off % 4 ≠ 0 then none
  else if off < 0x100 then readId s off
  else if off < 0x200 then readDay s (off - 0x100)
  else if off < 0x400 then readSec s (off - 0x200)
  else if off < 0x800 then readMbx (s.mbx ((off - 0x400) / 0x100)) ((off - 0x400) % 0x100)
  else if off < 0x900 then readMbx (s.mbx 4) (off - 0x800)
  else if off < 0x1000 then readKpr s off
  else if off < 0x1400 then readBcn s (off - 0x1000)
  else if off < 0x1800 then readRing s true (off - 0x1400)
  else if off < 0x1A00 then readMsix s (off - 0x1800)
  else if 0x2000 ≤ off ∧ off < 0x3000 then readFlt s (off - 0x2000)
  else if 0x3000 ≤ off ∧ off < 0x4000 then readLan s (off - 0x3000)
  else if 0x4000 ≤ off ∧ off < 0x5000 then readSnap s (off - 0x4000)
  else if 0x8000 ≤ off ∧ off < 0xA000 then readPort s ((off - 0x8000) / 0x100) (off % 0x100)
  else if 0xC000 ≤ off ∧ off < 0xD000 then readDcc s ((off - 0xC000) / 0x200) (off % 0x200)
  else if 0xD000 ≤ off ∧ off < 0xE000 then readTnd s (off - 0xD000)
  else if 0xE000 ≤ off ∧ off < 0xF000 then readLl s (off - 0xE000)
  else if 0xF000 ≤ off ∧ off < 0xFF00 then readWch s (off - 0xF000)
  else if 0xFF00 ≤ off ∧ off < 0x10000 then readLamp s (off - 0xFF00)
  else none

/-! ### Snapshots (R292, R293) -/

/-- Every 64-bit counter with its offset in the holding bank; the 48-bit tick modulo 2^48 (log entry 71). -/
def counters (s : State) : List (Nat × Nat) :=
  [(0x08, s.day.tick % 2 ^ 48), (0x10, s.day.tsNow.toNat)] ++
  (List.range 32).map (fun p => (0x100 + 8 * p, tget 0 (s.port p).lane.pcBits (s.port p).lane.pgLane)) ++
  (List.range 32).flatMap (fun c =>
    let n := (s.chan c).q.cnt
    [(0x200 + 0x18 * c, n.act), (0x208 + 0x18 * c, n.col), (0x210 + 0x18 * c, n.hit)]) ++
  (List.range 8).map (fun c => (0x500 + 8 * c, tget 0 s.sec.commit c)) ++
  (List.range 4).flatMap (fun t =>
    let u := s.tclu t
    [(0x540 + 0x18 * t, u.elem), (0x548 + 0x18 * t, u.bytes), (0x550 + 0x18 * t, u.relay)]) ++
  [(0x600, s.bcn.normal.written), (0x608, s.bcn.fast.written), (0x610, s.flt.events), (0x618, s.lan.rounds),
   (0x620, s.lan.thrTicks), (0x628, s.ll.passes), (0x630, s.wch.passes), (0x638, s.wch.lanePasses)]

/-- The snapshot that the boundary takes where one was requested (R292). -/
def takeSnap (s : State) : State :=
  if s.snap.req then
    { s with snap := { seq := s.snap.seq + 1, req := false, vals := (counters s).filter (fun x => x.2 ≠ 0) } }
  else s

end Sys2Proof.Machine
end

