-- ==== Sys2Proof/Machine/Writes.lean ====
section
/-! DEFINITION. Writes to BAR0 registers (R7 to R9, R35 to R38, R133, R285 to R291, R314, R334, R339): what an accepted write
does at once, what it stages for the coming boundary, and what a staged value does there. -/

namespace Sys2Proof.Machine

/-! ### Status registers with SQ bits -/

/-- A write to the SQ register at `off` (R291). -/
def sqWrite (off : Nat) (v : Word32) (s : State) : State :=
  if off = 0x20 then s.modPcie (fun c => { c with regErr := c.regErr.write v })
  else if off = 0x124 then s.modDay (fun d => { d with ptm := d.ptm.write v })
  else if off = 0x26C then s.modSec (fun x => { x with evt := x.evt.write v })
  else if off = 0xE04 then { s with kpr := { s.kpr with rst := s.kpr.rst.write v } }
  else if off = 0x1028 then s.modBcn (fun b => { b with normal := { b.normal with evt := b.normal.evt.write v } })
  else if off = 0x1428 then s.modBcn (fun b => { b with fast := { b.fast with evt := b.fast.evt.write v } })
  else if off = 0x1044 then s.modBcn (fun b => { b with pendClr := b.pendClr || v.extractLsb' 0 16 == b.pendSeq })
  else if off = 0x2008 then s.modFlt (fun f => { f with clr := f.clr || v.extractLsb' 0 16 == f.clrSeq })
  else if off = 0x302C then { s with lan := { s.lan with evt := s.lan.evt.write v } }
  else if off = 0xE004 then { s with ll := { s.ll with evt := s.ll.evt.write v } }
  else if off = 0xF048 then { s with wch := { s.wch with evt := s.wch.evt.write v } }
  else if 0x8000 ≤ off ∧ off < 0xA000 ∧ off % 0x100 = 0x1C then
    s.modPort ((off - 0x8000) / 0x100) (fun x => { x with link := { x.link with levt := x.link.levt.write v } })
  else if 0x8000 ≤ off ∧ off < 0xA000 ∧ off % 0x100 = 0x94 then
    s.modPort ((off - 0x8000) / 0x100) (fun x => { x with fr := { x.fr with fevt := x.fr.fevt.write v } })
  else if 0xC000 ≤ off ∧ off < 0xD000 ∧ off % 0x200 = 0x10 then
    s.modClu ((off - 0xC000) / 0x200) (fun u => { u with cap := u.cap.write v })
  else if 0xC000 ≤ off ∧ off < 0xD000 ∧ off % 0x200 = 0x30 then
    s.modClu ((off - 0xC000) / 0x200) (fun u => { u with evt := u.evt.write v })
  else s

/-! ### Immediate writes -/

/-- A mailbox area is written in tick `tick` (R312 to R314). -/
def mbxWrite (tick o : Nat) (v : Word32) (x : Mbx) : Mbx :=
  if x.st = .pending ∨ x.st = .busy then { x with lost := true }
  else if o = 0 then
    let x := { x with cmd := v.extractLsb' 0 16, tag := v.extractLsb' 16 8 }
    if v.getLsbD 27 then { x with st := .pending, lost := false, sub := tick } else x
  else if o = 4 then { x with len := v.extractLsb' 0 6 }
  else if o = 8 then x
  else { x with data := tset x.data ((o - 0x0C) / 4) v }

def State.modMbx (s : State) (m : Nat) (f : Mbx → Mbx) : State :=
  { s with kpr := { s.kpr with mbx := tmod {} s.kpr.mbx m f } }

/-- Vector `v` is unmasked or may be sent again: a pending message goes out (R294). -/
def sendPending (c : Pcie) : Pcie :=
  if c.mayDma && c.msixEn && !c.fmask then
    (List.range 8).foldl (fun c v =>
      let e := tget {} c.msix v
      if c.pba.getLsbD v && !e.masked then { c with pba := c.pba &&& ~~~(1#8 <<< v), out := c.out ++ [.msi e.addr e.data] } else c) c
  else c

/-- A part of an MSI-X table entry is written (R294). -/
def msixWrite (o : Nat) (v : Word32) (c : Pcie) : Pcie :=
  sendPending { c with msix := tmod {} c.msix (o / 16) (fun e => match o % 16 with
    | 0 => { e with addr := e.addr.extractLsb' 32 32 ++ (v &&& 0xFFFFFFFC#32) }
    | 4 => { e with addr := v ++ e.addr.extractLsb' 0 32 }
    | 8 => { e with data := v }
    | _ => { e with masked := v.getLsbD 0 }) }

/-- A TAIL write (R338, R339). -/
def tailWrite (fast : Bool) (v : Word32) (s : State) : State :=
  let r := s.bcn.ring fast
  if (v - r.tail).toNat > (r.head - r.tail).toNat then
    s.modBcn (fun b => b.setRing fast { r with evt := r.evt.raise 2 })
  else
    let s := s.modBcn (fun b => b.setRing fast { r with tail := v })
    if r.head ≠ v then msi (if fast then 1 else 0) s else s

/-! ### Staged writes -/

/-- The RT registers of a ring. -/
def ringRT (o : Nat) : Bool := o = 0x00 || o = 0x04 || o = 0x08 || o = 0x0C || o = 0x18 || o = 0x1C

/-- A write to a ring configuration register (R334): discarded while EN in effect is 1, except to BCN_CTL. -/
def ringWrite (fast : Bool) (off o : Nat) (v : Word32) (s : State) : State :=
  if (s.bcn.ring fast).en && o ≠ 0x0C then
    s.modBcn (fun b => b.setRing fast { b.ring fast with evt := (b.ring fast).evt.raise 3 })
  else { s with staged := s.staged ++ [(off, v)] }

/-- A mask word is staged (R349, R350). -/
def maskWrite (u w : Nat) (v : Word32) (s : State) : State :=
  s.modBcn (fun b => { b with maskStaged := b.maskStaged ++
    (((List.range 32).filter (fun i => unitInst u (32 * w + i))).map (fun i => ((u, 32 * w + i), v.getLsbD i))) })

/-- The RT registers whose writes simply wait for the boundary (R8, R35). -/
def plainRT (off : Nat) : Bool :=
  off = 0x30 || off = 0x34 || off = 0x38 || off = 0x120 || off = 0x140 || off = 0x260 || off = 0x2060 || off = 0x3008 || off = 0xE080 ||
  (0x200 ≤ off && off ≤ 0x218) || (0x220 ≤ off && off ≤ 0x238) ||
  (0xC000 ≤ off && off < 0xD000 && off % 0x200 = 0x24) ||
  (0x8000 ≤ off && off < 0xA000 &&
    (off % 0x100 = 0x08 || off % 0x100 = 0x18 || (0x84 ≤ off % 0x100 && off % 0x100 ≤ 0x90) || off % 0x100 = 0xA8))

/-- A write of GAL_LINK_CTL (R71, R74): RETRAIN is remembered, TEST_EN staged. -/
def linkCtlWrite (off : Nat) (v : Word32) (s : State) : State :=
  let p := (off - 0x8000) / 0x100
  let s := if v.getLsbD 0 then s.modPort p (fun x => { x with link := { x.link with retrainReq := true } }) else s
  { s with staged := s.staged ++ [(off, v)] }

/-- A write of GAL_PG_CTL (R94, R97): a non-zero MODE outside TEST is discarded and TEST_REFUSED set. -/
def pgWrite (off : Nat) (v : Word32) (s : State) : State :=
  let p := (off - 0x8000) / 0x100
  if bitsOf v 0 3 ≠ 0 && (s.port p).link.lstate != .test then
    s.modPort p (fun x => { x with link := { x.link with levt := x.link.levt.raise 6 } })
  else
    let s := if v.getLsbD 10 then s.modPort p (fun x => { x with lane := { x.lane with pgClr := true } }) else s
    { s with staged := s.staged ++ [(off, v)] }

/-- A write of DAY_TS_RATE (R47): discarded while SERVO_EN in effect is 1. -/
def rateWrite (off : Nat) (v : Word32) (s : State) : State :=
  if s.day.servoEn then s else { s with staged := s.staged ++ [(off, v)] }

/-- An accepted write of `v` to the register at `off` (R289). A register without a writable field ignores it (R8). -/
def writeReg (off : Nat) (v : Word32) (s : State) : State :=
  if plainRT off then { s with staged := s.staged ++ [(off, v)] }
  else if off = 0x118 ∨ off = 0x11C then rateWrite off v s
  else if off = 0x150 then s.modDay (fun d => { d with lateClr := d.lateClr ||| v.extractLsb' 0 8, ovrClr := d.ovrClr || v.getLsbD 8 })
  else if off = 0x2050 then s.modFlt (fun f => { f with cntClr := f.cntClr ||| v.extractLsb' 0 4 })
  else if off = 0x4000 then (if v.getLsbD 0 then { s with snap := { s.snap with req := true } } else s)
  else if 0x400 ≤ off ∧ off < 0x800 then s.modMbx ((off - 0x400) / 0x100) (mbxWrite s.day.tick (off % 0x100) v)
  else if 0x800 ≤ off ∧ off < 0x900 then s.modMbx 4 (mbxWrite s.day.tick (off % 0x100) v)
  else if off = 0x1014 then tailWrite false v s
  else if off = 0x1414 then tailWrite true v s
  else if 0x1000 ≤ off ∧ off < 0x1020 ∧ ringRT (off - 0x1000) then ringWrite false off (off - 0x1000) v s
  else if 0x1400 ≤ off ∧ off < 0x1420 ∧ ringRT (off - 0x1400) then ringWrite true off (off - 0x1400) v s
  else if 0x1100 ≤ off ∧ off < 0x1100 + 0x20 * 18 then maskWrite ((off - 0x1100) / 32 + 1) (off % 32 / 4) v s
  else if 0x1800 ≤ off ∧ off < 0x1880 then s.modPcie (msixWrite (off - 0x1800) v)
  else if 0x8000 ≤ off ∧ off < 0xA000 ∧ off % 0x100 = 0x04 then linkCtlWrite off v s
  else if 0x8000 ≤ off ∧ off < 0xA000 ∧ off % 0x100 = 0x40 then pgWrite off v s
  else sqWrite off v s

/-! ### The bus -/

/-- 64-bit pairs (R285): the offset of the low half. -/
def isPair (s : State) (off : Nat) : Bool :=
  off % 8 = 0 && (readReg s off).isSome && (readReg s (off + 4)).isSome &&
  (off = 0x08 || off = 0x30 || off = 0x100 || off = 0x108 || off = 0x118 || off = 0x128 || (0x2A0 ≤ off && off < 0x2E0) ||
   ((0x1000 ≤ off && off < 0x1040 || 0x1400 ≤ off && off < 0x1440) && (off % 0x40 = 0 || off % 0x40 = 0x18 || off % 0x40 = 0x30)) ||
   (0x1800 ≤ off && off < 0x1880 && off % 16 = 0) || off = 0x1900 ||
   off = 0x2000 || off = 0x2018 || off = 0x2028 || off = 0x2058 || off = 0x3038 || off = 0x3040 ||
   (0x4008 ≤ off && off < 0x4640) ||
   (0x8000 ≤ off && off < 0xA000 && off % 0x100 = 0x58) ||
   (0xC000 ≤ off && off < 0xD000 && off % 0x200 ≥ 0x100 && off % 0x40 ≥ 0x20) ||
   (0xD000 ≤ off && off < 0xD400 && (off % 0x100 = 0x08 || off % 0x100 = 0x10 || off % 0x100 = 0x18)) ||
   (0xD400 ≤ off && off < 0xD800 && off % 16 = 0) ||
   off = 0xE068 || off = 0xF018 || off = 0xF028 || off = 0xFF08 || off = 0xFF38)

/-- The kinds of KPR_REG_ERR_INFO.KIND (R298). -/
inductive BusErr where
  | narrow | wide | unimpl | poisoned | b2Refused | b2Unavail
  deriving DecidableEq, Repr

def BusErr.code : BusErr → Nat
  | .narrow => 1 | .wide => 2 | .unimpl => 3 | .poisoned => 4 | .b2Refused => 5 | .b2Unavail => 6

/-- A request is refused and logged (R286, R288, R297, R298); `wr` and `bar2` say what it was, `off` where its first byte
lay. -/
def busLog (e : BusErr) (st : Cpl) (wr bar2 : Bool) (off be : Nat) (s : State) : State :=
  s.modPcie (fun c => { c with
    regErr := c.regErr.raise (e.code - 1)
    regErrInfo := fld (off % 2 ^ 20) 0 ||| fld bar2.toNat 20 ||| fld wr.toNat 21 ||| fld be 22 ||| fld e.code 26
    regErrCnt := satInc c.regErrCnt, cpl := st, aer := c.aer ++ [e.code]
    aerHdr := c.aerHdr.orElse (fun _ => some { bar2 := bar2, wr := wr, off := off, be := be }) })

/-- A request answered Unsupported Request that REG_ERR does not log (R279, R281, R286 row 1). -/
def busRefuse (wr bar2 : Bool) (off be : Nat) (s : State) : State :=
  s.modPcie (fun c => { c with
    cpl := .ur, aer := c.aer ++ [0], aerHdr := c.aerHdr.orElse (fun _ => some { bar2 := bar2, wr := wr, off := off, be := be }) })

/-- The function answers BAR accesses (R286 row 1). -/
def busOk (s : State) : Bool := s.pcie.mse && !s.pcie.d3hot

/-- The first enabled byte of a DW. -/
def firstByte (be : BitVec 4) : Nat :=
  if be.getLsbD 0 then 0 else if be.getLsbD 1 then 1 else if be.getLsbD 2 then 2 else if be.getLsbD 3 then 3 else 0

/-- A BAR0 write request (R286), or a request of a type that the function does not implement (R279).
DEDUCED, log entry 44. -/
def busWrite (w : Sys2Proof.BusWrite) (s : State) : State :=
  let be0 := w.be.headD 0
  let off := w.off / 4 * 4
  let log := fun (e : BusErr) (st : Cpl) => busLog e st true false (off + firstByte be0) be0.toNat s
  if w.other || !busOk s then busRefuse true false (off + firstByte be0) be0.toNat s
  else if w.words.length = 1 ∧ be0 = 0 then s.modPcie (fun c => { c with cpl := .success [] })
  else
    let adr := (List.range w.words.length).filter (fun i => w.be.getD i 0 ≠ 0)
    if w.words.length > 2 ∨ (w.words.length = 2 ∧ (adr ≠ [0, 1] ∨ !isPair s off)) then log .wide .ca
    else if adr.any (fun i => (readReg s (off + 4 * i)).isNone) then log .unimpl .ur
    else if w.poisoned then log .poisoned .poisoned
    else if adr.any (fun i => w.be.getD i 0 ≠ 0xF) then log .narrow .ca
    else
      (adr.foldl (fun s i => writeReg (off + 4 * i) (w.words.getD i 0) s) s).modPcie (fun c => { c with cpl := .success [] })

/-- A 4-byte write of one register, as the rows that name a register make it. -/
def regWrite (off : Nat) (v : Word32) (s : State) : State :=
  busWrite { off := off, words := [v], be := [0xF] } s

/-! ### Staged values at their boundary -/

def ringStage (fast : Bool) (o : Nat) (v : Word32) (b : Bcn) : Bcn :=
  let r := b.ring fast
  b.setRing fast (match o with
    | 0x00 => { r with base := r.base.extractLsb' 32 32 ++ (v &&& 0xFFFFF000#32) }
    | 0x04 => { r with base := v ++ r.base.extractLsb' 0 32 }
    | 0x08 => { r with sizeW := bitsOf v 0 5, log2 := max 6 (min (if fast then 12 else 16) (bitsOf v 0 5)) }
    | 0x18 => { r with wb := r.wb.extractLsb' 32 32 ++ (v &&& 0xFFFFFFF8#32) }
    | 0x1C => { r with wb := v ++ r.wb.extractLsb' 0 32 }
    | _ => r)

/-- BCN_CTL takes effect (R333, R334), after the other fields of its boundary. -/
def ringCtl (fast : Bool) (v : Word32) (s : State) : State :=
  let r := s.bcn.ring fast
  let r1 := { r with wbEn := v.getLsbD 1 }
  let align := max 4096 (32 * 2 ^ r.log2)
  let r2 :=
    if !v.getLsbD 0 then { r1 with en := false }
    else if r.en then r1
    else if r.base.toNat % align ≠ 0 then { r1 with evt := r1.evt.raise 3 }
    else { r1 with en := true, head := 0, tail := 0 }
  s.modBcn (fun b => b.setRing fast r2)

/-- The lowest and the highest rate (R47). -/
def rateMin : Nat := 0xFD70A3D7
def rateMax : Nat := 0x1028F5C28
def clampRate (r : Nat) : Nat := max rateMin (min rateMax r)

/-- One staged write of a register that stands alone takes effect (R35). -/
def applyRT (s : State) (w : Nat × Word32) : State :=
  let off := w.1
  let v := w.2
  if off = 0x30 then s.modPcie (fun c => { c with b2Base := c.b2Base.extractLsb' 32 32 ++ (v &&& 0xFFF00000#32) })
  else if off = 0x34 then s.modPcie (fun c => { c with b2Base := (v &&& 0x1F#32) ++ c.b2Base.extractLsb' 0 32 })
  else if off = 0x38 then s.modPcie (fun c => { c with b2En := v.getLsbD 0 })
  else if off = 0x118 then s.modDay (fun d => { d with rate := d.rate / 2 ^ 32 * 2 ^ 32 + v.toNat })
  else if off = 0x11C then s.modDay (fun d => { d with rate := d.rate % 2 ^ 32 + bitsOf v 0 8 * 2 ^ 32 })
  else if off = 0x120 then s.modDay (fun d => { d with servoEn := v.getLsbD 0, stepEn := v.getLsbD 1, periodExp := bitsOf v 8 4 })
  else if off = 0x140 then s.modDay (fun d => { d with scrubChunks := bitsOf v 0 5, tsvBistEn := v.getLsbD 8, laneBistEn := v.getLsbD 9 })
  else if off = 0x260 then s.modSec (fun x => { x with hwm := bitsOf v 0 7 })
  else if 0x220 ≤ off ∧ off ≤ 0x238 then s.modSec (fun x => { x with stk := tset x.stk ((off - 0x220) / 4) (bitsOf v 0 15) })
  else if off = 0x2060 then s.modFlt (fun f => { f with fhC2 := v.getLsbD 0 })
  else if off = 0x3008 then { s with lan := { s.lan with floor := bitsOf v 0 3, tripLs := v.getLsbD 3 } }
  else if off = 0xE080 then { s with ll := { s.ll with selCh := bitsOf v 0 5, selBank := bitsOf v 5 7 } }
  else if 0x1000 ≤ off ∧ off < 0x1020 then s.modBcn (ringStage false (off - 0x1000) v)
  else if 0x1400 ≤ off ∧ off < 0x1420 then s.modBcn (ringStage true (off - 0x1400) v)
  else if 0xC000 ≤ off ∧ off < 0xD000 then
    s.modClu ((off - 0xC000) / 0x200) (fun u => { u with
      wrHi := bitsOf v 0 7, wrLo := bitsOf v 8 7, predEn := v.getLsbD 15, openMax := bitsOf v 16 10, srIdle := bitsOf v 26 6 })
  else if 0x8000 ≤ off ∧ off < 0xA000 then
    s.modPort ((off - 0x8000) / 0x100) (fun x =>
      if off % 0x100 = 0x04 then { x with link := { x.link with testEn := v.getLsbD 1 } }
      else if off % 0x100 = 0x08 then { x with link := { x.link with upIdle := bitsOf v 0 16, upOccEn := v.getLsbD 16 } }
      else if off % 0x100 = 0x18 then { x with lane := { x.lane with force := v } }
      else if off % 0x100 = 0xA8 then { x with rly := { x.rly with tmo := bitsOf v 0 16 } }
      else x)
  else s

/-- The last staged value of a register (R9). -/
def lastStaged (st : List (Nat × Word32)) (off : Nat) : Option Word32 := (st.reverse.find? (fun w => w.1 = off)).map (·.2)

/-- GAL_PG_CTL of port `p` takes effect (R93, R94): another MODE starts its generators and checkers afresh. -/
def applyPg (st : List (Nat × Word32)) (p : Nat) (s : State) : State :=
  match lastStaged st (0x8000 + 0x100 * p + 0x40) with
  | none => s
  | some v => s.modPort p (fun x =>
      let l := if x.lane.pgMode = bitsOf v 0 3 then x.lane else x.lane.startMode (bitsOf v 0 3)
      { x with lane := { l with pgLane := bitsOf v 3 7 } })

/-- The credits of port `p` at the boundary (R111, R133): the written ones where all sum to 512 or less; on a change a CREDITS frame goes
out, and until its ACK the larger of the credits enforced so far and the new ones is enforced. -/
def applyCredits (st : List (Nat × Word32)) (p : Nat) (s : State) : State :=
  let at_ := fun (r : Nat) => lastStaged st (0x8000 + 0x100 * p + 0x84 + 4 * r)
  if (List.range 4).all (fun r => (at_ r).isNone) then s
  else
    let f := (s.port p).fr
    let new : List Nat := (List.range 7).map (fun c => match at_ (c / 2) with
      | some v => bitsOf v (10 * (c % 2)) 10
      | none => credOf f c)
    if new.foldl (fun a b => a + b) 0 > 512 then s.modPort p (fun x => { x with fr := { x.fr with fevt := x.fr.fevt.raise 5 } })
    else if new = (List.range 7).map (credOf f) then s
    else
      let active := (s.port p).link.lstate = .active
      let s := s.modPort p (fun x => { x with fr := { x.fr with
        credOld := (List.range 7).map (fun c => (c, x.fr.credit c)), cred := (List.range 7).map (fun c => (c, new.getD c 0)), credFrame := active } })
      if active then s.modPort p (fun x => x.send s.day.tick (.credits new)) else s

/-- Every staged value but the sector-class budgets, which R204 checks together, takes effect (R35 to R38). -/
def applyStaged (s : State) : State :=
  let st := s.staged
  let s := { s with staged := st.filter (fun w => 0x200 ≤ w.1 && w.1 ≤ 0x218) }
  let s := st.foldl applyRT s
  let s := if st.any (fun w => w.1 = 0x118 || w.1 = 0x11C) then s.modDay (fun d => { d with rate := clampRate d.rate }) else s
  let s := match lastStaged st 0x100C with | some v => ringCtl false v s | none => s
  let s := match lastStaged st 0x140C with | some v => ringCtl true v s | none => s
  if st.any (fun w => 0x8000 ≤ w.1 && w.1 < 0xA000) then (List.range 32).foldl (fun s p => applyCredits st p (applyPg st p s)) s else s

end Sys2Proof.Machine
end

