-- ==== Sys2Proof/Machine/Rows.lean ====
section
/-! DEFINITION. The rows that write a register, the Beacon rings' DMA, the collector and Foghorn (R74, R94, R97, R133, R291,
R292, R334 to R350, R354 to R365, R376). -/

namespace Sys2Proof.Machine

/-! ### Register writes -/

/-- The registers with SQ bits (R8). -/
def isSq (off : Nat) : Bool :=
  off = 0x20 || off = 0x124 || off = 0x26C || off = 0xE04 || off = 0x1028 || off = 0x1428 || off = 0x1044 || off = 0x2008 ||
  off = 0x302C || off = 0xE004 || off = 0xF048 ||
  (0x8000 ≤ off && off < 0xA000 && (off % 0x100 = 0x1C || off % 0x100 = 0x94)) ||
  (0xC000 ≤ off && off < 0xD000 && (off % 0x200 = 0x10 || off % 0x200 = 0x30))

/-- The offset of a mailbox area (R312). -/
def mbxOff (m : Nat) : Nat := if m = 4 then 0x800 else 0x400 + 0x100 * m

def ringReg (fast : Bool) (r : Sys2Proof.BcnReg) : Nat :=
  (if fast then 0x1400 else 0x1000) + (match r with
    | .baseLo => 0x00 | .baseHi => 0x04 | .size => 0x08 | .wbLo => 0x18 | .wbHi => 0x1C | .ctl => 0x0C)

def execRetrain (p : PortId) (v : Word32) (s : State) : Host.Outcome State Fault Refusal :=
  .next (regWrite (0x8004 + 0x100 * p.val) v s)
def execTestEn (p : PortId) (v : Word32) (s : State) : Host.Outcome State Fault Refusal :=
  .next (regWrite (0x8004 + 0x100 * p.val) v s)
def execGalPgCtlMode (p : PortId) (v : Word32) (s : State) : Host.Outcome State Fault Refusal :=
  .next (regWrite (0x8040 + 0x100 * p.val) v s)
def execGalPgCtlClr (p : PortId) (v : Word32) (s : State) : Host.Outcome State Fault Refusal :=
  .next (regWrite (0x8040 + 0x100 * p.val) v s)
def execGalCredWrite (p : PortId) (reg : Fin 4) (v : Word32) (s : State) : Host.Outcome State Fault Refusal :=
  .next (regWrite (0x8084 + 0x100 * p.val + 4 * reg.val) v s)
def execLateClr (v : Word32) (s : State) : Host.Outcome State Fault Refusal := .next (regWrite 0x150 v s)
def execOvrClr (v : Word32) (s : State) : Host.Outcome State Fault Refusal := .next (regWrite 0x150 v s)
def execDayTsRateWrite (hi : Bool) (v : Word32) (s : State) : Host.Outcome State Fault Refusal :=
  .next (regWrite (if hi then 0x11C else 0x118) v s)
def execFltClr (v : Word32) (s : State) : Host.Outcome State Fault Refusal := .next (regWrite 0x2008 v s)
def execFltCntClr (v : Word32) (s : State) : Host.Outcome State Fault Refusal := .next (regWrite 0x2050 v s)
def execSqClear (off : BitVec 16) (v : Word32) (s : State) : Host.Outcome State Fault Refusal :=
  .next (if isSq off.toNat then regWrite off.toNat v s else s)
def execBcnLsrcPend (v : Word32) (s : State) : Host.Outcome State Fault Refusal := .next (regWrite 0x1044 v s)
def execTail (fast : Bool) (v : Word32) (s : State) : Host.Outcome State Fault Refusal :=
  .next (regWrite (if fast then 0x1414 else 0x1014) v s)
def execBcnConfigWrite (fast : Bool) (r : Sys2Proof.BcnReg) (v : Word32) (s : State) : Host.Outcome State Fault Refusal :=
  .next (regWrite (ringReg fast r) v s)
def execBcnMask (unit : Fin 18) (w : Fin 8) (v : Word32) (s : State) : Host.Outcome State Fault Refusal :=
  .next (regWrite (0x1100 + 0x20 * unit.val + 4 * w.val) v s)
def execTrigger (v : Word32) (s : State) : Host.Outcome State Fault Refusal := .next (regWrite 0x4000 v s)
def execGo (m : Mb) (v : Word32) (s : State) : Host.Outcome State Fault Refusal := .next (regWrite (mbxOff m.val) v s)
def execBar0Write (w : Sys2Proof.BusWrite) (s : State) : Host.Outcome State Fault Refusal := .next (busWrite w s)

/-! ### Beacon DMA -/

/-- The 32 bytes of a record (R340). -/
def recBytes (x : Rec) : List (BitVec 8) :=
  leBytes 4 x.seq.toNat ++ leBytes 8 x.ts.toNat ++ leBytes 2 (x.unit * 256 + x.inst) ++
  leBytes 1 (x.cls.rank + 4 * x.level.toNat + 8 * x.quench.toNat + 16 * x.lostBefore.toNat + 32 * x.weak.toNat + 64 * x.edge.toNat) ++
  leBytes 1 x.edges ++ leBytes 4 (x.active.toNat + 65536 * x.tick) ++ leBytes 12 x.payload.toNat

/-- The record is the edge record of the tick in progress, completed only at its boundary (R348). -/
def edgeOpen (b : Bcn) (x : Rec) : Bool := x.edge && some x.seq == (b.src 1).edgeRec

/-- The ring can write its oldest queued record now (R335 to R337). -/
def canWrite (s : State) (fast : Bool) : Bool :=
  let r := s.bcn.ring fast
  !ringBlocked s fast && !r.full && (match r.queue with | x :: _ => !edgeOpen s.bcn x | [] => false)

/-- The oldest queued record of a ring is written, with its HEAD write-back (R333, R335, R337, R338). The fast ring's
records go ahead of the normal ring's. DEDUCED, log entry 41. -/
def recordWrite (fast : Bool) (s : State) : State :=
  if !canWrite s fast || (!fast && canWrite s true) then s
  else
    let r := s.bcn.ring fast
    match r.queue with
    | [] => s
    | x :: rest =>
      let x := { x with lostBefore := x.lostBefore || r.lostMark }
      let slot := r.head.toNat % r.size
      let was := r.head == r.tail
      let r2 := { r with queue := rest, head := r.head + 1, written := r.written + 1, lostMark := false }
      let s := s.modBcn (fun b => b.setRing fast r2)
      let s := s.modPcie (fun c => { c with out := c.out ++ [.write (r.base + BitVec.ofNat 64 (32 * slot)) (recBytes x)] ++
        (if r.wbEn then [.write r.wb (leBytes 4 r2.head.toNat ++ leBytes 4 (x.seq + 1).toNat)] else []) })
      if was then msi (if fast then 1 else 0) s else s

/-- The ring's oldest record has waited for as long as it may (R336): it was captured more than three ticks ago, and the ring has been able to
write since. -/
def writeDue (s : State) (fast : Bool) : Bool :=
  let r := s.bcn.ring fast
  canWrite s fast && r.shut + 4 ≤ s.day.tick &&
    (match r.queue with | x :: _ => 3 ≤ (s.day.tick % 65536 + 65536 - x.tick) % 65536 | [] => false)

/-- The records that must be written by the end of the tick and that no command of it wrote. -/
def writeRest : Nat → State → State
  | 0, s => s
  | fuel + 1, s =>
    if writeDue s true || writeDue s false then writeRest fuel (recordWrite (canWrite s true) s) else s

/-- The DMA at the end of a tick (R336). -/
def dmaTick (s : State) : State :=
  let s := writeRest 128 s
  let mark := fun (fast : Bool) (s : State) =>
    let r := s.bcn.ring fast
    if ringBlocked s fast || r.full then s.modBcn (fun b => b.setRing fast { r with shut := s.day.tick }) else s
  mark true (mark false s)

/-- A source that was active for 1,024 consecutive ticks is quenched (R347, R353). -/
def quench (l : Nat) (s : State) : State :=
  let y := s.bcn.src l
  if y.count ≥ 1024 && !y.quenched && !(s.bcn.masked.contains (lsrcOf l)) then
    s.modBcn (fun b =>
      let b := b.capture s.day (lsrcFast l) (lsrcRec l y true)
      { (b.modSrc l (fun z => { z with quenched := true })) with masked := lsrcOf l :: b.masked })
  else s

def execBeaconRecordWrite (fast : Bool) (s : State) : Host.Outcome State Fault Refusal := .next (recordWrite fast s)
def execQuench (l : Fin 13) (s : State) : Host.Outcome State Fault Refusal := .next (quench l.val s)

/-! ### The collector and Foghorn -/

/-- The class that the table of R356 gives a source; for a source of two classes, bit 63 of `info` chooses the graver.
DEDUCED, log entry 43. -/
def classOf (src : Nat) (info : BitVec 64) : Cls :=
  if src = 11 ∨ src = 13 ∨ src = 15 ∨ src = 31 then (if info.getLsbD 63 then .c2 else .c1)
  else if src = 30 ∨ src = 34 ∨ src = 35 then .c0
  else if [0, 1, 9, 17, 18, 21, 23, 24, 26, 41, 42, 47].contains src then .c1
  else if [19, 22, 29, 33, 38, 39, 46].contains src then .c3
  else .c2

end Sys2Proof.Machine
end

