-- ==== Sys2Proof/Machine/Mgmt.lean ====
section
/-! DEFINITION. The PCI Express function and its power states (R276 to R282, R294), the BAR2 window (R295 to R297), and the
events of R356 that arise outside the rows of other units. -/

namespace Sys2Proof.Machine

/-! ### Configuration space -/

/-- The form of a base address register (R276). -/
inductive BarForm where
  | mem64 (prefetchable : Bool) (size : Nat)
  | absent
  deriving DecidableEq, Repr

/-- The configuration header (R276). -/
structure CfgHeader where
  vendor : BitVec 16
  device : BitVec 16
  revision : BitVec 8
  subVendor : BitVec 16
  subsystem : BitVec 16
  classCode : BitVec 24
  headerType : BitVec 8
  bar0 : BarForm
  bar2 : BarForm
  bar4 : BarForm
  rom : BarForm
  intPin : BitVec 8
  deriving DecidableEq, Repr

/-- The link as the port can train it and reports it (R277): speeds in tenths of GT/s, the L1 exit latency in nanoseconds. -/
structure LinkCaps where
  speeds : List Nat := [25, 50, 80, 160, 320]
  widths : List Nat := [1, 2, 4]
  laneReversal : Bool := true
  polarityInversion : Bool := true
  commonClock : Bool := true
  separateClocks : Bool := false
  aspmL0s : Bool := false
  aspmL1 : Bool := true
  l1Substates : Bool := false
  l1ExitMin : Nat := 2000
  l1ExitMax : Nat := 4000
  deriving DecidableEq, Repr

/-- The capabilities of the configuration space (R278). -/
inductive CapKind where
  | powerManagement | msix | express | aer | serial | secondary | phy16 | phy32 | margining | ptm
  deriving DecidableEq, Repr

/-- What a configuration request is answered (R276 to R278, R282). -/
inductive CfgAns where
  | retry
  | config (header : CfgHeader) (link : LinkCaps) (caps : List (Nat × CapKind)) (serial : BitVec 64)
  deriving DecidableEq, Repr

def cfgHeader (s : State) : CfgHeader :=
  { vendor := 0x7E51, device := 0x1696, revision := BitVec.ofNat 8 s.ll.stepping, subVendor := 0x7E51
    subsystem := if s.tenderPart then 1 else 2, classCode := 0x058000, headerType := 0
    bar0 := .mem64 false (2 ^ 16), bar2 := .mem64 true (2 ^ 20), bar4 := .absent, rom := .absent, intPin := 0 }

/-- The capabilities in their order, with their offsets (R278). -/
def cfgCaps : List (Nat × CapKind) :=
  [(0x040, .powerManagement), (0x050, .msix), (0x070, .express), (0x100, .aer), (0x148, .serial), (0x158, .secondary), (0x170, .phy16),
   (0x1A0, .phy32), (0x1D0, .margining), (0x1F0, .ptm)]

/-- The link answers configuration requests once it is up: with Configuration Request Retry Status until the space is ready (R282). -/
def cfgAnswer (s : State) : Option CfgAns :=
  if !s.pcie.linkUp then none
  else if !s.pcie.cfgReady then some .retry
  else some (.config (cfgHeader s) {} cfgCaps s.ll.serial)

/-! ### The function -/

/-- The function's configuration space and MSI-X table return to their initial values (R281, R294, R298); sticky AER bits
stay, and posted BAR2 writes that were accepted are still performed. -/
def Pcie.reset (c : Pcie) : Pcie :=
  { c with linkUp := false, speed := 0, width := 0, b2 := c.b2.filter (·.wr), d3hot := false, mse := false, bme := false, msixEn := false, fmask := false, msix := [], pba := 0 }

/-- A hot reset of the function, or its link going down (R281). -/
def functionReset (s : State) : State := s.modPcie Pcie.reset

/-- The configuration space answers (R282). -/
def Pcie.cfgOk (c : Pcie) : Bool := c.linkUp && c.cfgReady

def execFunctionReset (s : State) : Host.Outcome State Fault Refusal := .next (functionReset s)
/-- R281: no BAR access is answered and nothing is sent in D3hot. -/
def execD3hot (s : State) : Host.Outcome State Fault Refusal :=
  .next (if s.pcie.cfgOk then s.modPcie (fun c => { c with d3hot := true }) else s)
/-- R281, R294: the state is preserved, and messages that became pending in D3hot are sent. -/
def execReturnToD0 (s : State) : Host.Outcome State Fault Refusal :=
  .next (if s.pcie.cfgOk then s.modPcie (fun c => sendPending { c with d3hot := false }) else s)
/-- R282, R402: the configuration space becomes ready while PERST_N is high and bank 0 has been accepted. -/
def execConfigurationReady (s : State) : Host.Outcome State Fault Refusal :=
  .next (if !s.pwr.perst && !s.pwr.held && s.ll.accepted && s.domOn 2 && s.domOn 3
    then s.modPcie (fun c => { c with cfgReady := true }) else s)
/-- R277, R336: the link trains at one of its speeds and widths, which needs MG_REFCLK and its domains.
DESIGN CHOICE, log entry 19: which of them is a free value. -/
def execManagementLinkUp (s : State) : Host.Outcome State Fault Refusal :=
  .next (if !s.pwr.perst && s.domOn 2 && s.domOn 3
    then { (s.modPcie (fun c => { c with
      linkUp := true
      speed := ({} : LinkCaps).speeds.getD (Config.linkSpeed s.free).val 0
      width := ({} : LinkCaps).widths.getD (Config.linkWidth s.free).val 0 })) with
        clk := { s.clk with mgref := true }, free := s.free + 1 } else s)
/-- R280, R286: a configuration write of the Command register. -/
def execBusMasterEnable (bme mse : Bool) (s : State) : Host.Outcome State Fault Refusal :=
  .next (if s.pcie.cfgOk then s.modPcie (fun c => sendPending { c with bme := bme, mse := mse }) else s)
/-- R294: a vector's mask bit is written through BAR0, then MSI-X Enable and the Function Mask in configuration space. -/
def execMsixUnmask (v : Fin 8) (masked en fmask : Bool) (s : State) : Host.Outcome State Fault Refusal :=
  let s1 := regWrite (0x180C + 16 * v.val) (fld masked.toNat 0) s
  .next (if s.pcie.cfgOk then s1.modPcie (fun c => sendPending { c with msixEn := en, fmask := fmask }) else s1)

/-! ### BAR2 -/

/-- Why R297 refuses a chunk of request `r`, in its order; `none` where the access is performed. -/
def bar2Check (s : State) (r : B2Req) (a : Nat) : Option Nat :=
  if !r.en then some 1
  else if a ≥ memTop then some 2
  else if r.wr && r.poisoned then some 3
  else if r.wr && hvTopOf s ≤ a then some 4
  else if !s.cluReady (cluOf (chanOf a)) || s.ls.on || s.flt.c3 then some 5
  else if retiredAt s a then some 6
  else none

/-- The blocks of `k` bytes that bytes `a` to `a + n - 1` touch, by their number. -/
def blocksOf (k a n : Nat) : List Nat :=
  if n = 0 then [] else (List.range ((a + n - 1) / k - a / k + 1)).map (fun i => a / k + i)

/-- The first row of R297 that applies to any chunk. -/
def bar2Row (s : State) (r : B2Req) : Option Nat :=
  let rows := (blocksOf 128 r.a r.n).filterMap (fun c => bar2Check s r (128 * c))
  (List.range 7).find? (fun k => rows.contains k)

def bar2Err (row : Nat) : BusErr :=
  match row with | 1 | 2 => .unimpl | 3 => .poisoned | 4 => .b2Refused | _ => .b2Unavail
def bar2Cpl (row : Nat) : Cpl :=
  match row with | 1 | 2 => .ur | 3 => .poisoned | _ => .ca

/-- The byte enables of the first DW of `n` bytes from offset `o`. -/
def firstBe (o : Nat) (en : Nat → Bool) (n : Nat) : Nat :=
  (List.range 4).foldl (fun w i => if o % 4 ≤ i && i - o % 4 < n && en (i - o % 4) then w + 2 ^ i else w) 0

def B2Req.firstBe (r : B2Req) : Nat := Machine.firstBe r.off (fun i => !r.wr || r.be.getD i false) r.n

/-- The write replaces byte `x` of the stack. -/
def B2Req.covers (r : B2Req) (x : Nat) : Bool := r.a ≤ x && x - r.a < r.n && r.be.getD (x - r.a) false

/-- A granule's bytes with the enabled ones of the write replaced. -/
def B2Req.lay (r : B2Req) (g : Nat) (old : List (BitVec 8)) : List (BitVec 8) :=
  (List.range 64).map (fun i => if r.covers (64 * g + i) then r.data.getD (64 * g + i - r.a) 0 else old.getD i 0)

/-- The granules of chunk `c` that the request touches: any byte of a read, an enabled byte of a write. -/
def B2Req.grans (r : B2Req) (c : Nat) : List Nat :=
  (blocksOf 64 r.a r.n).filter (fun g => g / 2 = c && (!r.wr || (List.range 64).any (fun i => r.covers (64 * g + i))))

/-- One chunk of a read (R296), as one class 7 request: both granules where it touches both. -/
def bar2ReadChunk (r : B2Req) (s : State) (c : Nat) : State × List GranRes :=
  match r.grans c with
  | [g] => let x := peekGran {} g s; (x.1, [x.2])
  | g :: _ => let x := peekChunk g s; (x.1, [x.2.1, x.2.2])
  | [] => (s, [])

/-- Whole 8-byte units `en` of granule `g` pass through the merge buffer (R168, R169): nothing is written where the fill shows poison. -/
def mergeUnits (g : Nat) (en : BitVec 8) (data : List (BitVec 8)) (s : State) : State :=
  let ch := chanOf (64 * g)
  let s :=
    if ((s.chan ch).i.mergeOf g).isSome then s
    else
      let s : State := match (s.chan ch).i.merge with
        | o :: _ => if 64 ≤ (s.chan ch).i.merge.length && o.fill = Fill.waiting then fillReturn ch o.gran [] s else s
        | [] => s
      let s := mergeRoom ch s
      if (s.chan ch).i.merge.length < 64 then s.modInteg ch (fun i => { i with
        merge := i.merge ++ [{ gran := g, born := i.mergeNext, data := List.replicate 64 0 }], mergeNext := i.mergeNext + 1 })
      else s
  let s : State := match (s.chan ch).i.mergeOf g with
    | some m => if m.fill = Fill.waiting then fillReturn ch g [] s else s
    | none => s
  match (s.chan ch).i.mergeOf g with
  | some m =>
    match m.fill with
    | .base .. =>
      let m := { m with data := layUnits en data m.data, cover := m.cover ||| en }
      if m.cover = 0xFF then mergeEnd ch m s else s.modInteg ch (fun i => i.putMerge m)
    | _ => s
  | none => s

/-- Unit `u` of granule `g` is replaced by one access that changes only the enabled bytes (R18, R296). -/
def patchUnit (r : B2Req) (g u : Nat) (s : State) : State :=
  let x := takeGran true g s
  match x.2 with
  | .data d =>
    let new := r.lay g d
    if ((x.1.chan (chanOf (64 * g))).i.mergeOf g).isSome then mergeUnits g (1#8 <<< u) new x.1
    else ownWrite g (some (layUnits (1#8 <<< u) new d)) x.1
  | _ => x.1

/-- A write reaches granule `g` (R296): a whole granule is replaced, whole units of a part of one are merged, and a partly enabled unit is
changed in place. -/
def bar2Gran (r : B2Req) (s : State) (g : Nat) : State :=
  let s := drainOn (chanOf (64 * g)) g s
  let bytes := fun (u : Nat) => (List.range 8).map (fun i => r.covers (64 * g + 8 * u + i))
  let full := (List.range 8).foldl (fun (w : BitVec 8) u => if (bytes u).all id then w ||| (1#8 <<< u) else w) 0
  if full = 0xFF then layGran true g (some (r.lay g [])) s
  else
    let s := if full = 0 then s else mergeUnits g full (r.lay g []) s
    ((List.range 8).filter (fun u => (bytes u).any id && !full.getLsbD u)).foldl (fun s u => patchUnit r g u s) s

/-- One chunk of a write, as one class 7 request. -/
def bar2WriteChunk (r : B2Req) (s : State) (c : Nat) : State :=
  match r.grans c with
  | [] => s
  | g :: gs => (ownAccess {} g (fun s => ((g :: gs).foldl (bar2Gran r) s, ())) s).1

/-- The class 7 requests of `r` can be committed and issue now (R155, R191). -/
def bar2May (s : State) (r : B2Req) : Bool := (blocksOf 128 r.a r.n).all (fun c => (r.grans c).all (ownMay s {}))

/-- A BAR2 request whose turn has come (R295 to R297): poisoned and uncorrectable granules read as zero bytes in a completion marked EP. -/
def bar2Serve (r : B2Req) (s : State) : State :=
  match bar2Row s r with
  | some k => busLog (bar2Err k) (bar2Cpl k) r.wr true r.off r.firstBe s
  | none =>
    if r.wr then ((blocksOf 128 r.a r.n).foldl (bar2WriteChunk r) s).modPcie (fun c => { c with cpl := .success [] })
    else
      let x := (blocksOf 128 r.a r.n).foldl (fun (acc : State × List GranRes) c =>
        let y := bar2ReadChunk r acc.1 c
        (y.1, acc.2 ++ y.2)) (s, [])
      let data := ((x.2.flatMap (fun v => match v with | .data d => d | _ => poisonData)).drop (r.a % 64)).take r.n
      let bad := x.2.any (fun v => match v with | .data _ => false | _ => true)
      x.1.modPcie (fun c => { c with cpl := if bad then .ep data else .success data })

/-- The requests of the BAR2 stream are performed in their order (R296); one that must reach a cluster in a frequency step waits (R155).
DESIGN CHOICE, log entry 54. -/
def bar2Stream : Nat → State → State
  | 0, s => s
  | fuel + 1, s =>
    match s.pcie.b2 with
    | [] => s
    | r :: rest =>
      if (bar2Row s r).isSome || bar2May s r then bar2Stream fuel (bar2Serve r (s.modPcie (fun c => { c with b2 := rest }))) else s

/-- A BAR2 request is accepted (R295). -/
def bar2Accept (r : B2Req) (s : State) : State :=
  if !busOk s then busRefuse r.wr true r.off r.firstBe s
  else bar2Stream (s.pcie.b2.length + 1) (s.modPcie (fun c => { c with b2 := c.b2 ++ [r] }))

/-- A BAR2 request at offset `o` of the window, against BASE and EN in effect (R295). -/
def bar2Req (s : State) (o n : Nat) : B2Req :=
  { wr := false, en := s.pcie.b2En, a := s.pcie.b2Base.toNat + o % 2 ^ 20, off := o % 2 ^ 20, n := n }

def execBar2Read (o n : Nat) (s : State) : Host.Outcome State Fault Refusal := .next (settle s (bar2Accept (bar2Req s o n) s))
def execBar2Write (o : Nat) (data : List Byte) (be : List Bool) (poisoned : Bool) (s : State) :
    Host.Outcome State Fault Refusal :=
  .next (settle s (bar2Accept { bar2Req s o data.length with wr := true, data := data, be := be, poisoned := poisoned } s))

/-! ### Fault events -/

/-- A parity error on the link of channel `ch` (R356 XBAR_CHAN): the request of number `id` completes POISON with DETAIL
bit 2. -/
def xbarChan (ch id : Nat) (s : State) : State :=
  let q := (s.chan ch).q
  match (q.link ++ q.queue).find? (fun e => e.id = id) with
  | none => s
  | some e =>
    let bad := { e with poisonBits := e.poisonBits ||| e.need, unc := true }
    (s.modSched ch (fun q => { q with
      link := q.link.filter (fun x => x.id ≠ id), queue := q.queue.filter (fun x => x.id ≠ id)
      done := q.done ++ [{ e := bad, how := .performed }] })) |> releasePlace ch e.cls |> leaveQueue ch

/-- A parity error on a link of Tender cluster `t` (R356): the stream stops with cause POISON at its oldest element. -/
def xbarTender (t n : Nat) (s : State) : State :=
  match resident s n with
  | some (u, r) =>
    if u ≠ t then s
    else match r.run with
      | some run => match run.els with | e :: _ => elFail t n e cPOISON (BitVec.ofNat 64 1) s | [] => s
      | none => s
  | none => s

/-- The own reaction of the unit to a fault that arises inside it (R356). `info` gives the failing storage address in its low
half and in bits 63:32 the request, the stream or the cached entry concerned. -/
def unitReaction (src inst : Nat) (info : BitVec 64) (s : State) : State :=
  let x := (info.extractLsb' 32 31).toNat
  if (src = 6 ∨ src = 7) ∧ inst < 32 then fencePort inst .fault s
  else if src = 8 then (if inst < 32 then xbarChan inst x s else xbarTender (inst - 32) x s)
  else if src = 23 then s.modTnd (fun t => { t with tlb := t.tlb.eraseIdx (x % max 1 t.tlb.length) })
  else if src = 25 then loseContext x s
  else if src = 44 then functionReset s
  else if src = 47 then { s with wch := s.wch.uncoverAll (fun _ => true) }
  else s

/-- DETAIL of an event (R356): of a source with a record of its own that record's payload, which for the ports and clusters copies registers and
for the others is the operand's; the AER status for the PCIE sources, the failing storage address for SRAM and parity sources; otherwise 0. -/
def eventDetail (s : State) (src inst : Nat) (info : BitVec 64) : BitVec 64 :=
  if src = 1 ∨ src = 2 then payloadSoon s (.galLink inst)
  else if src = 3 then payloadSoon s (.galLink (8 * inst))
  else if src = 0 ∨ src = 4 ∨ src = 5 then payloadSoon s (.galFrame inst)
  else if src = 15 then payloadSoon s (.dccCluster (cluOf inst))
  else if src = 16 then payloadSoon s (.dccCluster inst)
  else if src = 28 then 2
  else if [26, 27].contains src ∨ ownRecord src then info &&& 0x7FFFFFFFFFFFFFFF#64
  else if [6, 7, 8, 18, 19, 21, 22, 23, 24, 25, 42, 43, 44, 46].contains src then info &&& 0xFFFFFFFF#64
  else 0

/-- The instances that the table of R356 gives a source. -/
def faultInst (src : Nat) : Nat :=
  if src ≤ 2 ∨ (4 ≤ src ∧ src ≤ 7) then 32
  else if src = 3 ∨ src = 21 ∨ src = 22 ∨ src = 24 ∨ src = 25 then 4
  else if src = 8 then 36
  else if 9 ≤ src ∧ src ≤ 15 ∨ 17 ≤ src ∧ src ≤ 19 then 32
  else if src = 16 ∨ src = 20 then 8
  else if src = 26 ∨ src = 27 then 16
  else if 30 ≤ src ∧ src ≤ 32 then 129
  else if src = 34 then 28
  else if src = 36 then 17
  else if src = 37 then 10
  else if src = 45 then 50
  else 1

/-- Sources and instances of units that a -N part does not have, which never fire (R3, R17, R427). -/
def absentSrc (src inst : Nat) : Bool :=
  (21 ≤ src && src ≤ 25) || (src = 8 && 32 ≤ inst) || (src = 45 && 44 ≤ inst && inst ≤ 48)

/-- An event of one of the 48 sources reaches the collector (R355, R356, R358), after the own reaction of its unit. -/
def faultEvent (src inst : Nat) (info : BitVec 64) (s : State) : State :=
  if src < 48 ∧ inst < faultInst src ∧ (s.tenderPart ∨ !absentSrc src inst) then raise src inst (classOf src info) (eventDetail s src inst info) (unitReaction src inst info s)
  else s

def execFaultEvent (src : Fin 56) (inst : BitVec 8) (info : BitVec 64) (s : State) : Host.Outcome State Fault Refusal :=
  .next (settle s (faultEvent src.val inst.toNat info s))

/-! ### Clocks -/

/-- REFCLK is lost (R29, R356): C3. -/
def execClkRef (s : State) : Host.Outcome State Fault Refusal :=
  .next (if s.clk.refclk then settle s (raise 39 0 .c3 0 { s with clk := { s.clk with refclk := false } }) else s)
/-- REFCLK returns (R29, R70): a PLL that lost its lock may show it again from here on. -/
def execRefclkReturn (s : State) : Host.Outcome State Fault Refusal :=
  .next { s with clk := { s.clk with
    refclk := true, frameFrom := s.day.tick
    quadFrom := (List.range 4).foldl (fun t q => tset t q (max (tget 0 t q) s.day.tick)) s.clk.quadFrom } }
/-- MG_REFCLK is lost (R356): C2, and the management link goes down (R281). -/
def execClkMgref (s : State) : Host.Outcome State Fault Refusal :=
  .next (if s.clk.mgref then settle s (functionReset (raise 40 0 .c2 0 { s with clk := { s.clk with mgref := false } })) else s)

/-! ### Foghorn -/

/-- Beleb's rule for DRIVE (R365): while the word holds a C3 capture, no pulse runs and no FOGHORN_DRIVE holds precedence. -/
def foghornRule (s : State) : State :=
  if s.kpr.st = .run && !s.flt.driveHeld && !s.flt.pulse then s.modFlt (fun f => { f with drive := f.c3 }) else s

/-- A pulse reaches its length (R363, R365). -/
def pulseEnd (s : State) : State :=
  if s.flt.pulse then
    let s := s.modFlt (fun f => { f with pulse := false, pulseC3 := false })
    if s.flt.c3 then foghornRule s else s
  else s

def execFoghornPulseEnd (s : State) : Host.Outcome State Fault Refusal := .next (pulseEnd s)
/-- Another stack pulls or releases the shared line (R462). -/
def execFhNLevel (low : Bool) (s : State) : Host.Outcome State Fault Refusal :=
  .next (s.modFlt (fun f => { f with extLow := low }))

end Sys2Proof.Machine
end

