-- ==== Sys2Proof/Machine/Lantern.lean ====
section
/-! DEFINITION. Lantern (R377 to R392), the effective place counts (R200, R201) and throttling (R202, R385 to R387). -/

namespace Sys2Proof.Machine

def State.modLan (s : State) (f : Lan → Lan) : State := { s with lan := f s.lan }

/-! ### Records -/

/-- The payload of a LANTERN record (R392). -/
def lanPay (s : State) (temp : Nat) (where_ : Nat) (crit : Bool) (extra : Nat) : BitVec 96 :=
  let l := s.lan
  BitVec.ofNat 96 (temp + where_ * 2 ^ 8 + s.sec.k * 2 ^ 13 + l.thr.toNat * 2 ^ 16 + l.enforcing.toNat * 2 ^ 17 + l.trip.toNat * 2 ^ 18
    + l.ovr.isSome.toNat * 2 ^ 19 + crit.toNat * 2 ^ 20 + l.round % 2 ^ 32 * 2 ^ 32 + extra % 2 ^ 32 * 2 ^ 64)

/-- A LANTERN record, class C0 (R343, R392). -/
def lanRec (inst : Nat) (pay : BitVec 96) (s : State) : State :=
  emit { unit := 0x0C, inst := inst, cls := .c0, fast := inst ≤ 1, payload := .value pay } s

def lanEvt (b : Nat) (s : State) : State := s.modLan (fun l => { l with evt := l.evt.raise b })

/-- A level source of Lantern takes a state and the payload of its records (R391, R392). -/
def lanLevel (l : Nat) (on : Bool) (pay : BitVec 96) (s : State) : State :=
  s.modBcn (fun b => lsrcSet s.day l on (b.modSrc l (fun y => { y with payload := pay })))

/-! ### Effective place counts -/

/-- The payload field of EFF or PREV (R201). -/
def effField (e : List Nat) : Nat := (List.range 7).foldl (fun n c => n + e.getD c 0 % 8 * 2 ^ (3 * c)) 0

/-- A frequency step lowered D_MIN at this boundary (R201): a cluster that was ready stands at a slower effective step, whose D is the new
minimum. -/
def stepLowered (x : Sec) (dMin : Nat) (s : State) : Bool :=
  dMin < x.dMin && (List.range 8).any (fun k =>
    s.cluReady k && x.seenReady.getLsbD k && tget 0 x.seenStep k < (s.clu k).effStep && dOf (s.clu k).effStep ≤ dMin)

/-- EFF is computed anew (R200), with a SEC_SCALE record where a class's effective count differs (R201). -/
def effRecompute (s : State) : State :=
  let x := s.sec
  let live := liveCounts s
  let prev := (List.range 7).map (fun c => tget 0 x.eff c)
  let r := effCompute ((List.range 7).map x.p) live.1 x.k
  let ready8 := s.ready.extractLsb' 0 8
  let cause := if x.admitted then 3 else if x.seenK ≠ x.k then 1
    else if stepLowered x live.1 s then 0 else if ready8 ≠ x.seenReady then 2 else 4
  let changed := r.1 != prev
  let steps := (List.range 8).map (fun k => (k, (s.clu k).effStep))
  let s := s.modSec (fun x => { x with
    eff := (List.range 7).map (fun c => (c, r.1.getD c 0)), num := r.2.1, den := r.2.2, dMin := live.1, nLive := live.2
    admitted := false, seenReady := ready8, seenK := x.k, seenStep := steps })
  let s := if changed then
      emit { unit := 0x06, inst := 0, cls := .c0, payload := .value (BitVec.ofNat 96 (r.2.1 % 256 + r.2.2 % 256 * 2 ^ 8
        + live.1 * 2 ^ 16 + x.k * 2 ^ 19 + cause * 2 ^ 22 + effField r.1 * 2 ^ 32 + effField prev * 2 ^ 64)) }
        (s.modSec (fun x => { x with evt := x.evt.raise 0 }))
    else s
  (List.range 32).foldl (fun s ch => refreshHolds ch s) s

/-! ### What Lantern's decisions change -/

/-- k takes its value (R387), with a THR_LEVEL record at each change; `first` marks the first enforcement of a request. -/
def setLevel (first : Bool) (s : State) : State :=
  let prev := s.sec.k
  let k := s.lan.k
  if k = prev then s
  else
    let s := s.modSec (fun x => { x with k := k, evt := x.evt.raise 3 })
    lanRec 0x01 (lanPay s (tempCode s.lan.dieMax) 0x1F false (prev + first.toNat * 8)) (lanEvt 1 s)

/-- The level source THROTTLE_REQ follows the request in force (R385, R387). -/
def setThr (s : State) : State :=
  if s.lan.thr = (s.bcn.src 2).active then s
  else lanLevel 2 s.lan.thr (lanPay s (tempCode s.lan.dieMax) 0x1F false (if s.lan.req then s.lan.graceUsed else s.lan.grace)) s

/-- The dies whose refresh is doubled, by Lantern or the override (R146, R326, R383), reach the controllers; a RATE record for
each change. `own` are the dies whose own rate Lantern has just changed. -/
def setRates (own : BitVec 16) (s : State) : State :=
  let now := match s.lan.ovr with | some o => if o.doubled then 0xFFFF#16 else s.lan.doubled | none => s.lan.doubled
  let old := s.lan.rate
  if now = old then s
  else
    let s := s.modLan (fun l => { l with rate := now })
    let s := (List.range 32).foldl (fun s ch =>
      if s.cluReady (cluOf ch) then s.modSched ch (fun q => { q with doubled := now }) else s) s
    let s := lanEvt 3 s
    (List.range 16).foldl (fun s d =>
      if now.getLsbD d != old.getLsbD d then
        lanRec (0x20 + d) (lanPay s (tempCode (tget none s.lan.eff d)) d false
          ((now.getLsbD d).toNat + (!own.getLsbD d).toNat * 2)) s
      else s) s

/-- The limits of R388 and of the override reach the clusters (R154). -/
def setLimits (s : State) : State :=
  (List.range 8).foldl (fun s k =>
    let lim := max (tget 0 s.lan.lim k) (match s.lan.ovr with | some o => o.limit | none => 0)
    if (s.clu k).limit = lim then s else lanEvt 6 (s.modClu k (fun u => { u with limit := lim }))) s

/-- Everything that follows from Lantern's state at a boundary. -/
def lanApply (first : Bool) (own : BitVec 16) (s : State) : State :=
  setLimits (setRates own (setThr (setLevel first s)))

/-! ### The request -/

/-- K(T) of R385. -/
def kOf (t : Option Rat) : Nat :=
  match t with
  | none => 0
  | some x => if x < 95 then 0 else min 5 (1 + ((x - 95) / 2).floor.toNat)

def endRequest (l : Lan) : Lan := { l with req := false, graceEnd := none, enforcing := false, level := 0, low := 0 }

/-- The round's part in the request (R385, R386), at A(m). -/
def requestStep (tick : Nat) (l : Lan) : Lan :=
  let t := l.dieMax
  let below := fun (x : Rat) => match t with | none => true | some y => decide (y < x)
  if !l.req then
    if kOf t > 0 then { l with req := true, graceEnd := some (tick + l.grace), graceUsed := l.grace, enforcing := false, level := 0, low := 0 }
    else l
  else if !l.enforcing then
    let low := if below 93 then l.low + 1 else 0
    if low ≥ 8 then endRequest l else { l with low := low }
  else if kOf t > l.level then { l with level := kOf t, low := 0 }
  else
    let low := if below (95 + 2 * ((l.level : Rat) - 1) - 2) then l.low + 1 else 0
    if low < 8 then { l with low := low }
    else if l.level ≤ 1 then endRequest l
    else { l with level := l.level - 1, low := 0 }

/-- The thresholds of R388. -/
def limitAt (t : Rat) : Nat := if t ≥ 103 then 3 else if t ≥ 101 then 2 else if t ≥ 98 then 1 else 0
def limitTh (n : Nat) : Rat := match n with | 1 => 98 | 2 => 101 | _ => 103

/-- The base sensor that decides for cluster `k` (R379, R388). -/
def baseFor (l : Lan) (k : Nat) : Option Rat :=
  match l.baseMax [k] with
  | some t => some t
  | none => match l.baseMax (List.range 8) with
    | some t => some t
    | none => l.baseMax (List.range 12)

/-- The limit of cluster `k` after a round (R388). -/
def limitStep (l : Lan) (k : Nat) : Lan :=
  match baseFor l k with
  | none => l
  | some t =>
    let lim := tget 0 l.lim k
    if limitAt t > lim then { l with lim := tset l.lim k (limitAt t), cool := tset l.cool k 0 }
    else if lim = 0 then l
    else
      let n := if t < limitTh lim - 3 then tget 0 l.cool k + 1 else 0
      if n ≥ 8 then { l with lim := tset l.lim k (lim - 1), cool := tset l.cool k 0 } else { l with cool := tset l.cool k n }

/-- Die `d` has refreshed at the doubled rate for 6,144 ticks by tick `tick` without a published round that shows it hot (R146, R384). -/
def Lan.cooled (l : Lan) (tick d : Nat) : Bool :=
  l.doubled.getLsbD d && l.published && (tget none l.eff d).isSome && tget 0 l.hotTick d + 6144 ≤ tick

/-- What the published round decides takes effect at A(m) (R378, R383, R385, R386, R388); the dies whose rate it doubles (R146). -/
def lanAct (s : State) : State × BitVec 16 :=
  if !s.lan.due then (s, 0)
  else
    let l0 := s.lan
    let hot := (List.range 16).foldl (fun (w : BitVec 16) d =>
      match tget none l0.eff d with
      | none => w ||| (1#16 <<< d)
      | some t => if t > 85 then w ||| (1#16 <<< d) else w) 0
    let l1 := (List.range 8).foldl limitStep (requestStep s.day.tick { l0 with due := false, doubled := l0.doubled ||| hot })
    let s := { s with lan := l1 }
    let s := if l1.req && !l0.req then
        raise 35 0 .c0 ((lanPay s (tempCode l1.dieMax) 0x1F false l1.graceUsed).extractLsb' 0 64) (lanEvt 0 s)
      else s
    (s, hot &&& ~~~l0.doubled)

/-- Dies return to the normal refresh rate at this boundary (R146, R384). -/
def lanReturn (s : State) : State × BitVec 16 :=
  let l := s.lan
  let back := (List.range 16).foldl (fun (w : BitVec 16) d =>
    if l.doubled.getLsbD d && (l.returning.getLsbD d || l.cooled s.day.tick d) then w ||| (1#16 <<< d) else w) 0
  (s.modLan (fun l => { l with doubled := l.doubled &&& ~~~back, returning := 0 }), back)

/-- A grace period or an override whose end no row has told ends with the boundary after (R385, R387).
DEDUCED, log entry 45. -/
def lanLate (s : State) : State × Bool :=
  let l := s.lan
  let late := match l.graceEnd with | some e => decide (e < s.day.tick) | none => false
  let done := match l.ovr with | some o => (match o.ends with | some e => decide (e < s.day.tick) | none => false) | none => false
  (s.modLan (fun l =>
    let l := if late then { l with graceEnd := none, enforcing := true, level := max 1 (kOf l.dieMax) } else l
    if done then { l with ovr := none } else l), late)

/-- Lantern's part of a boundary: what the last round decided, the refresh rates, the throttle level, and the step limits, which act on
the clusters at this boundary (R146, R154, R378, R387, R388). -/
def throttleBoundary (s : State) : State :=
  let a := lanReturn s
  let b := lanAct a.1
  let c := lanLate b.1
  lanApply c.2 ((a.2 ||| b.2) &&& ~~~(a.2 &&& b.2)) c.1

/-! ### Publication -/

/-- A valid reading (R379): it completed, and lies from −40 °C to 150 °C. -/
def validTemp (q : Option Int) : Bool := match q with | some v => -160 ≤ v && v ≤ 600 | none => false

/-- The round's conversions (R377, R379): a sensor with an invalid one is failed from now on. -/
def sense (r : Sys2Proof.LanRound) (l : Lan) : Lan :=
  let fd := (List.range 64).foldl (fun (w : BitVec 64) i => if validTemp (r.die.getD i none) then w else w ||| (1#64 <<< i)) l.failDie
  let fb := (List.range 12).foldl (fun (w : BitVec 12) i => if validTemp (r.base.getD i none) then w else w ||| (1#12 <<< i)) l.failBase
  { l with
    failDie := fd, failBase := fb
    die := (List.range 64).map (fun i => (i, if fd.getLsbD i then none else r.die.getD i none))
    base := (List.range 12).map (fun i => (i, if fb.getLsbD i then none else r.base.getD i none))
    volt := (List.range 10).map (fun i => (i, r.volt.getD i 0)) }

/-- The hottest valid sensor of die `d`. -/
def Lan.hottest (l : Lan) (d : Nat) : Option Rat :=
  (List.range 4).foldl (fun (m : Option Rat) i => match tget none l.die (4 * d + i) with
    | some q => some (match m with | some a => max a (deg q) | none => deg q)
    | none => m) none

/-- The mean of the valid base sensors 0 to 7; where all have failed the hottest valid base sensor (R379, R380). With no valid
base sensor at all the spec states no value: a free one (log entry 26). -/
def Lan.baseMean (l : Lan) (free : Nat) : Rat :=
  let v := ((List.range 8).filterMap (fun i => tget none l.base i)).map deg
  if v.isEmpty then
    match l.baseMax (List.range 12) with
    | some t => t
    | none => deg (Config.freeWord free).toInt
  else v.foldl (fun a b => a + b) 0 / (v.length : Rat)

/-- near(x) of R380, before the round's own effective temperatures. -/
def Lan.near (l : Lan) (base : Rat) (x : Nat) : Rat :=
  let prev := (tget none l.eff x).getD base
  if l.suspect.getLsbD x then prev else (l.hottest x).getD prev

/-- ACT or column commands to die `d` in the round, all channels (R380). -/
def dieCount (s : State) (f : Sched → List (Nat × Nat)) (d : Nat) : Nat :=
  (List.range 32).foldl (fun n ch => n + tget 0 (f (s.chan ch).q) d) 0

/-- The words of banks 1 and 2 (R395). -/
def coefWords (s : State) : List (BitVec 64) := (List.range 512).map (fun i => s.ll.sh (1 + i / 256) (i % 256))

/-- The estimator of R380, once LL_BULK is 1 (R403). -/
def estimate (s : State) (base : Rat) (l : Lan) : Lan :=
  let cw := coefWords s
  let p := (List.range 16).map (fun j => Config.estAct cw j * (dieCount s Sched.dieAct j : Rat) + Config.estCol cw j * (dieCount s Sched.dieCol j : Rat))
  let heat := (List.range 16).map (fun d =>
    (d, Config.estA cw * tget 0 l.heat d + (List.range 16).foldl (fun a j => a + Config.estG cw d j * p.getD j 0) 0))
  let est := (List.range 16).map (fun d =>
    let nb := if d = 15 then l.near base 14
      else ((if d = 0 then base else l.near base (d - 1)) + l.near base (d + 1)) / 2
    (d, some (base + Config.estC cw d * (nb - base) + tget 0 heat d)))
  { l with heat := heat, est := est }

/-- Die `d` after the round (R381, R382): excess and agreement counts, SUSPECT, T_d. -/
def dieStep (l : Lan) (d : Nat) : Lan :=
  let h := l.hottest d
  let e := tget none l.est d
  let exceeds := match h, e with | some a, some b => decide (b - a > 6) | _, _ => false
  let n := if exceeds then tget 0 l.excess d + 1 else 0
  let sus := l.suspect.getLsbD d || n ≥ 4 || h.isNone
  let raw := match h, e with | some a, some b => some (max a b) | none, x => x | x, none => x
  { l with
    excess := tset l.excess d n
    agree := tset l.agree d (if h.isSome && !exceeds then min 255 (tget 0 l.agree d + 1) else 0)
    suspect := if sus then l.suspect ||| (1#16 <<< d) else l.suspect
    eff := tset l.eff d (raw.map (fun t => if sus then t + 3 else t)) }

/-- The failed sensors of die `d`. -/
def Lan.fails (l : Lan) (d : Nat) : Nat := (l.failDie >>> (4 * d)).toNat % 16

/-- SUSPECT records and LAN_SENSOR events of die `d` (R379, R381, R382, R392). -/
def dieReport (old : Lan) (s : State) (d : Nat) : State :=
  let l := s.lan
  let nf := ((List.range 4).filter (fun i => l.failDie.getLsbD (4 * d + i) && !old.failDie.getLsbD (4 * d + i))).length
  let declared := l.suspect.getLsbD d && !old.suspect.getLsbD d
  let restored := l.restored.getLsbD d
  if nf = 0 && !declared && !restored then s
  else
    let pay := lanPay s (tempCode (tget none l.eff d)) d false
      (tempCode (tget none l.est d) + tempCode (l.hottest d) * 2 ^ 8 + (l.suspect.getLsbD d).toNat * 2 ^ 16 + l.fails d * 2 ^ 17)
    let s := lanRec (0x10 + d) pay (s.modLan (fun l => { l with restored := l.restored &&& ~~~(1#16 <<< d) }))
    let s := if declared || restored then lanEvt 2 s else s
    let s := if nf > 0 then lanEvt 7 s else s
    (List.range (nf + declared.toNat)).foldl (fun s _ => raise 34 d .c0 (pay.extractLsb' 0 64) s) s

/-- The instances that a critical temperature shows (R383, R388): dies, and 16 for the base die. -/
def critSet (l : Lan) : List Nat :=
  (List.range 16).filter (fun d => match tget none l.eff d with | some t => decide (t ≥ 105) | none => false) ++
  (match l.baseMax (List.range 12) with | some t => if t ≥ 105 then [16] else [] | none => [])

/-- Base sensors that newly failed and critical temperatures (R379, R383, R388, R366, R392). -/
def critReport (old : Lan) (s : State) : State :=
  let l := s.lan
  let bnew := (List.range 12).filter (fun i => l.failBase.getLsbD i && !old.failBase.getLsbD i)
  let crit := critSet l
  let newc := crit.filter (fun c => !((critSet old).contains c))
  let s :=
    if bnew.isEmpty && newc.isEmpty then s
    else
      let hotBase := (List.range 12).filter (fun i => match tget none l.base i with | some q => decide (deg q ≥ 105) | none => false)
      let at_ := newc.headD 16
      let wh := if at_ < 16 then at_ else 16 + (if newc.isEmpty then bnew.headD 0 else hotBase.headD 0)
      let temp := if at_ < 16 then tget none l.eff at_ else l.dieMax
      let pay := lanPay s (tempCode temp) wh (!crit.isEmpty) (s.sec.k + bnew.foldl (fun n i => n + 2 ^ (4 + i)) 0)
      let det := pay.extractLsb' 0 64
      let s := lanRec 0x01 pay s
      let s := bnew.foldl (fun s i => raise 34 (16 + i) .c0 det s) (if bnew.isEmpty then s else lanEvt 7 s)
      newc.foldl (fun s c => raiseLs 36 c .c2 det false (if c = at_ then 1 else 0) s) (if newc.isEmpty then s else lanEvt 4 s)
  if !crit.isEmpty && newc.isEmpty && !s.ls.on then lsEnter 1 s else s

/-- Operating and trip windows of monitor `m`, in mV (R390). -/
def window (m : Nat) : (Nat × Nat) × (Nat × Nat) :=
  match m with
  | 0 | 1 => ((665, 735), (644, 756))
  | 2 | 4 => ((712, 788), (690, 810))
  | 3 => ((475, 525), (460, 540))
  | 5 => ((1140, 1260), (1104, 1296))
  | 6 | 7 => ((998, 1102), (966, 1134))
  | _ => ((1710, 1890), (1656, 1944))

def inside (w : Nat × Nat) (v : Nat) : Bool := w.1 ≤ v && v ≤ w.2

/-- Every monitor reads inside its operating window (R371, R432). -/
def supplyOk (l : Lan) : Bool := (List.range 10).all (fun m => inside (window m).1 (tget 0 l.volt m))

/-- Monitor `m` after the round (R391). -/
def voltStep (s : State) (m : Nat) : State :=
  let v := tget 0 s.lan.volt m
  let out := !inside (window m).2 v
  let n := if out then tget 0 s.lan.supOut m + 1 else 0
  let pay := lanPay s 0 0x1F false (v % 65536 + out.toNat * 2 ^ 16)
  let s := s.modLan (fun l => { l with supOut := tset l.supOut m n })
  let s := lanLevel (3 + m) (!inside (window m).1 v) pay s
  if n = 2 then raiseLs 37 m .c2 (pay.extractLsb' 0 64) false 3 (lanEvt 5 s) else s

/-- The bookkeeping of R371, R378 and R389, after the decisions. -/
def lanCounts (m tick : Nat) (l : Lan) : Lan :=
  let cool := (List.range 16).all (fun d => match tget none l.eff d with | some t => decide (t < 100) | none => true) &&
    (match l.baseMax (List.range 12) with | some t => decide (t < 100) | none => true)
  let hot := fun d => match tget none l.eff d with | some t => decide (t > 85) | none => true
  { l with
    hotTick := (List.range 16).map (fun d => (d, if hot d || !l.published then tick else tget 0 l.hotTick d))
    rounds := l.rounds + 1, round := m, published := true, pubTick := tick, due := true
    supOk := if supplyOk l then l.supOk + 1 else 0
    cool100 := if cool then l.cool100 + 1 else 0 }

/-- Lantern publishes round `tick / 64 − 1` (R378 to R392). -/
def publish (r : Sys2Proof.LanRound) (s : State) : State :=
  let t := s.day.tick
  if s.pwr.held || t = 0 || t % 64 ≠ 0 || (s.lan.published && s.lan.pubTick = t) then s
  else
    let old := s.lan
    let base := (sense r old).baseMean s.free
    let l := sense r old
    let l := if s.ready.getLsbD 14 then estimate s base l else { l with est := [] }
    let l := (List.range 16).foldl dieStep l
    let s := { s.takeFree with lan := lanCounts (t / 64 - 1) t l }
    let s := (List.range 32).foldl (fun s ch => s.modSched ch (fun q => { q with dieAct := [], dieCol := [] })) s
    let s := (List.range 16).foldl (dieReport old) s
    let s := critReport old s
    let s := (List.range 10).foldl voltStep s
    { s with ready := s.ready ||| 0x8000#16 }

/-! ### The rows -/

def execLanternPublish (r : Sys2Proof.LanRound) (s : State) : Host.Outcome State Fault Refusal := .next (settle s (publish r s))

/-- Enforcement begins at the boundary that ends the grace period (R385).
DEDUCED, log entry 45. -/
def graceEnd (s : State) : State :=
  match s.lan.graceEnd with
  | none => s
  | some e =>
    if s.day.tick < e then s
    else
      let s := s.modLan (fun l => { l with graceEnd := none, enforcing := true, level := max 1 (kOf l.dieMax) })
      effRecompute (lanApply true 0 s)
def execGraceEnd (s : State) : Host.Outcome State Fault Refusal := .next (settle s (graceEnd s))

/-- The override ends (R326, R387). -/
def overrideEnd (s : State) : State :=
  match s.lan.ovr with
  | none => s
  | some o => match o.ends with
    | none => s
    | some e => if s.day.tick < e then s else effRecompute (lanApply false 0 (s.modLan (fun l => { l with ovr := none })))
def execOverrideEnd (s : State) : Host.Outcome State Fault Refusal := .next (settle s (overrideEnd s))

/-- A die's 6,144 ticks end with the running tick (R146, R384): at the coming boundary its refresh returns to the normal rate. -/
def rateReturn (d : Nat) (s : State) : State :=
  if s.lan.cooled (s.day.tick + 1) d then s.modLan (fun l => { l with returning := l.returning ||| (1#16 <<< d) }) else s
def execRefreshRateReturn (d : DieId) (s : State) : Host.Outcome State Fault Refusal := .next (rateReturn d.val s)

/-- One sample of TRIP_N, `low` where it is low (R345, R387): when the filtered level changes its level source changes at once, its floor and
lightship entry follow at the boundary. -/
def tripSample (s : State) (low : Bool) : State :=
  let p := filterStep 25 (s.lan.trip, s.lan.tripRun) low
  let t := s.modLan (fun l => { l with trip := p.1, tripRun := p.2 })
  if p.1 = s.lan.trip then t else t.modBcn (fun b => lsrcSet s.day 0 p.1 b)

/-- One sample of SR_N (R345, R348, R426): an edge of the filtered level counts at once, its effect on service is from the boundary. -/
def srSample (s : State) (low : Bool) : State :=
  let p := filterStep 25 (s.pwr.srLow, s.pwr.srRun) low
  let t := { s with pwr := { s.pwr with srLow := p.1, srRun := p.2 } }
  if p.1 = s.pwr.srLow then t else t.modBcn (fun b => edgeSample s.day p.1 b)

def execTripN (samples : List Bool) (s : State) : Host.Outcome State Fault Refusal := .next (samples.foldl tripSample s)
def execSrN (samples : List Bool) (s : State) : Host.Outcome State Fault Refusal := .next (samples.foldl srSample s)

end Sys2Proof.Machine
end

