-- ==== Sys2Proof/Machine/Keeper.lean ====
section
/-! DEFINITION. Keeper: its mailboxes' responses, its SRAM, the watchdog, Keeper-only reset and patches (R300 to R317, R331). -/

namespace Sys2Proof.Machine

def State.modKpr (s : State) (f : Kpr → Kpr) : State := { s with kpr := f s.kpr }
def State.modLl (s : State) (f : Ll → Ll) : State := { s with ll := f s.ll }

/-! ### Responses -/

/-- The vector of a mailbox (R294, R313). -/
def mbVector (m : Nat) : Nat := if m = 4 then 3 else 2

/-- The response of mailbox `m` (R312, R313, R317, R343): STATUS and the response words; the record COMMAND_DONE. -/
def respond (m status : Nat) (data : List Word32) (superseded : Bool) (s : State) : State :=
  let x := s.mbx m
  let d := (List.range data.length).foldl (fun t i => tset t i (data.getD i 0)) x.data
  let s := s.modMbx m (fun x => { x with
    st := .done, len := BitVec.ofNat 6 data.length, status := BitVec.ofNat 8 status, superseded := superseded
    seq := x.seq + 1, effTick := BitVec.ofNat 32 s.day.tick, data := d, wait := none })
  let s := msi (mbVector m) s
  emit { unit := 0x0A, inst := 1, cls := .c0, payload := .value (BitVec.ofNat 96 (x.cmd.toNat + x.tag.toNat * 2 ^ 16
    + m * 2 ^ 24 + status * 2 ^ 32)) } s

/-- A mailbox in BUSY is dropped by a reset of cause `c`, but for the one whose patch the reset starts (R306, R309, R313). -/
def dropMbx (c : KCause) (s : State) (m : Nat) : State :=
  if (s.mbx m).st = .busy ∧ (c ≠ .patch ∨ (s.mbx m).wait ≠ some .patch) then
    msi (mbVector m) (s.modMbx m (fun x => { x with st := .dropped, seq := x.seq + 1, wait := none }))
  else s

/-! ### Keeper-only reset -/

/-- Keeper's domains are on. -/
def keeperOn (s : State) : Bool := s.domOn 0 && s.domOn 1

/-- A Keeper-only reset begins in the current tick (R305, R306, R307). -/
def keeperReset (c : KCause) (inj : Bool) (s : State) : State :=
  if !keeperOn s then s
  else
    let esc := s.kpr.handling && (c = .watchdog || (c = .sramUe && !inj))
    let up := s.kpr.st = .run
    let s := if esc then raise 29 0 .c3 0 s else s
    let s := s.modKpr (fun k => { k with
      st := .reset, cause := c, injected := if c = .sramUe then inj else k.injected
      rstCnt := satInc k.rstCnt, rstTick := s.day.tick, resetDue := none
      rst := if esc then (k.rst.raise 0).raise 1 else k.rst.raise 0
      staged := k.staged.map (fun (y : Staged) => { y with dropped := true }) })
    let s := { s with ready := s.ready &&& ~~~0x2000#16 }
    let s := if up then msi 4 s else s
    let s := (List.range 5).foldl (dropMbx c) s
    let s := s.modFlt (fun f => { f with driveHeld := false })
    let s := if s.ll.burn.isSome then { s.takeFree.takeFree with ll := s.ll.cutBurn (Config.freeWord s.free) (Config.freeWord (s.free + 1)) } else s
    let s := { s with wch := { s.wch with tsvTest := none } }
    (List.range 8).foldl (fun s k => s.modClu k (fun u =>
      if u.stage = .up ∨ u.stage = .failed then u else { u with stage := .off, stageTicks := 0, stageEnded := false })) s

/-! ### SRAM -/

/-- Words that the remap table of a macro holds (R302). -/
def Kpr.remapOf (k : Kpr) (m : Nat) : List Nat := tget [] k.remap m

/-- The word goes to a free entry of its macro's table (R302, R303). -/
def Kpr.doRemap (m w : Nat) (k : Kpr) : Kpr :=
  let t := k.remapOf m
  let k := { k with suspect := k.suspect.filter (· ≠ (m, w)) }
  if t.contains w then k
  else if t.length < 8 then
    { k with remap := tset k.remap m (t ++ [w]), remapFull := if t.length = 7 then k.remapFull ||| (1#16 <<< m) else k.remapFull }
  else k

/-- DETAIL of the SRAM sources (R356). -/
def sramDetail (m w : Nat) : BitVec 64 := BitVec.ofNat 64 (m + w * 16)

/-- One word of macro `m` is read by the core or the scrubber (R302, R303). -/
def sramRead (m w : Nat) (e : Sys2Proof.MacroErr) (inj : Bool) (s : State) : State :=
  match e with
  | .clean => s.modKpr (fun k => { k with suspect := k.suspect.filter (· ≠ (m, w)) })
  | .ce =>
    let s := s.modKpr (fun k =>
      let k := { k with sramCe := satInc k.sramCe, lastMacro := BitVec.ofNat 4 m }
      if inj then k
      else if k.suspect.contains (m, w) then k.doRemap m w
      else { k with suspect := k.suspect ++ [(m, w)] })
    raiseInj 26 m .c1 (sramDetail m w) inj s
  | .ue =>
    let s := s.modKpr (fun k =>
      let k := { k with sramUe := satInc k.sramUe, lastMacro := BitVec.ofNat 4 m }
      if inj then k else k.doRemap m w)
    let s := if inj then s.modFlt (fun f => { f with inj := none }) else s
    keeperReset .sramUe inj (raiseInj 27 m .c2 (sramDetail m w) inj s)

/-- The scrubber reads word `w` of macro `m` (R301); its first read of a tick takes an armed injection (R375). -/
def scrubRead (w : Nat) (errs : List Sys2Proof.MacroErr) (s : State) (m : Nat) : State :=
  let e := errs.getD m .clean
  match injArmed s 1 m with
  | none => sramRead m w e false s
  | some i =>
    if s.kpr.scrubbed ≠ 1 ∨ s.day.tick ≤ i.decided ∨ e ≠ .clean then sramRead m w e false s
    else sramRead m w (if i.two then .ue else .ce) true (injUse s)

/-- The scrubber reads word `w` of every macro (R301): the next in ascending order, at most eight in a tick. -/
def sramScrub (w : Nat) (errs : List Sys2Proof.MacroErr) (s : State) : State :=
  if s.domOn 1 && w = s.kpr.scrub && s.kpr.scrubbed < 8 then
    (List.range 16).foldl (scrubRead w errs) (s.modKpr (fun k => { k with scrub := (w + 1) % 4096, scrubbed := k.scrubbed + 1 }))
  else s

/-- The reads of the tick that no command named find no error (R301).
DESIGN CHOICE, log entry 70. -/
def sramScrubRest (s : State) : State :=
  ((List.range (8 - s.kpr.scrubbed)).foldl (fun s _ => sramScrub s.kpr.scrub [] s) s).modKpr (fun k => { k with scrubbed := 0 })

def execSramScrubRead (w : BitVec 12) (errs : List Sys2Proof.MacroErr) (s : State) : Host.Outcome State Fault Refusal :=
  .next (settle s (sramScrub w.toNat errs s))
def execKeeperCoreSramRead (m : Fin 16) (w : BitVec 12) (e : Sys2Proof.MacroErr) (s : State) : Host.Outcome State Fault Refusal :=
  .next (if keeperOn s && s.kpr.st ≠ .reset then settle s (sramRead m.val w.toNat e false s) else s)

/-! ### Watchdog -/

/-- The period of R304 that applies has run out.
DEDUCED, log entry 17. -/
def watchdogDue (s : State) : Bool :=
  keeperOn s && s.ll.wdEn &&
    (if s.kpr.st = .run then s.kpr.served + 4096 ≤ s.day.tick else s.kpr.served + 8192 ≤ s.day.tick)

/-- A watchdog failure (R304, R305): the reset, its C2 event, and lightship cause 4 where the last one is less than 488,282 ticks
ago. -/
def watchdog (s : State) : State :=
  if !watchdogDue s then s
  else
    let again := s.kpr.wdAny && s.day.tick ≤ s.kpr.wdLast + 488282
    let s := keeperReset .watchdog false s
    let s := s.modKpr (fun k => { k with wdAny := true, wdLast := s.day.tick, served := s.day.tick })
    raiseLs 28 0 .c2 2 false (if again then 4 else 0) s

def execWatchdog (s : State) : Host.Outcome State Fault Refusal := .next (settle s (watchdog s))

/-- Cause 4 clears (R304): STATE has read RUN for 488,282 consecutive ticks. -/
def execLightshipCause4Clear (s : State) : Host.Outcome State Fault Refusal :=
  .next (if s.kpr.st = .run ∧ s.kpr.runFrom + 488282 ≤ s.day.tick then { s with ls := { s.ls with c4 := false } } else s)

/-! ### Patches -/

/-- The fields of a patch image (R308). -/
structure Patch where
  keyId : Nat
  lcMask : Nat
  version : Nat
  length : Nat
  romId : Nat
  wellFormed : Bool

/-- The header of an image (R308). -/
def Patch.of (b : List (BitVec 8)) : Patch :=
  let f := fun (o n : Nat) => leNat ((b.drop o).take n)
  { keyId := f 6 1, lcMask := f 7 1, version := f 0x0C 2, length := f 0x10 4, romId := f 8 4
    wellFormed := f 0 4 = 0x50424C42 && f 4 2 = 1 && f 0x0E 2 = 0 && ((b.drop 0x14).take 44).all (· = 0) && f 6 1 < 4 && f 7 1 < 8
      && f 0x0C 2 ≠ 0 && f 8 4 / 65536 = 0 && f 0x10 4 % 64 = 0 && 64 ≤ f 0x10 4 && f 0x10 4 ≤ 131072 }

/-- The granules of an image, read with their consequences; `none` where one is poisoned, uncorrectable or cannot be read. -/
def readImage (a n : Nat) (s : State) : State × Option (List (BitVec 8)) :=
  (blocksOf 64 a n).foldl (fun (acc : State × Option (List (BitVec 8))) g =>
    match acc.2 with
    | none => acc
    | some b =>
      if retiredAt acc.1 (64 * g) || !acc.1.cluReady (cluOf (chanOf (64 * g))) then (acc.1, none)
      else
        let r := peekGran {} g acc.1
        match r.2 with
        | .data d => (r.1, some (b ++ d))
        | _ => (r.1, none)) (s, some [])

/-- Check 6 of R309.
DESIGN CHOICE, log entry 27. -/
def patchAuth (s : State) (p : Patch) (b : List (BitVec 8)) : Bool :=
  !s.ll.keyRevoked p.keyId && s.ll.minVersion ≤ p.version &&
    Config.sigValid p.keyId (b.take (0x40 + p.length)) ((b.drop (0x40 + p.length)).take 96)

/-- Keeper's place for the image in its scratch area, above the ASID table (R50, R255, R309). -/
def patchBase (s : State) : Nat :=
  (if s.tenderPart then 0x17FA080000 else 0x17FC080000) + 64 * (Config.patchPlace 0 % 2 ^ 19)

/-- The status of checks 5 and 6 on the image at `a`, with its bytes (R309, R311). -/
def patchVerify (a : Nat) (s : State) : State × Nat × List (BitVec 8) :=
  let h := readImage a 64 s
  match h.2 with
  | none => (h.1, 9, [])
  | some hb =>
    let p := Patch.of hb
    let r := readImage a (p.length + 160) h.1
    match r.2 with
    | none => (r.1, 9, [])
    | some b => (r.1, if patchAuth r.1 p b then 0 else 8, b)

/-! ### RUN -/

/-- Keeper's restart ends: the patch is verified again (R311) and STATE becomes RUN (R306). -/
def keeperRun (s : State) : State :=
  if !keeperOn s || (s.kpr.st ≠ .boot && s.kpr.st ≠ .verify) || s.ll.bootHold then s
  else
    let v : State × Nat := if s.kpr.patchActive then (let r := patchVerify s.kpr.patchAddr s; (r.1, r.2.1)) else (s, 0)
    let s := v.1
    let lost := s.kpr.patchActive && v.2 ≠ 0
    let s := s.modKpr (fun k => { k with
      st := .run, runFrom := s.day.tick, served := s.day.tick
      patchActive := k.patchActive && !lost, patchLost := k.patchLost || lost, patchVersion := if lost then 0 else k.patchVersion
      keyId := if lost then 0 else k.keyId })
    let s := { s with ready := s.ready ||| 0x2000#16 }
    let s := if s.kpr.cause = .none_ then s
      else emit { unit := 0x0A, inst := 0, cls := if s.kpr.cause = .manager ∨ s.kpr.cause = .patch then .c0 else .c2
                  payload := .value (BitVec.ofNat 96 s.kpr.cause.code) } s
    let s := if lost then emit { unit := 0x0A, inst := 2, cls := .c2, payload := .value 0 } s else s
    let s := (List.range 5).foldl (fun s m =>
      if (s.mbx m).wait = some .patch then
        (if lost then respond m v.2 [0] false s else respond m 0 [fld s.kpr.patchVersion.toNat 0] false s)
      else s) s
    if s.flt.c3 then foghornRule s else s.modFlt (fun f => { f with drive := false })

def execKeeperRun (s : State) : Host.Outcome State Fault Refusal := .next (settle s (keeperRun s))

end Sys2Proof.Machine
end

