-- ==== Sys2Proof/Machine/Light.lean ====
section
/-! DEFINITION. The Light list at work: sensing at start-up, re-sense and withdrawal, burning (R401 to R413, R416, R417). -/

namespace Sys2Proof.Machine

/-! ### Records -/

/-- A LIGHT_LIST record (R417): instance 0 DRIFT, 1 WEAK, 2 INVALID. -/
def llPay (s : State) (b : Nat) (words : List Nat) (rows : Nat) : BitVec 96 :=
  BitVec.ofNat 96 (b + min 255 words.length * 2 ^ 8 + words.headD 0 % 256 * 2 ^ 16 + (s.ll.st b).code * 2 ^ 24
    + (s.ll.useMargin b).toNat * 2 ^ 27 + rows % 2 ^ 32 * 2 ^ 32 + (if s.ll.pass then (s.ll.passes + 1) % 2 ^ 32 else 0) * 2 ^ 64)

/-- The record and the fault event of a finding on bank `b` (R356, R404, R408). -/
def llReport (inst src : Nat) (c : Cls) (b : Nat) (words : List Nat) (rows : Nat) (inj : Bool) (s : State) : State :=
  let pay := llPay s b words rows
  raiseInj src b c (pay.extractLsb' 0 64) inj
    (emit { unit := 0x0D, inst := inst, cls := c, payload := .value pay } s)

def llEvt (k : Nat) (s : State) : State := s.modLl (fun l => { l with evt := l.evt.raise k })

/-- Words of bank `b` newly found WEAK are marked, counted and reported (R397, R401, R404, R408). -/
def markWeak (b : Nat) (s : State) : State :=
  let new := (s.ll.weakOf b).filter (fun w => !(s.ll.weakW.contains (fkey b w)))
  if new.isEmpty then s
  else
    let s := s.modLl (fun l => { l with weakW := l.weakW ++ new.map (fkey b), cntWeak := satAdd l.cntWeak new.length })
    llReport 1 30 .c0 b new 0 false (llEvt 0 s)

/-- What the fuses read at a sense, for the banks that `f` selects (R397). -/
def observe (f : Nat → Bool) (reads : List Sys2Proof.FuseRead) (l : Ll) : Ll :=
  reads.foldl (fun l r =>
    if f r.bank.val && r.word.val < bankSize r.bank.val then
      let k := fkey r.bank.val r.word.val
      { l with fuse := tset l.fuse k r.normal, weak := tset l.weak k (r.normal &&& ~~~r.margin) }
    else l) l

/-- Bank `b` takes its state, its shadow and its margin mark from a sense (R398, R401, R404). -/
def Ll.decide (l : Ll) (b : Nat) : Ll :=
  let l := { l with bank := tset l.bank b (l.sense b)
                    margin := if l.useMargin b then b :: l.margin.filter (· ≠ b) else l.margin.filter (· ≠ b) }
  l.load b

/-! ### Start-up -/

/-- Bank 0 is sensed (R401, R402, R416): accepted, or the reason for which the stack stays in reset. -/
def bank0Sense (reads : List Sys2Proof.FuseRead) (s : State) : State :=
  if s.pwr.held || s.ll.accepted || s.ll.hold ≠ 0 then s
  else
    let l : Ll := observe (· = 0) reads s.ll
    let l : Ll := { l.decide 0 with life := lifeOf (l.normal 0 7) }
    let hold : Nat := if l.st 0 = .blank then 3
      else if l.st 0 = .sealed ∨ l.st 0 = .locked then (if l.variant = 1 ∨ l.variant = 2 then 0 else 2) else 1
    let s := { s with ll := { l with hold := hold, accepted := hold = 0 } }
    if hold = 0 then markWeak 0 { s with tenderPart := s.ll.variant = 1 } else s

/-- The ROW words of an INVALID bank that R404 acts on: read the same at both margins, with a valid target. -/
def invalidRows (l : Ll) : List Rep :=
  (l.repWords [.invalid]).filterMap (fun x =>
    if tget 0 l.weak x.1 &&& tget 0 l.fuse x.1 ≠ 0 then none
    else match parseRep x.2 with
      | some (.row c b r sp) => some (.row c b r sp)
      | _ => none)

/-- The rows of `invalidRows` in bank `n` of the list that need a mooring entry. -/
def invalidLoads (s : State) (n : Nat) : Nat :=
  (((s.ll.repWords [.invalid]).filter (fun x => x.1 / 256 = n && tget 0 s.ll.weak x.1 &&& tget 0 s.ll.fuse x.1 = 0)).filter (fun x =>
    match parseRep x.2 with
    | some (.row _ _ r _) => !(spareRow0 s.tenderPart ≤ r && r < spareRow0 s.tenderPart + 32)
    | _ => false)).length

/-- Banks 1 to 128 are sensed and decided, and the repairs checked (R403, R404, R406). -/
def bulkSense (reads : List Sys2Proof.FuseRead) (s : State) : State :=
  if !s.ll.accepted || s.ready.getLsbD 14 then s
  else
    let banks := (List.range 128).map (· + 1)
    let l := banks.foldl Ll.decide (observe (· ≠ 0) reads s.ll)
    let s := { s with ll := l }
    let s := banks.foldl (fun s b => markWeak b s) s
    let s := banks.foldl (fun s b =>
      if s.ll.st b = .invalid then
        llReport 2 32 .c2 b ((List.range 256).filter (fun w => s.ll.normal b w ≠ 0)) (invalidLoads s b) false (llEvt 3 s)
      else s) s
    let ign := (applyReps (s.ll.repWords [.sealed, .locked])).2.length
    let s := if ign = 0 then s else llEvt 4 (s.modLl (fun l => { l with cntIgnored := satAdd l.cntIgnored ign }))
    { s with ready := s.ready ||| 0x4000#16 }

/-! ### Re-sense -/

/-- A pass begins (R407). -/
def passStart (s : State) : State :=
  if s.kpr.st = .run ∧ s.ready.getLsbD 14 ∧ !s.ll.pass ∧ s.day.tick % 2 ^ 20 = 0 ∧ s.day.tick > 0 then
    s.modLl (fun l => { l with pass := true, passStart := s.day.tick, reBank := 1, reWord := 0, reMargin := false })
  else s

/-- The pass reads (R300, R407): Keeper runs and no burn is in progress. -/
def reading (s : State) : Bool := s.ll.pass && s.kpr.st = .run && s.ll.burn.isNone

/-- One read is over: the margin read of the word follows its normal read, then the next word (R407). -/
def Ll.nextRead (l : Ll) : Ll :=
  if l.reWord ≥ bankSize l.reBank then l
  else if l.reMargin then { l with reMargin := false, reWord := l.reWord + 1 }
  else { l with reMargin := true }

/-- The rows that the ROW words of bank `b` repair, in force (R409). -/
def rowsOf (l : Ll) (b : Nat) : List (Nat × Nat × Nat) :=
  let rs := (applyReps ((l.repWords [.sealed, .locked, .withdrawn]).filter (fun x => !(l.gone.contains (x.1 / 256))))).1
  let live := rs.filter (fun x => !(rs.any (fun y => x.1 < y.1 && x.2.target = y.2.target)))
  live.filterMap (fun x => if x.1 / 256 ≠ b then none else match x.2 with
    | .row c bk r _ => some (c, bk, r)
    | _ => none)

/-- Whole rows move into mooring entries with SOURCE 2 (R183, R184, R404, R409): the state and how many moved. Rows that find no entry
are counted in one MOORING_FULL record for each channel.
DEDUCED, log entry 36. -/
def moorRows (rows : List (Nat × Nat × Nat)) (s : State) : State × Nat :=
  let go := rows.foldl (fun (acc : State × Nat × List (Nat × Nat)) x =>
    let s := acc.1
    let i := (s.chan x.1).i
    match entryFor i x.2.1 x.2.2 with
    | some n => (beginMove x.1 { entry := n, source := 2, bank := x.2.1, row := x.2.2, mask := 0xFFFF, gran := 0 } s, acc.2.1 + 1, acc.2.2)
    | none => (s, acc.2.1, acc.2.2 ++ [(x.1, addrOf x.1 x.2.1 x.2.2 0 / 64)])) (s, 0, [])
  let left := go.2.2
  ((List.range 32).foldl (fun s ch =>
    match left.filter (fun y => y.1 = ch) with
    | [] => s
    | y :: ys => mooringFull ch y.2 (ys.length + 1) s) go.1, go.2.1)

/-- The rows that withdrawal moves now (R409): their targets are no mooring spare rows and not retired, no SOURCE 2 entry holds them yet, and
their cluster serves. Rows of a cluster that does not serve wait for its start-up (`withdrawnRows`).
DEDUCED, log entry 36. -/
def movable (s : State) (x : Nat × Nat × Nat) : Bool :=
  let sp := spareRow0 s.tenderPart
  let held := match entryOfRow (s.chan x.1).i x.2.1 x.2.2 with
    | some n => (match (s.chan x.1).i.moor n with | some e => e.source = 2 && e.mask = 0xFFFF | none => false)
    | none => false
  !(sp ≤ x.2.2 && x.2.2 < sp + 32) && !retiredSlice s x.1 (dieOf x.2.1) && !held && s.cluReady (cluOf x.1)

/-- The rows of WITHDRAWN banks that cluster `k`, which becomes ready, has still to move (R183, R409). -/
def withdrawnRows (k : Nat) (s : State) : List (Nat × Nat × Nat) :=
  ((List.range 129).filter (fun b => s.ll.st b = .withdrawn)).flatMap (fun b =>
    (rowsOf s.ll b).filter (fun x => cluOf x.1 = k && movable s x))

/-- A bank without a valid seal at either margin is withdrawn (R408, R409). -/
def withdraw (b : Nat) (drift : List Nat) (s : State) : State :=
  let rows := (rowsOf s.ll b).filter (movable s)
  let s := s.modLl (fun l => { l with bank := tset l.bank b .withdrawn })
  let r := moorRows rows s
  llReport 0 31 .c2 b drift r.2 false (llEvt 2 r.1)

/-- The end of a bank's re-sense (R408). -/
def resenseEnd (reads : List Sys2Proof.FuseRead) (s : State) : State :=
  let b := s.ll.reBank
  if !reading s || s.ll.reWord < bankSize b then s
  else
    let s := { s with ll := observe (· = b) reads s.ll }
    let l := s.ll
    let drift := (List.range (bankSize b)).filter (fun w =>
      l.normal b w ≠ l.sh b w || (l.normal b w ≠ l.marginal b w && !(l.weakW.contains (fkey b w))))
    let valid := l.sealNormal b || l.sealMargin b
    let live := l.st b = .sealed || l.st b = .locked
    let s : State :=
      if !live then s
      else match injArmed s 4 b with
        | some _ =>
          let s := injUse s
          if b = 0 then raiseInj 33 0 .c3 0 true s else llReport 0 31 .c2 b [] 0 true s
        | none =>
          let s := if drift.isEmpty then s
            else llEvt 1 (s.modLl (fun l => { l with cntDrift := satAdd l.cntDrift drift.length }))
          if valid then
            (if drift.isEmpty then s else markWeak b (llReport 0 31 .c1 b drift 0 false s))
          else if b = 0 then raise 33 0 .c3 0 s
          else withdraw b drift (markWeak b s)
    s.modLl (fun l =>
      if b = 0 then { l with pass := false, passes := l.passes + 1, passTicks := s.day.tick - l.passStart, reBank := 1, reWord := 0, reMargin := false }
      else { l with reBank := if b = 128 then 0 else b + 1, reWord := 0, reMargin := false })

/-- The AON check of the bank 0 shadow (R408). -/
def shadowCheck (s : State) : State :=
  if s.ll.accepted && !sealValid 0 (s.ll.sh 0) then raise 33 0 .c3 0 s else s

def execBank0Sense (r : List Sys2Proof.FuseRead) (s : State) : Host.Outcome State Fault Refusal := .next (settle s (bank0Sense r s))
def execBulkSense (r : List Sys2Proof.FuseRead) (s : State) : Host.Outcome State Fault Refusal := .next (settle s (bulkSense r s))
def execResensePassStart (s : State) : Host.Outcome State Fault Refusal := .next (passStart s)
def execResenseBankEnd (r : List Sys2Proof.FuseRead) (s : State) : Host.Outcome State Fault Refusal := .next (settle s (resenseEnd r s))
def execCriticalShadowCheck (s : State) : Host.Outcome State Fault Refusal := .next (settle s (shadowCheck s))

/-! ### Burning -/

/-- ROW words of a sealed bank, in word order, that are neither ignored nor in retired slices (R413). -/
def activateRows (s : State) (b : Nat) : List (Nat × Nat × Nat) :=
  (rowsOf s.ll b).filter (fun x => !retiredSlice s x.1 (dieOf x.2.1))

/-- The row's granules that no mooring entry redirects are to be copied to the redundant row (R413), in scrub slots; the latch is loaded at
the boundary after. A row of a cluster that does not serve is loaded at its start-up (R433). -/
def activateRow (s : State) (x : Nat × Nat × Nat) : State :=
  if !s.cluReady (cluOf x.1) then s
  else
    let todo := (List.range 16).filter (fun j => (moorHit (s.chan x.1).i x.2.1 x.2.2 j).isNone)
    beginMove x.1 { entry := latchMove, source := 2, bank := x.2.1, row := x.2.2
                    mask := todo.foldl (fun w j => w ||| (1#16 <<< j)) 0, gran := 0 } s

/-- The command that burned is answered, or goes on (R410 to R413, R416, R325). -/
def burnEnd (u : Burn) (s : State) : State :=
  let s := s.modLl (fun l => { l with burn := none })
  let wait := fun (w : Wait) (s : State) => s.modMbx u.mb (fun x => { x with wait := some w })
  match u.kind with
  | .program =>
    let s := s.modLl (fun l => l.resense u.bank false)
    (match u.failed with
      | some w => respond u.mb 9 [fld w 0] false s
      | none => respond u.mb 0 [0xFFFFFFFF] false s)
  | .crc =>
    if u.failed.isSome then respond u.mb 9 [] false (s.modLl (fun l => l.resense u.bank false))
    else s.modLl (fun l => { l with burn := some { u with kind := .mark, todo := [(bankSize u.bank - 1, 0xA500000000)] } })
  | .mark =>
    let s := s.modLl (fun l => l.resense u.bank true)
    let s := markWeak u.bank s
    if s.ll.sealNormal u.bank && s.ll.sealMargin u.bank && (s.ll.weakOf u.bank).isEmpty then
      let rows := activateRows s u.bank
      if u.bank < 9 || rows.isEmpty then respond u.mb 0 [] false s
      else wait .activate (rows.foldl activateRow s)
    else respond u.mb 9 [] false s
  | .lock =>
    let s := s.modLl (fun l => l.resense u.bank true)
    if u.failed.isSome then respond u.mb 9 [] false s else respond u.mb 0 [] false s
  | .reburn =>
    let w := u.failed.getD u.good
    let n := s.ll.normal u.bank w
    let d := [lo32 n.toNat, hi32 n.toNat]
    if s.ll.normal u.bank w ≠ s.ll.marginal u.bank w then respond u.mb 9 d false s else respond u.mb 0 d false s
  | .life => if u.good = 0 then respond u.mb 9 [] false s else wait .life s

/-- The AON logic has burned and verified a word (R410). -/
def burnComplete (ok : Bool) (s : State) : State :=
  match s.ll.burn with
  | none => s
  | some u =>
    match u.todo with
    | [] => s
    | (w, bits) :: rest =>
      let g0 := Config.freeWord s.free
      let g1 := Config.freeWord (s.free + 1)
      let s := s.takeFree.takeFree
      let u := { u with
        todo := rest, failed := if ok || u.failed.isSome then u.failed else some w
        good := if u.kind = .life then (if ok then u.good + 1 else u.good) else u.good }
      let s := s.modLl (fun l => { (l.burnWord (fkey u.bank w) bits g0 g1 ok) with burn := some u })
      let s := if u.kind = .mark then s else markWeak u.bank s
      if rest.isEmpty then burnEnd u s else s

def execFuseBurnComplete (ok : Bool) (s : State) : Host.Outcome State Fault Refusal := .next (settle s (burnComplete ok s))

end Sys2Proof.Machine
end

