-- ==== Sys2Proof/Machine/Power.lean ====
section
/-! DEFINITION. Power domains, resets, and the start-up of the clusters (R367, R369, R421 to R435). -/

namespace Sys2Proof.Machine

/-! ### Domains -/

/-- Without the domain of port 8q its quadrant PLL stops, and every port of the quadrant is OFF (R25, R71). -/
def quadDown (p : Nat) (s : State) : State :=
  let s := { s with clk := { s.clk with quadPll := s.clk.quadPll &&& ~~~(1#4 <<< quadOf p) } }
  (List.range 8).foldl (fun s j => recoverRelease (p + j) (s.modPort (p + j) (fun x => x.goOff s.day.tick s.stackId))) s

/-- Port `p` loses its domain (R369, R428): its RECOVER tags and zombie RTAGs stand in the retention array; a tag whose request
still runs in memory goes to RECOVER when it is done.
DEDUCED, log entry 22. -/
def portDown (p : Nat) (s : State) : State :=
  let s := if p % 8 = 0 then quadDown p s else recoverRelease p (s.modPort p (fun x => x.goOff s.day.tick s.stackId))
  let x := s.port p
  let tags := x.fr.tags.filter (fun (y : Nat × TagRec) => y.2.st == TagSt.recover && !y.2.fenced)
  let rtags := x.rly.rtags.filter (fun (y : Nat × RTag) => y.2.st == RtSt.zombie)
  let x := { x with
    link := { x.link with sig := 0 }
    lane := { x.lane with mapDn := {}, mapUp := {}, swapDn := none, swapUp := none, outDn := [], outUp := [], waitRepair := [] }
    rty := {}
    fr := { x.fr with tags := x.fr.tags.filter (fun (y : Nat × TagRec) => y.2.st != TagSt.recover || y.2.fenced) }
    rly := { x.rly with rtags := x.rly.rtags.filter (fun (y : Nat × RTag) => y.2.st != RtSt.zombie) } }
  { (s.modPort p (fun _ => x.skipSlice)) with
    ret := { s.ret with tags := tset s.ret.tags p tags, rtags := tset s.ret.rtags p rtags } }

/-- Port `p` has its domain again: what the retention array holds of it returns (R369, R372), and it becomes DOWN when its
lane clock runs (R71). -/
def portUp (p : Nat) (s : State) : State :=
  let tags := tget [] s.ret.tags p
  let rtags := tget [] s.ret.rtags p
  let s := { s with
    ret := { s.ret with tags := tset s.ret.tags p [], rtags := tset s.ret.rtags p [] }
    clk := if p % 8 = 0 then { s.clk with quadFrom := tset s.clk.quadFrom (quadOf p) s.day.tick } else s.clk }
  portOn p (s.modPort p (fun x => { x with
    fr := { x.fr with tags := tags.foldl (fun t y => tset t y.1 y.2) x.fr.tags }
    rly := { x.rly with rtags := rtags.foldl (fun t y => tset t y.1 y.2) x.rly.rtags } }))

/-- What the retention array takes of a channel (R369). -/
def Integ.retained (i : Integ) : RetChan :=
  { mooring := i.mooring, badSpare := i.badSpare, spareD := i.spareD, spareC := i.spareC, declared := i.declared
    retSlices := i.retSlices, retChan := i.retChan }

/-- A channel whose controller has lost its domain: the dies keep their rows and self-refresh, the always-on blocks their
registers and counters, the requests that ended their answers. -/
def Chan.unpowered (x : Chan) : Chan :=
  { q := { done := x.q.done, nextId := x.q.nextId, clk := x.q.clk, turn := x.q.turn, slices := x.q.slices, doubled := x.q.doubled, cnt := x.q.cnt
           banks := x.q.banks.map (fun (b : Nat × Bank) => (b.1, { ptr := b.2.ptr })), dieAct := x.q.dieAct, dieCol := x.q.dieCol
           parCnt := x.q.parCnt, parInfo := x.q.parInfo, rfmCnt := x.q.rfmCnt, rfmBlock := x.q.rfmBlock
           places := x.q.places, holds := x.q.holds }
    i := { scrubPtr := x.i.scrubPtr, rereads := x.i.rereads, failing := x.i.failing, init := x.i.init, cnt := { scrubPass := x.i.cnt.scrubPass } } }

/-- Cluster `k` loses its domain (R369, R428, R435). -/
def cluDown (k : Nat) (s : State) : State :=
  let s := (List.range 4).foldl (fun s j =>
    let ch := 4 * k + j
    { (s.modChan ch Chan.unpowered) with
      ret := { s.ret with chans := tset s.ret.chans ch (some (s.chan ch).i.retained) } }) s
  { (s.modClu k (fun u => { u with
      step := 0, stepTick := 0, held := none, draining := false, t1Done := false, t3Done := false, phyBad := false
      stage := .off, stageTicks := 0, stageEnded := false, restarted := false, clkStop := true })) with
    ready := s.ready &&& ~~~(1#16 <<< k) }

/-- Cluster `k` has its domain again: what the retention array holds of its channels returns (R369). -/
def cluUp (k : Nat) (s : State) : State :=
  (List.range 4).foldl (fun s j =>
    let ch := 4 * k + j
    match tget none s.ret.chans ch with
    | none => s
    | some r =>
      { (s.modInteg ch (fun i => { i with
          mooring := r.mooring, badSpare := r.badSpare, spareD := r.spareD, spareC := r.spareC, declared := r.declared
          retSlices := r.retSlices, retChan := r.retChan })) with
        ret := { s.ret with chans := tset s.ret.chans ch none } }) s

/-- The translation unit loses its domain (R275, R427): its caches, walks and waiting streams go, and doorbells that wait in it
are answered as not performed. -/
def xlateDown (s : State) : State :=
  let db := s.tnd.dbq
  let s := s.modTnd (fun x => { x with tlb := [], walks := [], wait := [], dbq := [] })
  db.foldl (fun s d => match d.src with
    | some (p, t) => recoverRelease p (s.modPort p (fun x => x.answer s.day.tick s.stackId t stFENCED 0x02 []))
    | none => s) { s with ready := s.ready &&& 0xE0FF#16 }

/-- A domain switches off (R428): its unit loses its state. Domains 0 to 3 go with the stack reset only. -/
def domDown (n : Nat) (s : State) : State :=
  let was := tget .off s.pwr.dom n
  let s := { s with pwr := { s.pwr with dom := tset s.pwr.dom n .off, want := s.pwr.want.filter (· ≠ n) } }
  if was = .off then s
  else if 4 ≤ n ∧ n < 36 then portDown (n - 4) s
  else if 36 ≤ n ∧ n < 44 then cluDown (n - 36) s
  else if 44 ≤ n ∧ n < 48 then loseCache (n - 44) { s with ready := s.ready &&& ~~~(1#16 <<< (8 + (n - 44))) }
  else if n = 48 then xlateDown s
  else if n = 49 then { s with wch := { s.wch.uncoverAll (fun _ => true) with suspects := [] } }
  else s

/-- The unit of a domain that reports power-good begins (R428, R432). -/
def domUp (n : Nat) (s : State) : State :=
  if n < 2 then (if keeperOn s then s.modKpr (fun k => { k with served := s.day.tick }) else s)
  else if 4 ≤ n ∧ n < 36 then portUp (n - 4) s
  else if 36 ≤ n ∧ n < 44 then cluUp (n - 36) s
  else if 44 ≤ n ∧ n < 48 then (if xlReady s then { s with ready := s.ready ||| (1#16 <<< (8 + (n - 44))) } else s)
  else s

/-- A switching domain reports power-good (R428). -/
def powerGood (n : Nat) (s : State) : State :=
  match tget .off s.pwr.dom n with
  | .switching _ => domUp n { s with pwr := { s.pwr with dom := tset s.pwr.dom n .on } }
  | _ => s

/-- A domain has not reported power-good within 2 ticks (R428). -/
def powerBad (n : Nat) (s : State) : State :=
  match tget .off s.pwr.dom n with
  | .switching t =>
    if t ≥ 2 then
      let s := raise 45 n .c2 0 (domDown n s)
      if n = 49 then { s with pwr := { s.pwr with testBad := true } } else s
    else s
  | _ => s

def execPowerGood (d : Fin 50) (s : State) : Host.Outcome State Fault Refusal := .next (settle s (powerGood d.val s))
def execPwrDomain (d : Fin 50) (s : State) : Host.Outcome State Fault Refusal := .next (settle s (powerBad d.val s))

/-! ### Lightship mode -/

/-- Every channel's slices are in self-refresh. -/
def allAsleep (s : State) : Bool := (List.range 32).all (chanSr s)

/-- Domains `a` to `b` switch off. -/
def domsDown (a b : Nat) (s : State) : State := (List.range (b + 1 - a)).foldl (fun s i => domDown (a + i) s) s

/-- The last step of R367. -/
def lightshipDark (s : State) : State :=
  if s.ls.on && s.ls.phase = .entered && allAsleep s && (List.range 32).all (fun p => (s.port p).fr.drained) then
    let s := domsDown 4 49 s
    { s with ls := { s.ls with phase := .dark } }
  else s

def execLightshipDomainsOff (s : State) : Host.Outcome State Fault Refusal := .next (settle s (lightshipDark s))

/-- The exit from lightship mode at a boundary (R372). -/
def lightshipLeave (s : State) : State :=
  let s := { s with
    ls := { s.ls with on := false, raised := 0, exitTick := BitVec.ofNat 16 s.day.tick, exitStaged := false, phase := .off }
    pwr := { s.pwr with want := s.ls.domains.filter (fun n => tget DomSt.off s.pwr.dom n == DomSt.off) } }
  let s := s.allPorts (fun _ x => { x with fr := { x.fr with fStack := false } })
  let s := (List.range 8).foldl (fun s k => s.modClu k (fun u => { u with stage := .off, stageTicks := 0, stageEnded := false, restarted := false })) s
  let s := s.modTnd (fun x => { x with scan := true })
  emit { unit := 0x11, inst := 1, cls := .c0, fast := true, payload := .value (BitVec.ofNat 96 s.ls.cause) } s

/-! ### Resets -/

/-- The domains that a stack reset switches on (R427). -/
def startSet (s : State) : List Nat :=
  (List.range 50).filter (fun n => s.tenderPart || n < 44 || n = 49)

/-- The domains begin to switch on once PERST_N is high, bank 0 is accepted and a published round shows every monitor within
its operating window (R402, R432); the test access port is given back (R449). -/
def startUp (s : State) : State :=
  if !s.pwr.started && !s.pwr.perst && !s.pwr.resetting && !s.pwr.held && s.ll.accepted && s.lan.published && supplyOk s.lan then
    { s with pwr := { s.pwr with started := true, want := startSet s }
             wch := { s.wch with ir := 0x01, acting := false, dieSel := 0 } }
  else s

/-- Filtered PERST_N falls (R424, steps 1 and 2). -/
def perstFall (s : State) : State :=
  if s.pwr.held || s.pwr.perst then s
  else
    let s := { s with pwr := { s.pwr with perst := true, resetting := true }, ready := s.ready &&& 0xE000#16 }
    let s := s.allPorts (fun _ x => x.fence s.day.tick s.stackId .stack)
    let s := (List.range 32).foldl (fun s c => stopChannel true c s) s
    collect ((functionReset s).modPcie (fun c => { c with cfgReady := false }))

def execPerstNFall (s : State) : Host.Outcome State Fault Refusal := .next (perstFall s)
def execPerstNRise (s : State) : Host.Outcome State Fault Refusal :=
  .next (if s.pwr.held then s else startUp { s with pwr := { s.pwr with perst := false } })

/-- A channel after a stack reset: the dies stay in self-refresh with their contents (R425). -/
def Chan.afterReset (x : Chan) : Chan :=
  { q := { slices := x.q.slices, banks := x.q.banks.map (fun (b : Nat × Bank) => (b.1, { ptr := b.2.ptr })) }, i := { init := x.i.init } }

/-- The instruction in the test access port is an intrusive one that is available (R447, R449). -/
def intrusiveIr (s : State) : Bool :=
  [0x03, 0x04, 0x05].contains s.wch.ir.toNat || (s.wch.ir == 0x40 && s.ll.life == 0) || (s.wch.ir == 0x50 && s.ll.kprDbg)

/-- The state that a stack reset leaves (R424, R425): every domain is off, so an intrusive instruction in the test access port acts
(R449), and a burn in progress is cut short (R410).
DEDUCED, log entry 47. -/
def stackReset (s : State) : State :=
  let r := State.reset
  let s := if s.ll.burn.isSome then { s.takeFree.takeFree with ll := s.ll.cutBurn (Config.freeWord s.free) (Config.freeWord (s.free + 1)) } else s
  { r with
    day := { r.day with tick := s.day.tick, cyc := s.day.cyc, src := s.day.src, phase := s.day.phase, ts := s.day.ts
                        aligned := s.day.aligned, slewing := s.day.slewing, uncertain := s.day.uncertain }
    flt := { s.flt with line := [], inj := none }
    ls := { r.ls with cause := s.ls.cause, entryTick := s.ls.entryTick, raised := s.ls.raised, exitTick := s.ls.exitTick }
    lan := s.lan
    sec := { r.sec with k := s.sec.k, seenK := s.sec.k }
    clus := (List.range 8).map (fun k => (k, { limit := (s.clu k).limit }))
    chans := s.chans.map (fun (c : Nat × Chan) => (c.1, c.2.afterReset))
    mem := s.mem, chk := s.chk
    ll := { s.ll with gone := (List.range 129).filter (fun b => s.ll.st b = .withdrawn) }
    clk := { r.clk with framePll := s.clk.framePll, frameFrom := s.clk.frameFrom, refclk := s.clk.refclk, mgref := s.clk.mgref }
    ready := s.ready &&& 0xC000#16
    bcn := { r.bcn with lsrc := s.bcn.lsrc.map (fun (l : Nat × LSrc) => (l.1, { active := l.2.active, payload := l.2.payload })) }
    pcie := { r.pcie with out := s.pcie.out }
    pwr := { r.pwr with perst := s.pwr.perst, srLow := s.pwr.srLow, srRun := s.pwr.srRun, srAct := s.pwr.srAct }
    wch := { r.wch with ir := s.wch.ir, acting := intrusiveIr s, dieSel := s.wch.dieSel, cells := s.wch.cells }
    tenderPart := s.tenderPart
    free := s.free
    pending := s.pending }

/-- R424, step 3. -/
def stackResetOff (s : State) : State :=
  if s.pwr.resetting && allAsleep s then startUp (stackReset s) else s

def execStackResetDomainsOff (s : State) : Host.Outcome State Fault Refusal := .next (stackResetOff s)

/-- The always-on reset (R421): it clears all state and is held; the contents of memory are undefined (log entry 2). What the
fuses hold and the levels at the pins are no state that a reset reaches.
DESIGN CHOICE, log entry 2.
DESIGN CHOICE, log entry 5. -/
def execAlwaysOnReset (s : State) : Host.Outcome State Fault Refusal :=
  let s := if s.ll.burn.isSome then { s.takeFree.takeFree with ll := s.ll.cutBurn (Config.freeWord s.free) (Config.freeWord (s.free + 1)) } else s
  .next { State.reset with
    day := { src := if s.clk.refclk then .ref else .rc }
    ll := { fuse := s.ll.fuse, weak := s.ll.weak, life := s.ll.life }
    clk := { refclk := s.clk.refclk, mgref := s.clk.mgref }
    flt := { extLow := s.flt.extLow }
    lan := { trip := s.lan.trip, tripRun := s.lan.tripRun }
    bcn := { lsrc := tset (tset [] 0 { active := s.lan.trip }) 1 { active := s.pwr.srLow } }
    pwr := { held := true, srLow := s.pwr.srLow, srRun := s.pwr.srRun }
    free := s.free
    pending := s.pending }

/-- The always-on reset is released (R421): the tick counter runs from 0 and bank 0 can be sensed. -/
def execAlwaysOnResetRelease (s : State) : Host.Outcome State Fault Refusal :=
  .next { s with pwr := { s.pwr with held := false } }

/-- The test reset (R422, R447). -/
def execTestReset (s : State) : Host.Outcome State Fault Refusal :=
  .next { s with wch := { s.wch with ir := 0x01, acting := false, dieSel := 0 } }

/-! ### Start-up of a cluster (R433) -/

/-- The first and the last tick in which a stage may do its work's end, counted from 1. -/
def Stage4.first : Stage4 → Nat
  | .clock => 16 | .repair => 256 | .tsvs => 1536 | .dies => 1120 | _ => 0
def Stage4.last : Stage4 → Nat
  | .clock => 64 | g => g.first

/-- Cluster `k` stands in a tick of stage `g` that can be its last. -/
def inStage (s : State) (k : Nat) (g : Stage4) : Bool :=
  let u := s.clu k
  u.stage = g && g.first ≤ u.stageTicks + 1 && u.stageTicks + 1 ≤ g.last && !u.stageEnded && s.domOn (36 + k) && !s.ls.on

/-- The next stage begins. -/
def nextStage (k : Nat) (g : Stage4) (s : State) : State :=
  s.modClu k (fun u => { u with stage := g, stageTicks := 0, stageEnded := false })

/-- Stage `g` has done its work: it ends at the coming boundary. -/
def stageDone (k : Nat) (g : Stage4) (f : State → State) (s : State) : State :=
  if inStage s k g then (f s).modClu k (fun u => { u with stageEnded := true }) else s

/-- Stage 1: the PLL has shown lock for 16 ticks. -/
def stageClock (k : Nat) (s : State) : State := stageDone k .clock id s

/-- One repair of the list reaches the latches and multiplexers of its channel (R405, R406): a TSV word uses its spare where it
is free.
DEDUCED, log entry 21. -/
def loadRepair (s : State) (r : Rep) : State :=
  match r with
  | .dataTsv ch p k => s.modInteg ch (fun i => if tget .free i.spareD k = .free then { i with spareD := tset i.spareD k (.carries p) } else i)
  | .cmdTsv ch t k => s.modInteg ch (fun i => if tget .free i.spareC k = .free then { i with spareC := tset i.spareC k (.carries t) } else i)
  | .row ch b r _ => s.modInteg ch (fun i => if i.rowRepair.contains (ch, b, r) then i else { i with rowRepair := i.rowRepair ++ [(ch, b, r)] })
  | .col .. | .spareBad .. => s

/-- The channel that a repair names. -/
def Rep.chan : Rep → Nat
  | .row c .. | .col c .. | .dataTsv c .. | .cmdTsv c .. | .spareBad c .. => c

/-- The repairs in force are loaded (R406). -/
def loadRepairs (k : Nat) (s : State) : State := (s.ll.repairs.filter (fun r => cluOf r.chan = k)).foldl loadRepair s

/-- Stage 2: the repair latches hold what the boundary makes effective. -/
def stageRepair (k : Nat) (s : State) : State := stageDone k .repair id s

/-- Stage 3: TSVs that failed their loopback, as channel, TSV and the dies that cannot receive it, are handled at the coming boundary
(R174 to R177). -/
def stageTsvs (k : Nat) (failing : List (Nat × Nat × BitVec 16)) (s : State) : State :=
  stageDone k .tsvs (fun s => (failing.filter (fun x => cluOf x.1 = k ∧ x.1 < 32 ∧ x.2.1 < 324)).foldl
    (fun s x => tsvFailed x.1 x.2.1 x.2.2 s) s) s

/-- R404 at cluster readiness: the ROW words of INVALID banks first mark the mooring spare rows that they name as bad, then move the
rows they name into mooring entries. -/
def invalidAct (k : Nat) (s : State) : State :=
  let sp := spareRow0 s.tenderPart
  let rows := (invalidRows s.ll).filterMap (fun r => match r with
    | .row c b r _ => if cluOf c = k then some (c, b, r) else none
    | _ => none)
  let isSpare := fun (x : Nat × Nat × Nat) => decide (sp ≤ x.2.2 ∧ x.2.2 < sp + 32)
  let s := (rows.filter isSpare).foldl (fun s x => markBad x.1 x.2.1 (x.2.2 - sp) s) s
  (moorRows ((rows.filter (fun x => !isSpare x)).filter (fun x => !retiredSlice s x.1 (dieOf x.2.1))) s).1

/-- Stage 4: the dies are initialised and trained. -/
def stageDies (k : Nat) (s : State) : State := stageDone k .dies id s

/-- The boundary after stage 4 (R154, R433): the dies are awake, and the cluster is ready at F0, at its former target or at a slower step that
Lantern asks for. Entries of the merge buffer that wait from before go on. -/
def diesUp (k : Nat) (s : State) : State :=
  let u := s.clu k
  let step := max u.mgrTarget u.limit
  let s := s.modClu k (fun u => { u with
    stage := .up, stageTicks := 0, stageEnded := false, step := step, target := step, stepTick := 0, clkStop := false, sinceEnd := 8
    held := none })
  let s := (List.range 4).foldl (fun s j => s.modChan (4 * k + j) (fun x => { x with
    q := ((List.range 16).filter (fun d => !doomed x.i d)).foldl (Sched.exitSr step s.day.tick) { x.q with doubled := s.lan.rate }
    i := { x.i with init := true } })) s
  let s := invalidAct k { s with ready := s.ready ||| (1#16 <<< k) }
  let s := (moorRows (withdrawnRows k s) s).1
  (List.range 4).foldl (fun s j => closeDue (4 * k + j) s) s

/-- A stage fails (R433): it is abandoned, and the cluster starts again from stage 1 at the coming boundary, once; then it stays not
ready. -/
def stageFail (k : Nat) (s : State) : State :=
  let u := s.clu k
  if !(s.domOn (36 + k)) || s.ls.on then s
  else match u.stage with
    | .off | .up | .failed => s
    | _ =>
      if !u.restarted then s.modClu k (fun u => { u with stage := .off, stageTicks := 0, stageEnded := false, restarted := true, phyBad := false })
      else
        let s := s.modClu k (fun u => { u with stage := .failed, stageTicks := 0, stageEnded := false, stepFail := satInc u.stepFail, evt := u.evt.raise 1 })
        let s := cluRecord k s
        raise 16 k .c2 (payloadSoon s (.dccCluster k)) s

def execClusterStageClock (k : CluId) (s : State) : Host.Outcome State Fault Refusal := .next (stageClock k.val s)
def execClusterStageRepair (k : CluId) (s : State) : Host.Outcome State Fault Refusal := .next (stageRepair k.val s)
def execClusterStageTsvs (k : CluId) (f : List (Nat × Nat × BitVec 16)) (s : State) : Host.Outcome State Fault Refusal := .next (stageTsvs k.val f s)
def execClusterStageDies (k : CluId) (s : State) : Host.Outcome State Fault Refusal := .next (stageDies k.val s)
def execClusterStageFail (k : CluId) (s : State) : Host.Outcome State Fault Refusal := .next (settle s (stageFail k.val s))

end Sys2Proof.Machine
end

