-- ==== Sys2Proof/Machine/Test.lean ====
section
/-! DEFINITION. Self-test of the TSVs (R438 to R446), the test access port (R447 to R450), and the passes' records. -/

namespace Sys2Proof.Machine

def State.modWch (s : State) (f : Wch → Wch) : State := { s with wch := f s.wch }

/-! ### Groups (R438) -/

/-- Channel and TSV of member `m` of stack group `g`; a TSV is numbered as log entry 11 says. -/
def member (g m : Nat) : Nat × Nat :=
  if 1280 ≤ g then (2 * (g - 1280) + m / 4, 280 + 36 + m % 4)
  else
    let i := g / 32
    (g % 32, if i < 35 then 8 * i + m else if i < 39 then 280 + 8 * (i - 35) + m
      else if m < 4 then 280 + 32 + m else 280 + 36 + m)

/-- The channels of a group. -/
def groupChans (g : Nat) : List Nat := if 1280 ≤ g then [2 * (g - 1280), 2 * (g - 1280) + 1] else [g % 32]

/-- The stand-ins of a group are data-class spares. -/
def dataGroup (g : Nat) : Bool := g < 1280 && g / 32 < 35

/-- The spare that TSV `t` is: its class and number. -/
def spareOf (t : Nat) : Option (Bool × Nat) :=
  if 272 ≤ t ∧ t < 280 then some (true, t - 272) else if 320 ≤ t then some (false, t - 320) else none

def Integ.spare (i : Integ) (dat : Bool) (k : Nat) : SpareSt := tget .free (if dat then i.spareD else i.spareC) k

/-- The TSV carries a logical position or a command (R440). -/
def inUse (i : Integ) (t : Nat) : Bool :=
  match spareOf t with
  | some (d, k) => (match i.spare d k with | .carries _ => true | _ => false)
  | none => if t < 272 then !((List.range 8).any (fun k => i.spare true k = .carries t))
            else !((List.range 4).any (fun k => i.spare false k = .carries (t - 280)))

/-- The TSV is a free spare. -/
def freeSpareTsv (i : Integ) (t : Nat) : Bool := match spareOf t with | some (d, k) => i.spare d k = .free | none => false

/-- Spares of the group's class that can stand in: free ones that no failed member still travels on (R440, R442). -/
def standIns (s : State) (g : Nat) : List Nat :=
  if 1280 ≤ g then []
  else
    let ch := g % 32
    let dat := dataGroup g
    (List.range (if dat then 8 else 4)).filter (fun k => (s.chan ch).i.spare dat k = .free &&
      !(s.wch.suspects.any (fun x => x.ch = ch && x.spare = some k && (x.tsv < 280) == dat)))

/-- R443, but for its last two rows: the slice cannot run on the group's channels. -/
def groupBlocked (s : State) (g : Nat) : Bool :=
  (groupChans g).any (fun ch => !s.cluReady (cluOf ch) || (s.clu (cluOf ch)).inStep || (s.chan ch).i.retChan ||
    (List.range 16).any (fun d => ((s.chan ch).q.slice d).sr))

/-- The members that a slice of group `g` tests, with their stand-ins, and where its rotation pointer then stands; `done` are
left out. `none` where a member needs a stand-in and none is free (R440).
DEDUCED, log entry 32. -/
def sliceOf (s : State) (g : Nat) (done : BitVec 8) : Option (List (Nat × Option Nat) × Nat) :=
  let rot := tget 0 s.wch.rot g
  let order := (List.range 8).map (fun j => (rot + j) % 8)
  let i := fun (m : Nat) => (s.chan (member g m).1).i
  let ok := fun (m : Nat) => !((i m).failing.contains (member g m).2) && !done.getLsbD m
  if 1280 ≤ g then some (((List.range 8).filter ok).map (fun m => (m, none)), rot)
  else
    let need := order.filter (fun m => ok m && inUse (i m) (member g m).2)
    let st := standIns s g
    if !need.isEmpty && st.isEmpty then none
    else
      let used := need.zip st
      let free := (List.range 8).filter (fun m => ok m && freeSpareTsv (i m) (member g m).2 &&
        !(used.any (fun u => spareOf (member g m).2 = some (dataGroup g, u.2))))
      some (used.map (fun u => (u.1, some u.2)) ++ free.map (fun m => (m, none)),
        match used.getLast? with | some u => (u.1 + 1) % 8 | none => rot)

def maskOf (l : List Nat) : BitVec 8 := l.foldl (fun w m => w ||| (1#8 <<< m)) 0

/-! ### Slices (R441, R442) -/

/-- A slice that is skipped (R443). -/
def skipGroup (g : Nat) (s : State) : State :=
  s.modWch (fun w => { w with lastGroup := g, lastSkipped := true, lastTested := 0, lastFailed := 0, run := { w.run with skip := w.run.skip + 1 } })

/-- The tested members `l` of group `g`, of which `failing` fail: each becomes a suspect on its stand-in for the next tick's test; `before` is
where the TSV_TEST stood whose slice it is. -/
def sliceFails (before : Option TsvTest) (g : Nat) (l : List (Nat × Option Nat)) (failing : List Nat) (s : State) : State :=
  let bad := l.filter (fun x => failing.contains x.1)
  let cmd := before.isSome
  let s := s.modWch (fun w => { w with
    run := { w.run with tested := w.run.tested + l.length }
    slices := w.slices ++ [{ count := l.length, due := s.day.tick + 1, before := before
                             spares := l.filterMap (fun x => x.2.map (fun k => ((member g x.1).1, dataGroup g, k))) }]
    suspects := w.suspects ++ bad.map (fun x =>
      { ch := (member g x.1).1, tsv := (member g x.1).2, spare := x.2, due := s.day.tick + 1, cmd := cmd }) })
  if bad.isEmpty then s else s.modWch (fun w => { w with evt := w.evt.raise 0 })

/-- The slice of the tick's group (R439 to R443). -/
def pointerSlice (failing : List Nat) (s : State) : State :=
  let w := s.wch
  if w.ran || w.paused || !s.domOn 49 then s
  else
    let g := w.ptr
    let s := s.modWch (fun w => { w with ran := true })
    let busy := match w.tsvTest with | some t => (groupChans g).contains t.ch | none => false
    if groupBlocked s g || busy then skipGroup g s
    else match sliceOf s g 0 with
      | none => skipGroup g s
      | some (l, rot) =>
        let s := s.modWch (fun w => { w with
          rot := tset w.rot g rot, lastGroup := g, lastSkipped := false, lastTested := maskOf (l.map (·.1))
          lastFailed := maskOf ((l.map (·.1)).filter (fun m => failing.contains m)) })
        sliceFails none g l failing s

/-- The stack group that a TSV_TEST has reached (R444). -/
def TsvTest.stackGroup (t : TsvTest) : Nat := if t.group < 40 then 32 * t.group + t.ch else 1280 + t.ch / 2

/-- The next group of a TSV_TEST. -/
def TsvTest.next (t : TsvTest) : TsvTest := { t with group := t.group + 1, done := 0 }

/-- The slice of a TSV_TEST in this tick (R444): the group repeats until every member that is not failing has been tested; a group
that cannot run is left uncovered. -/
def testSlice (failing : List Nat) (s : State) : State :=
  match s.wch.tsvTest with
  | none => s
  | some t =>
    if t.group > 40 || t.ranTick = some s.day.tick || !s.domOn 49 then s
    else
      let g := t.stackGroup
      let t := { t with ranTick := some s.day.tick }
      let put := fun (t : TsvTest) (s : State) => s.modWch (fun w => { w with tsvTest := some t })
      if groupBlocked s g then put { t.next with skipped := t.skipped + 1 } s
      else match sliceOf s g t.done with
        | none => put { t.next with skipped := t.skipped + 1 } s
        | some (l, rot) =>
          let t2 := { t with done := t.done ||| maskOf (l.map (·.1)), tested := t.tested + l.length }
          let s := sliceFails (some t) g l failing (s.modWch (fun w => { w with rot := tset w.rot g rot }))
          let more := match sliceOf s g t2.done with
            | some (l2, _) => !l2.isEmpty
            | none => true
          put (if more && g < 1280 && !l.isEmpty then t2 else t2.next) s

/-- The slices of the current tick run (R439, R441, R444): `failing` names the members that fail, 0 to 7 of the pointer's group, 8 to 15
of the group of a TSV_TEST (log entry 30).
DESIGN CHOICE, log entry 30. -/
def tsvSlices (failing : List Nat) (s : State) : State :=
  testSlice ((failing.filter (8 ≤ ·)).map (· - 8)) (pointerSlice failing s)

def execTsvBistSlice (f : List Nat) (s : State) : Host.Outcome State Fault Refusal := .next (tsvSlices f s)

/-- The confirming test of the first member that is due (R442). A failing TSV is handled at the coming boundary; `fails` holds
the dies that cannot receive a failing command TSV (R177). -/
def confirmTest (fails : Option (BitVec 16)) (s : State) : State :=
  match s.wch.suspects.find? (fun x => x.due ≤ s.day.tick) with
  | none => s
  | some x =>
    let s := s.modWch (fun w => { w with suspects := w.suspects.erase x })
    match fails with
    | none => s
    | some dies =>
      let s := s.modWch (fun w => { w with
        fail := satInc w.fail, run := { w.run with failed := w.run.failed + 1 }
        tsvTest := w.tsvTest.map (fun t => if x.cmd then { t with failed := t.failed + 1 } else t) })
      tsvFailed x.ch x.tsv dies s

def execTsvConfirmTest (fails : Option (BitVec 16)) (s : State) : Host.Outcome State Fault Refusal := .next (confirmTest fails s)

/-! ### Boundaries of self-test -/

/-- The payload of a BIST record (R446). -/
def bistPay (ticks skipped tested failed pass : Nat) : BitVec 96 :=
  BitVec.ofNat 96 (min ticks 0xFFFFFFFF + min skipped 0xFFFF * 2 ^ 32 + tested % 2 ^ 14 * 2 ^ 48 + min failed 0xFFFF * 2 ^ 64 + pass % 2 ^ 16 * 2 ^ 80)

/-- A repair of the boundary has taken a stand-in of slice `r` (R443). -/
def sliceLost (s : State) (r : SliceRun) : Bool := r.spares.any (fun x => (s.chan x.1).i.spare x.2.1 x.2.2 != .free)

/-- The ended tick's slices and confirming tests that no command named have passed; the pointer advances (R439); a pass ends (R446).
DEDUCED, log entry 57. -/
def wchEnd (s : State) : State :=
  let s := s.modWch (fun w => { w.uncoverAll (sliceLost s) with slices := [] })
  let late := s.wch.suspects.filter (fun x => x.due < s.day.tick)
  let s := s.modWch (fun w => { w with suspects := w.suspects.filter (fun x => !(late.contains x)), ran := false
                                       run := { w.run with ticks := w.run.ticks + 1 } })
  let go := s.domOn 49 && s.day.tsvBistEn
  let s := s.modWch (fun w => { w with paused := !go, ptr := if go then (w.ptr + 1) % 1296 else w.ptr })
  if go && s.wch.ptr = 0 then
    let r := s.wch.run
    let s := s.modWch (fun w => { w with
      passTicks := min r.ticks 0xFFFFFFFF, skip := min r.skip 0xFFFFFFFF, passes := w.passes + 1, run := {} })
    emit { unit := 0x0E, inst := 0, cls := .c0, payload := .value (bistPay r.ticks r.skip r.tested r.failed s.wch.passes) } s
  else s

/-- A lane pass ends with the round 156k + 155 (R445, R446). -/
def lanePassEnd (s : State) : State :=
  if s.day.tick % 9984 = 0 && s.day.tick > 0 then
    let r := s.wch.laneRun
    let skip := 4992 - r.tested
    let s := s.modWch (fun w => { w with lanePassTicks := 9984, laneSkip := skip, lanePasses := w.lanePasses + 1, laneRun := {} })
    emit { unit := 0x0E, inst := 1, cls := .c0, payload := .value (bistPay 9984 skip r.tested r.failed s.wch.lanePasses) } s
  else s

/-- What holds domain 49 on (R427). -/
def testPower (s : State) : Bool :=
  s.day.tsvBistEn || s.day.laneBistEn || s.wch.tsvTest.isSome || (s.wch.ir != 0xFF && s.wch.ir != 0x01)

/-- Domain 49 follows R427 at a boundary; what its unit was doing is lost. Where it has failed to switch on it stays off until nothing
has held it for a boundary (R428).
DEDUCED, log entry 58. -/
def testDomain (s : State) : State :=
  if !s.pwr.started || s.ls.on || s.pwr.perst then s
  else if testPower s then
    (if s.pwr.testBad then s else if tget .off s.pwr.dom 49 = .off && !(s.pwr.want.contains 49) then { s with pwr := { s.pwr with want := s.pwr.want ++ [49] } } else s)
  else
    let s := domDown 49 s
    { s with pwr := { s.pwr with testBad := false } }

/-! ### The test access port (R447 to R450) -/

/-- Every switched domain is off. -/
def darkDomains (s : State) : Bool := s.pwr.dom.all (fun d => d.2 == .off)

/-- A non-intrusive instruction, or one that acts as BYPASS, is loaded.
DEDUCED, log entry 31. -/
def tapLoad (code : BitVec 8) (s : State) : State := s.modWch (fun w => { w with ir := code, acting := false })

/-- An intrusive instruction acts only while every switched domain is off (R449). -/
def tapIntrude (code : BitVec 8) (s : State) : State :=
  if darkDomains s then s.modWch (fun w => { w with ir := code, acting := true })
  else s.modWch (fun w => { w with ir := code, acting := false, evt := w.evt.raise 1 })

/-- What IDCODE and STATUS shift out (R448). -/
def idcodeWord (s : State) : Word32 :=
  fld (s.ll.stepping / 16) 28 ||| fld 0x1696 12 ||| fld 0x2E9 1 ||| 1#32
def statusWord (s : State) : Word32 :=
  fld s.ll.hold 0 ||| fld s.ll.bootHold.toNat 3 ||| fld s.ll.life 4 ||| fld (!s.pwr.perst).toNat 6 ||| fld s.ls.on.toNat 7
    ||| fld (s.day.tick % 65536) 16

/-- What the pins with cells show when they are sampled: PERST_N, SR_N, TRIP_N, FH_N and the Watch bumps, which the model does not
drive (R449). -/
def sampled (s : State) : BitVec 64 :=
  BitVec.ofNat 64 ((!s.pwr.perst).toNat + (!s.pwr.srLow).toNat * 2 + (!s.lan.trip).toNat * 4
    + (!(s.flt.pulse || s.flt.drive || s.flt.extLow)).toNat * 8)

def execIdcode (s : State) : Host.Outcome State Fault Refusal := .next (tapLoad 0x01 s)
def execSamplePreload (cells : Option (BitVec 64)) (s : State) : Host.Outcome State Fault Refusal :=
  .next ((tapLoad 0x02 s).modWch (fun w => { w with cells := cells.getD (sampled s) }))
def execExtest (s : State) : Host.Outcome State Fault Refusal := .next (tapIntrude 0x03 s)
def execClamp (s : State) : Host.Outcome State Fault Refusal := .next (tapIntrude 0x04 s)
def execHighz (s : State) : Host.Outcome State Fault Refusal := .next (tapIntrude 0x05 s)
def execStatus (s : State) : Host.Outcome State Fault Refusal := .next (tapLoad 0x10 s)
def execDieSel (sel : BitVec 16) (s : State) : Host.Outcome State Fault Refusal :=
  .next ((tapLoad 0x20 s).modWch (fun w => { w with dieSel := sel }))
/-- FUSE (R415, R447): in FACTORY, and while it acts, the bits are burned into the word, without the shadow. -/
def execFuse (b : Fin 129) (w : Fin 256) (bits : BitVec 64) (s : State) : Host.Outcome State Fault Refusal :=
  .next (if s.ll.life ≠ 0 then tapLoad 0x40 s
    else if darkDomains s && w.val < bankSize b.val then
      (tapIntrude 0x40 s).modLl (fun l => { l with
        fuse := tset l.fuse (fkey b.val w.val) (l.normal b.val w.val ||| bits)
        weak := tset l.weak (fkey b.val w.val) (tget 0 l.weak (fkey b.val w.val) &&& ~~~bits) })
    else tapIntrude 0x40 s)
def execKdbg (s : State) : Host.Outcome State Fault Refusal := .next (if s.ll.kprDbg then tapIntrude 0x50 s else tapLoad 0x50 s)
def execBypass (s : State) : Host.Outcome State Fault Refusal := .next (tapLoad 0xFF s)

end Sys2Proof.Machine
end

