-- ==== Sys2Proof/Machine/Renjan.lean ====
section
/-! DEFINITION. The Renjan command set (R313 to R330): how Keeper takes and checks a command, what deciding each comes to, and the waits
before a response. -/

namespace Sys2Proof.Machine

/-! ### Requests -/

/-- Request words of FUSE_PROGRAM besides q0 (R325). -/
def fuseCount (q0 : Word32) : Nat := bitsOf q0 24 8

/-- The word masks that a request may set, one for each payload word, and the mailboxes that may carry the command: normal, fast
(R318 to R330). `none` for a code that is not defined. -/
def cmdForm (code : Nat) (q0 : Word32) : Option (List Word32 × Bool × Bool) :=
  let n := fun (l : List Word32) => some (l, true, false)
  let all : Word32 := 0xFFFFFFFF
  match code with
  | 0x0101 => some ([], true, true)
  | 0x0102 => n [0xFFF]
  | 0x0201 => n [all, 1]
  | 0x0202 => some ([all], true, true)
  | 0x0203 => some ([all], true, true)
  | 0x0204 => n [all, 1]
  | 0x0205 => n [0x1F]
  | 0x0301 => n [0x37]
  | 0x0302 => n [0x107]
  | 0x0401 => n [0x1FFFFF]
  | 0x0402 => n []
  | 0x0501 => n [0x3FFFF, all, 0xFFFF, 0x3FFFFF]
  | 0x0502 | 0x0503 | 0x0504 | 0x0505 => n [0x3FFFF]
  | 0x0506 => n [0xFFFF, 0x1FFFFFF]
  | 0x0507 => n [0xFFFF]
  | 0x0508 => n [0xFFFF0003, all, 0xFFFF, all]
  | 0x0509 => n [0x3F, 0xFFFFF000, 0x1F, 0x1FFFFFF, 0xFFF]
  | 0x050A => n [0x3F]
  | 0x050B => n [0x11F]
  | 0x0601 => n [0x1F, all, all]
  | 0x0602 => n [0x1F, 0x1F]
  | 0x0603 => n [0x1F, 1]
  | 0x0604 => n [0x1F, all]
  | 0x0605 => n [0x11F]
  | 0x0606 => n [0xFFFFFFF]
  | 0x0607 => n (all :: List.replicate (2 * fuseCount q0) all)
  | 0x0608 => n [0xFF]
  | 0x0609 => n [0xFF]
  | 0x060A => n [0xFFFFFF]
  | 0x0701 => n [0xF]
  | 0x0702 => some ([0x3F, all], false, true)
  | 0x0703 => n [0xFFFF]
  | 0x0704 => n []
  | 0x0801 => n []
  | 0x0802 => n [0x1F]
  | 0x0803 => n [0x7FF]
  | 0x0901 => n []
  | 0x0902 => n [0xFFFFFF]
  | 0x0A01 => n [all, 0x1F]
  | 0x0A02 => n [3, all]
  | 0x0A03 => some ([], true, true)
  | 0x0B01 => n [0x1FFFF0F]
  | 0x0B02 => some ([1], true, true)
  | 0x0B03 => some ([], false, true)
  | _ => none

/-- Word `i` of the request that a mailbox holds. -/
def Mbx.q (x : Mbx) (i : Nat) : Word32 := tget 0 x.data i

/-- Status codes (R317). -/
def rOK := 0
def rUNKNOWN := 1
def rINVALID := 2
def rABSENT := 3
def rNOTREADY := 4
def rBUSY := 5
def rOVERCOMMIT := 6
def rDENIED := 7
def rAUTHFAIL := 8
def rFAILED := 9

/-- Steps 1 to 4 of R318: the status that refuses a command in mailbox `m`. -/
def formCheck (s : State) (m : Nat) (x : Mbx) : Option (Nat × List Word32) :=
  if !s.tenderPart ∧ 0x0500 ≤ x.cmd.toNat ∧ x.cmd.toNat ≤ 0x05FF then some (rABSENT, [])
  else match cmdForm x.cmd.toNat (x.q 0) with
    | none => some (rUNKNOWN, [])
    | some (masks, nrm, fst) =>
      if !(if m = 4 then fst else nrm) then some (rDENIED, [1])
      else if x.len.toNat ≠ masks.length then some (rINVALID, [])
      else if (List.range masks.length).all (fun i => x.q i &&& ~~~(masks.getD i 0) = 0) then none
      else some (rINVALID, [])

/-- The fields that a command stages (R316), by kind and index: kind 3 is cause MANAGER of a port, with 16 where it is set and 15 where it is
cleared. -/
def cmdKeys (code : Nat) (x : Mbx) : List (Nat × Nat) :=
  let ports := fun (k : Nat) => ((List.range 32).filter (fun p => (x.q 0).getLsbD p)).map (fun p => (k, p))
  match code with
  | 0x0102 => [(1, 0)]
  | 0x0201 => ports 2
  | 0x0202 => ports 3 ++ ports 16
  | 0x0203 => ports 3 ++ ports 15
  | 0x0204 => ports 4
  | 0x0301 => [(5, bitsOf (x.q 0) 0 3)]
  | 0x0302 => [(6, bitsOf (x.q 0) 0 3)]
  | 0x0401 => [(7, 0)]
  | 0x0506 | 0x0507 => [(8, bitsOf (x.q 0) 0 16)]
  | 0x0509 | 0x050A => [(9, bitsOf (x.q 0) 0 6)]
  | 0x050B => ((List.range 5).filter (fun i => (x.q 0).getLsbD i)).map (fun i => (10, i))
  | 0x0702 => [(11, 0)]
  | 0x0703 => [(12, 0)]
  | 0x0803 => [(13, 0)]
  | 0x0B02 => [(14, 0)]
  | _ => []

/-! ### Deciding -/

/-- What deciding a command comes to: the state, and its status with the response words, or nothing while it waits. -/
abbrev Decision := State × Option (Nat × List Word32)

def done_ (s : State) (d : List Word32) : Decision := (s, some (rOK, d))
def refuse (s : State) (st : Nat) (d : List Word32) : Decision := (s, some (st, d))

/-- The mailbox, where the command still has one, waits. -/
def waitFor (m : Option Nat) (w : Wait) (s : State) : Decision :=
  match m with
  | some m => (s.modMbx m (fun x => { x with wait := some w }), none)
  | none => (s, none)

/-! #### Identity, ports (R320, R321) -/

def rIdentGet (s : State) : Decision :=
  done_ s [(readReg s 0x00).getD 0, (readReg s 0x04).getD 0, lo32 s.ll.serial.toNat, hi32 s.ll.serial.toNat, fld romVersion 0,
    fld s.kpr.patchVersion.toNat 0, fld 0x0100 0 ||| fld s.ll.life 16 ||| fld s.stackId.toNat 18]

/-- Relayed traffic of this stack is outstanding or in progress (R64). In progress is a RELAYED request whose tag is not free, answered and
waiting for its acknowledgement or in RECOVER too, but for a tag that stands in the retention array.
DEDUCED, log entry 72. -/
def relayTraffic (s : State) : Bool :=
  s.ports.any (fun x => x.2.rly.rtags.any (fun t => t.2.st == .outstanding) ||
    x.2.fr.tags.any (fun t => t.2.kind == .relayed && t.2.st != .free))

def rStackIdSet (x : Mbx) (s : State) : Decision :=
  if relayAny s || relayTraffic s then refuse s rBUSY [] else done_ { s with stackId := (x.q 0).extractLsb' 0 12 } []

/-- The ports of a set. -/
def portSet (v : Word32) : List Nat := (List.range 32).filter (fun p => v.getLsbD p)

/-- A domain is on or is to be switched on. -/
def domWanted (s : State) (n : Nat) : Bool := tget .off s.pwr.dom n != .off || s.pwr.want.contains n

def wantDom (s : State) (n : Nat) : State := if domWanted s n then s else { s with pwr := { s.pwr with want := s.pwr.want ++ [n] } }

/-- PORT_POWER (R25, R321, R429). `later` are the fields that commands taken later in the tick stage.
DEDUCED, log entry 55. -/
def rPortPower (m : Option Nat) (later : List (Nat × Nat)) (x : Mbx) (s : State) : Decision :=
  let on := (x.q 1).getLsbD 0
  let named := portSet (x.q 0)
  let after := fun (p : Nat) => if named.contains p then on else domWanted s (portDom p)
  if s.ls.on then refuse s rBUSY []
  else if (List.range 32).any (fun p => p % 8 ≠ 0 && after p && !after (8 * (p / 8))) then refuse s rBUSY []
  else
    let ps := named.filter (fun p => !(later.contains (2, p)))
    if on then waitFor m (.ports ((ps.foldl (fun w p => w ||| (1#32 <<< p)) 0))) (ps.foldl (fun s p => wantDom s (portDom p)) s)
    else done_ (ps.foldl (fun s p => domDown (portDom p) s) s) []

/-- PORT_FENCE (R321); of two commands of one tick that stage cause MANAGER the later one does (R316). -/
def rPortFence (later : List (Nat × Nat)) (x : Mbx) (s : State) : Decision :=
  done_ (((portSet (x.q 0)).filter (fun p => !later.contains (15, p))).foldl (fun s p => fencePort p .mgr s) s) []

/-- Fence causes clear; where the last one goes the fence lifts (R126). -/
def unfence (f : Frames → Frames) (p : Nat) (s : State) : State :=
  s.modPort p (fun x =>
    let y := { x with fr := f x.fr }
    if x.fr.fenced && !y.fr.fenced then y.lift s.day.tick s.stackId else y)

/-- PORT_UNFENCE (R321); where a later PORT_FENCE of the tick stages MANAGER, that cause holds on throughout. -/
def rPortUnfence (later : List (Nat × Nat)) (x : Mbx) (s : State) : Decision :=
  let ps := portSet (x.q 0)
  if ps.any (fun p => (s.port p).link.lstate != .active) then refuse s rBUSY []
  else done_ (ps.foldl (fun s p =>
    if later.contains (16, p) then unfence (fun f => { f with fFault := false, fProto := false }) p (fencePort p .mgr s)
    else unfence (fun f => { f with fMgr := false, fFault := false, fProto := false }) p s) s) []

def rRelaySet (x : Mbx) (s : State) : Decision :=
  let en := (x.q 1).getLsbD 0
  if en && s.stackId = 0xFFF then refuse s rBUSY []
  else done_ ((portSet (x.q 0)).foldl (fun s p => s.modPort p (fun y => { y with rly := { y.rly with en := en } })) s) []

def rZombieRelease (x : Mbx) (s : State) : Decision :=
  let p := bitsOf (x.q 0) 0 5
  let n := ((s.port p).rly.rtags.filter (fun t => t.2.st == .zombie)).length
  done_ (s.modPort p (fun y => { y with rly := { y.rly with rtags := y.rly.rtags.filter (fun t => t.2.st != .zombie) } })) [fld n 0]

/-! #### Clusters, sector classes (R322, R323) -/

/-- The step that a cluster is to run at (R154). -/
def Clu.wanted (u : Clu) : Nat := max u.mgrTarget u.limit

def rClusterStep (m : Option Nat) (x : Mbx) (s : State) : Decision :=
  let k := bitsOf (x.q 0) 0 3
  if s.ls.on || !s.cluReady k then refuse s rNOTREADY []
  else waitFor m (.step k (s.clu k).step) (s.modClu k (fun u => { u with mgrTarget := bitsOf (x.q 0) 4 2 }))

def rClusterPower (m : Option Nat) (later : List (Nat × Nat)) (x : Mbx) (s : State) : Decision :=
  let k := bitsOf (x.q 0) 0 3
  let n := 36 + k
  if s.ls.on then refuse s rBUSY []
  else if later.contains (6, k) then done_ s []
  else if (x.q 0).getLsbD 8 then
    waitFor m (.cluOn k) (wantDom (s.modClu k (fun u => { u with draining := false })) n)
  else
    let s := { (s.modClu k (fun u => { u with mgrTarget := 0, draining := s.domOn n })) with ready := s.ready &&& ~~~(1#16 <<< k) }
    waitFor m (.cluOff k) (if s.domOn n then s else domDown n s)

/-- The PORT budgets in effect from the boundary: those written in the ended tick, else those in effect (R204). -/
def newBudget (s : State) (c : Nat) : Nat :=
  match lastStaged s.staged (0x200 + 4 * c) with
  | some v => bitsOf v 0 10
  | none => tget 512 s.sec.port c

def rSectAdmit (x : Mbx) (s : State) : Decision :=
  let p := fun (c : Nat) => bitsOf (x.q 0) (3 * c) 3
  let l := List.range 7
  if (s.ready.extractLsb' 0 8) = 0 then refuse s rNOTREADY []
  else if l.any (fun c => p c > 5) then refuse s rINVALID []
  else if l.foldl (fun n c => n + p c) 1 > (liveCounts s).1 then refuse s rOVERCOMMIT []
  else if !cond4 p (newBudget s) then refuse s rOVERCOMMIT []
  else if s.sec.k ≠ 0 && l.any (fun c => p c > s.sec.p c) then refuse s rBUSY []
  else done_ (s.modSec (fun y => { y with adm := l.map (fun c => (c, p c)), admitted := true, evt := y.evt.raise 1 })) []

def rSectQuery (s : State) : Decision :=
  let w := fun (f : Nat → Nat) => (List.range 7).foldl (fun w c => w ||| fld (f c) (3 * c)) 0
  done_ s [w s.sec.p, w s.sec.effOf, fld s.sec.dMin 0 ||| fld s.sec.nLive 3 ||| fld s.sec.k 9]

/-! #### Streams and address spaces (R252, R324) -/

/-- The translation unit and the context of stream `n` can be used (R274, R434). -/
def streamReady (s : State) (n : Nat) : Bool :=
  xlReady s && (isResident s n || ctxRetired s n || (ctxWritten s n && s.cluReady (ctxClu n)))

def dropResident (n : Nat) (s : State) : State :=
  s.modTnd (fun x => { x with clus := x.clus.map (fun (u : Nat × TndClu) => (u.1, { u.2 with res := u.2.res.filter (fun r => r.stream ≠ n) })) })

def rStreamAlloc (x : Mbx) (s : State) : Decision :=
  let n := bitsOf (x.q 0) 0 18
  let desc := (x.q 1).toNat + bitsOf (x.q 2) 0 16 * 2 ^ 32
  let cls := bitsOf (x.q 3) 16 3
  if !streamReady s n then refuse s rNOTREADY []
  else if cls = 7 ∨ desc % 64 ≠ 0 then refuse s rINVALID []
  else
    let c := ctxOf s n
    if c.state ≠ sFREE ∨ s.tnd.barred.contains n then refuse s rBUSY []
    else
      let c2 : Ctx := { gen := c.gen + 1, state := sIDLE, desc := desc, asid := bitsOf (x.q 3) 0 16, cls := cls
                        tcl := bitsOf (x.q 3) 19 2, notify := (x.q 3).getLsbD 21 }
      done_ (putCtx n c2 s) [fld c2.gen.toNat 0]

def rStreamFree (x : Mbx) (s : State) : Decision :=
  let n := bitsOf (x.q 0) 0 18
  if !streamReady s n then refuse s rNOTREADY []
  else
    let c := ctxOf s n
    if c.state ≠ sIDLE ∧ c.state ≠ sDONE ∧ c.state ≠ sSTOPPED ∧ c.state ≠ sUNUSABLE then refuse s rBUSY []
    else
      let stays := c.state = sUNUSABLE ∧ c.cause = cCTXRETIRED
      let c2 : Ctx := if stays then { gen := c.gen + 1, state := sUNUSABLE, cause := cCTXRETIRED } else { gen := c.gen + 1, state := sFREE }
      let s := storeCtx n c2 (dropWait n (dropResident n s))
      done_ (if stays then s.modTnd (fun y => { y with barred := n :: y.barred.filter (· ≠ n) }) else s) [fld c2.gen.toNat 0]

/-- 32-bit words of a list of bytes. -/
def wordsOf (n : Nat) (b : List (BitVec 8)) : List Word32 := (List.range n).map (fun i => lo32 (leNat (slice b (4 * i) 4)))

def rStreamQuery (x : Mbx) (s : State) : Decision :=
  let n := bitsOf (x.q 0) 0 18
  if !streamReady s n then refuse s rNOTREADY [] else done_ s (wordsOf 32 (ctxOf s n).bytes)

/-- STREAM_RESUME and STREAM_ABORT: as RESUME and ABORT of R249, without a generation. -/
def rStreamCmd (cmd : Nat) (x : Mbx) (s : State) : Decision :=
  let n := bitsOf (x.q 0) 0 18
  if !streamReady s n then refuse s rNOTREADY []
  else
    let c := ctxOf s n
    if !cmdAllowed cmd c then refuse s rBUSY []
    else
      let r := applyCmd cmd n true s
      done_ (if r.2 then r.1.modTnd (fun y => { y with dbq := y.dbq ++ [{ src := none, stream := n, gen := c.gen, cmd := cmd, reading := true }] })
        else r.1) []

/-- A 64-bit word of stack memory is replaced by an access of class 7, a partial write (R168); `false` where its granule is poisoned and nothing
is written (R107). -/
def pokeWord (a : Nat) (v : BitVec 64) (s : State) : State × Bool :=
  let g := a / 64
  let s := (ownAccess {} g (fun s =>
    (mergeUnits g (1#8 <<< (a % 64 / 8)) (patch (List.replicate 64 0) (a % 64) (leBytes 8 v.toNat)) s, ())) s).1
  (s, match (s.chan (chanOf a)).i.mergeOf g with | some m => (match m.fill with | .poisoned _ => false | _ => true) | none => true)

/-- Local accesses in flight that were translated through address space `asid` (all where none is given) for addresses in a range. -/
def accessesOf (s : State) (asid : Option Nat) (lo hi : Nat) : List (Nat × Nat) :=
  (List.range 4).flatMap (fun t => (s.tclu t).res.flatMap (fun r => match r.run with
    | some u =>
      if asid.all (fun a => r.ctx.asid = a) then
        (u.els.filter (fun e => e.st == .out && lo ≤ e.acc.va && e.acc.va < hi)).map (fun e => (r.stream, e.i))
      else []
    | none => []))

/-- The removal of cached translations, with the wait of R259. -/
def invalidate (m : Option Nat) (asid : Option Nat) (lo hi : Nat) (s : State) : Decision :=
  waitFor m (.inval s.day.tick s.tnd.walks (accessesOf s asid lo hi)) (tlbDrop asid lo hi s)

def rAsidSet (m : Option Nat) (valid : Bool) (x : Mbx) (s : State) : Decision :=
  let a := bitsOf (x.q 0) 0 16
  let root := if valid then bitsOf (x.q 1) 0 25 else 0
  if !s.cluReady (cluOf (chanOf (asidAddr a))) then refuse s rNOTREADY []
  else if root * 4096 ≥ hvTopOf s then refuse s rINVALID []
  else if ownDead s (asidAddr a / 64) then refuse s rFAILED []
  else
    let r := pokeWord (asidAddr a) (BitVec.ofNat 64 (valid.toNat + root * 4096)) s
    if r.2 then invalidate m (some a) 0 (2 ^ 48) r.1 else refuse r.1 rFAILED []

def rXlateInval (m : Option Nat) (x : Mbx) (s : State) : Decision :=
  let asid := bitsOf (x.q 0) 16 16
  let va := (x.q 1).toNat + bitsOf (x.q 2) 0 16 * 2 ^ 32
  match bitsOf (x.q 0) 0 2 with
  | 0 => invalidate m none 0 (2 ^ 48) s
  | 1 => invalidate m (some asid) 0 (2 ^ 48) s
  | 2 => if va % 4096 ≠ 0 ∨ x.q 3 = 0 then refuse s rINVALID [] else invalidate m (some asid) va (va + 4096 * (x.q 3).toNat) s
  | _ => refuse s rINVALID []

def rFwRegionSet (x : Mbx) (s : State) : Decision :=
  let n := bitsOf (x.q 0) 0 6
  let base := (x.q 1).toNat + bitsOf (x.q 2) 0 5 * 2 ^ 32
  let pages := bitsOf (x.q 3) 0 25
  let e := ((x.q 4).extractLsb' 0 12).toInt
  if pages = 0 ∨ e < -1074 ∨ e > 1023 ∨ base + 4096 * pages > hvTopOf s then refuse s rINVALID []
  else if (tget none s.regions n).isSome || s.regions.any (fun r => match r.2 with
      | some y => overlaps base (4096 * pages) y.base (4096 * y.pages)
      | none => false) then refuse s rBUSY []
  else done_ { s with regions := tset s.regions n (some { base := base, pages := pages, e := e }) } []

def rFwRegionClear (x : Mbx) (s : State) : Decision :=
  let n := bitsOf (x.q 0) 0 6
  if (tget none s.regions n).isNone then refuse s rBUSY [] else done_ { s with regions := tset s.regions n none } []

/-- Some stream of Tender cluster `t` has work (R324). -/
def tenderBusy (s : State) (t : Nat) : Bool :=
  let busy := fun (c : Ctx) => c.tcl = t && (c.state = sQUEUED || c.state = sRUNNING || c.state = sSTOPPING || c.state = sPREEMPTED)
  (s.tclu t).res.any (fun r => busy r.ctx) || (listedStreams s).any (fun n => busy (ctxOf s n))

/-- Changed contexts of a cluster's cache are written back before it loses its power (R254). -/
def writeBack (t : Nat) (s : State) : State :=
  (s.tclu t).res.foldl (fun s r => if r.dirty then storeCtx r.stream r.ctx s else s) s

def rTndPower (m : Option Nat) (later : List (Nat × Nat)) (x : Mbx) (s : State) : Decision :=
  let on := (x.q 0).getLsbD 8
  let named := (List.range 4).filter (fun t => (x.q 0).getLsbD t)
  let xl := (x.q 0).getLsbD 4
  let ts := named.filter (fun t => !(later.contains (10, t)))
  let xl1 := xl && !(later.contains (10, 4))
  if s.ls.on then refuse s rBUSY []
  else if on then
    let s := ts.foldl (fun s t => wantDom s (44 + t)) s
    waitFor m (.tnd (ts.foldl (fun w t => w ||| (1#4 <<< t)) 0) xl1) (if xl1 then wantDom s 48 else s)
  else if named.any (tenderBusy s) || (xl && (List.range 4).any (fun t => domWanted s (44 + t) && !(named.contains t))) then refuse s rBUSY []
  else
    let s := ts.foldl (fun s t => domDown (44 + t) (writeBack t s)) s
    done_ (if xl1 then domDown 48 s else s) []

/-! #### Repair (R325) -/

def Moor.word (m : Moor) : Nat := 1 + m.source * 2 + m.bank * 2 ^ 3 + m.row * 2 ^ 10 + m.mask.toNat * 2 ^ 25

def rMooringLoad (m : Option Nat) (x : Mbx) (s : State) : Decision :=
  let ch := bitsOf (x.q 0) 0 5
  let w : BitVec 64 := x.q 2 ++ x.q 1
  let e : Moor := { source := 1, bank := wbits w 3 7, row := wbits w 10 15, mask := w.extractLsb' 25 16 }
  let i := (s.chan ch).i
  if !s.cluReady (cluOf ch) then refuse s rNOTREADY []
  else if w ≠ BitVec.ofNat 64 e.word ∨ e.row ≥ spareRow0 s.tenderPart then refuse s rINVALID []
  else if retiredSlice s ch (dieOf e.bank) then refuse s rBUSY []
  else match (entryOfRow i e.bank e.row).or (freeEntry i e.bank) with
    | none => refuse s rBUSY []
    | some n =>
      let gran := (maskGrans e.mask).headD 0
      waitFor m (.moor ch n false) (beginMove ch { entry := n, source := 1, bank := e.bank, row := e.row, mask := e.mask, gran := gran } s)

def rMooringFree (m : Option Nat) (x : Mbx) (s : State) : Decision :=
  let ch := bitsOf (x.q 0) 0 5
  let n := bitsOf (x.q 1) 0 5
  let i := (s.chan ch).i
  match i.moor n with
  | none => refuse s rBUSY []
  | some e =>
    if !(i.rowRepair.contains (ch, e.bank, e.row)) || i.moves.any (fun v => v.entry = n) then refuse s rBUSY []
    else waitFor m (.moor ch n true) (beginMove ch
      { entry := n, source := e.source, bank := e.bank, row := e.row, mask := e.mask, gran := (maskGrans e.mask).headD 0, back := true } s)

def rMooringRead (x : Mbx) (s : State) : Decision :=
  let ch := bitsOf (x.q 0) 0 5
  if !s.cluReady (cluOf ch) then refuse s rNOTREADY []
  else done_ s ((List.range 16).flatMap (fun j =>
    let w := match (s.chan ch).i.moor (16 * bitsOf (x.q 1) 0 1 + j) with | some e => e.word | none => 0
    [lo32 w, hi32 w]))

def rChannelRetire (x : Mbx) (s : State) : Decision :=
  let ch := bitsOf (x.q 0) 0 5
  if !s.cluReady (cluOf ch) then refuse s rNOTREADY []
  else if x.q 1 ≠ 0xA55A then refuse s rINVALID []
  else if (s.chan ch).i.retChan then refuse s rBUSY []
  else done_ (retire ch 0 true s) []

/-- The codes of spares in INTEGRITY_GET (R175, R177). -/
def SpareSt.code (free gone : Nat) : SpareSt → Nat
  | .free => free | .carries p => p | .withdrawn => gone

def rIntegrityGet (x : Mbx) (s : State) : Decision :=
  let ch := bitsOf (x.q 0) 0 5
  let i := (s.chan ch).i
  let n := i.cnt
  if !s.cluReady (cluOf ch) then refuse s rNOTREADY []
  else
    let er := erasedOf i
    let bits := er.foldl (fun w k => w + 2 ^ k) 0
    let sd := fun (k : Nat) => (tget SpareSt.free i.spareD k).code 0xFFFF 0xFFFE
    let d := [cnt32 n.ce, cnt32 n.ue, cnt32 n.poisonRd, cnt32 n.scrubFix, cnt32 n.scrubPass, cnt32 n.mergeFull, cnt32 n.mergeRmw,
        cnt32 n.mergeEarly, cnt32 n.tsvSpared, cnt32 n.moored, fld (min er.length 2) 0] ++
      (List.range 4).map (fun j => fld (sd (2 * j)) 0 ||| fld (sd (2 * j + 1)) 16) ++
      [(List.range 4).foldl (fun w k => w ||| fld ((tget SpareSt.free i.spareC k).code 0xFF 0xFE) (8 * k)) 0,
        lo32 bits, hi32 bits, hi32 (bits / 2 ^ 32), fld ((List.range 32).filter (fun j => (i.moor j).isSome)).length 0, fld i.badSpare.length 0]
    done_ (if (x.q 0).getLsbD 8 then s.modInteg ch (fun i => { i with cnt := {} }) else s) d

/-! #### Fuses (R325, R410 to R416) -/

def rFuseRead (x : Mbx) (s : State) : Decision :=
  let b := bitsOf (x.q 0) 0 8
  let w := bitsOf (x.q 0) 8 16
  let n := bitsOf (x.q 0) 24 4
  if b > 128 ∨ n = 0 ∨ w + n > bankSize b then refuse s rINVALID []
  else done_ s ((List.range n).flatMap (fun j =>
    let a := (s.ll.normal b (w + j)).toNat
    let c := (s.ll.marginal b (w + j)).toNat
    [lo32 a, hi32 a, lo32 c, hi32 c]))

/-- VPP reads outside its operating window at monitor 8 or 9 (R410). -/
def vppBad (s : State) : Bool := (List.range 2).any (fun j => !inside (window (8 + j)).1 (tget 0 s.lan.volt (8 + j)))

/-- The burn logic begins (R410). -/
def beginBurn (m : Option Nat) (k : BurnKind) (b : Nat) (todo : List (Nat × BitVec 64)) (word : Nat) (s : State) : Decision :=
  match m with
  | none => (s, none)
  | some mb => waitFor m .burn (s.modLl (fun l => { l with burn := some { mb := mb, kind := k, bank := b, todo := todo, good := word } }))

def rFuseProgram (m : Option Nat) (x : Mbx) (s : State) : Decision :=
  let b := bitsOf (x.q 0) 0 8
  let w := bitsOf (x.q 0) 8 16
  let n := fuseCount (x.q 0)
  if b > 128 ∨ n = 0 ∨ 28 < n ∨ w + n > bankSize b then refuse s rINVALID []
  else if b = 0 ∧ s.ll.life ≠ 0 then refuse s rDENIED [2]
  else if s.ll.st b = .locked || (s.ll.normal b (bankSize b - 1)).getLsbD 63 then refuse s rBUSY []
  else if vppBad s then refuse s.takeFree rFAILED [lo32 (Config.freeWord s.free).toNat]
  else beginBurn m .program b ((List.range n).map (fun j => (w + j, x.q (2 * j + 2) ++ x.q (2 * j + 1)))) 0 s

def rFuseSeal (m : Option Nat) (x : Mbx) (s : State) : Decision :=
  let b := bitsOf (x.q 0) 0 8
  if b > 128 then refuse s rINVALID []
  else if s.ll.st b = .sealed || s.ll.st b = .locked || s.ll.weakW.any (fun k => k / 256 = b) then refuse s rBUSY []
  else if vppBad s then refuse s rFAILED []
  else
    let n := bankSize b - 1
    let crc := (crcWords ((List.range n).map (s.ll.sh b))).setWidth 64
    if s.ll.normal b n &&& 0xFFFFFFFF &&& ~~~crc ≠ 0 then refuse s rFAILED []
    else beginBurn m .crc b [(n, crc)] 0 s

def rFuseLock (m : Option Nat) (x : Mbx) (s : State) : Decision :=
  let b := bitsOf (x.q 0) 0 8
  if b > 128 then refuse s rINVALID []
  else if b = 0 ∧ s.ll.life ≠ 0 then refuse s rDENIED [2]
  else if !(s.ll.sealNormal b && s.ll.sealMargin b) then refuse s rBUSY []
  else if vppBad s then refuse s rFAILED []
  else beginBurn m .lock b [(bankSize b - 1, 1#64 <<< 63)] 0 s

def rFuseReburn (m : Option Nat) (x : Mbx) (s : State) : Decision :=
  let b := bitsOf (x.q 0) 0 8
  let w := bitsOf (x.q 0) 8 16
  if b > 128 ∨ w ≥ bankSize b then refuse s rINVALID []
  else
    let n := s.ll.normal b w
    if vppBad s then refuse s rFAILED [lo32 n.toNat, hi32 n.toNat] else beginBurn m .reburn b [(w, n)] w s

def rLifecycleAdvance (m : Option Nat) (x : Mbx) (s : State) : Decision :=
  let to_ := bitsOf (x.q 0) 0 2
  if to_ ≠ s.ll.life + 1 ∨ 2 < to_ ∨ x.q 1 ≠ 0x5AA5 then refuse s rINVALID []
  else if vppBad s then refuse s rFAILED []
  else beginBurn m .life 0 [(7, 1#64 <<< (39 + to_)), (7, 1#64 <<< (41 + to_))] 0 s

/-! #### Lantern, test, events (R326 to R328) -/

def rSensorRestore (x : Mbx) (s : State) : Decision :=
  let d := bitsOf (x.q 0) 0 4
  if !s.lan.suspect.getLsbD d || tget 0 s.lan.agree d < 64 then refuse s rBUSY []
  else done_ (s.modLan (fun l => { l with
    suspect := l.suspect &&& ~~~(1#16 <<< d), restored := l.restored ||| (1#16 <<< d), excess := tset l.excess d 0 })) []

def rLanOverride (x : Mbx) (s : State) : Decision :=
  let fl := bitsOf (x.q 0) 0 3
  let n := (x.q 1).toNat
  if fl > 5 then refuse s rINVALID []
  else if x.q 0 = 0 ∧ x.q 1 = 0 then done_ (s.modLan (fun l => { l with ovr := none })) []
  else done_ (s.modLan (fun l => { l with ovr := some {
    floor := fl, doubled := (x.q 0).getLsbD 3, limit := bitsOf (x.q 0) 4 2
    ends := if n = 0 then none else some (s.day.tick + 64 * n) } })) []

def rLanConfig (x : Mbx) (s : State) : Decision :=
  let g := bitsOf (x.q 0) 0 16
  if g < 64 then refuse s rINVALID [] else done_ (s.modLan (fun l => { l with grace := g })) []

def rLanRead (s : State) : Decision :=
  let l := s.lan
  let four := fun (f : Nat → Option Rat) (n : Nat) => (List.range n).map (fun j =>
    (List.range 4).foldl (fun (w : Word32) b => w ||| fld (tempCode (f (4 * j + b))) (8 * b)) 0)
  done_ s (four (fun i => (tget none l.die i).map deg) 16 ++ four (fun d => tget none l.est d) 4 ++
    four (fun i => (tget none l.base i).map deg) 3 ++
    (List.range 5).map (fun j => fld (tget 0 l.volt (2 * j) % 65536) 0 ||| fld (tget 0 l.volt (2 * j + 1) % 65536) 16))

def rBistStatus (s : State) : Decision :=
  let w := s.wch
  done_ s ([w.passTicks, w.skip, w.passes, w.lanePassTicks, w.laneSkip, w.lanePasses].map (fun n => cnt32 (min n 0xFFFFFFFF)))

def rTsvTest (m : Option Nat) (x : Mbx) (s : State) : Decision :=
  let ch := bitsOf (x.q 0) 0 5
  if !s.cluReady (cluOf ch) then refuse s rNOTREADY []
  else waitFor m (.tsv ch) (s.modWch (fun w => { w with tsvTest := some { ch := ch } }))

def rWatchSelect (x : Mbx) (s : State) : Decision :=
  let g := bitsOf (x.q 0) 0 10
  if s.ll.life = 2 ∧ !fieldSet g then refuse s rDENIED [2]
  else done_ (s.modWch (fun w => { w with group := g, en := (x.q 0).getLsbD 10 })) []

/-- LOG_READ: the layout of the log is Keeper's own, so its bytes and its end are free values (log entry 9).
DESIGN CHOICE, log entry 9. -/
def rLogRead (x : Mbx) (s : State) : Decision :=
  let o := bitsOf (x.q 0) 0 16
  let n := bitsOf (x.q 0) 16 8
  if o % 4 ≠ 0 ∨ n % 4 ≠ 0 ∨ n < 4 ∨ 240 < n then refuse s rINVALID []
  else done_ s.takeFree ((fld (Config.freeWord s.free).toNat 0 &&& 0xFFFF) ::
    (List.range (n / 4)).map (fun j => fld (Config.freeLog s.free ((o + 4 * j) % 65536)).toNat 0))

/-! #### Firmware, faults, lightship (R309, R329, R330) -/

/-- Some mailbox besides `m` is PENDING or BUSY. -/
def othersBusy (s : State) (m : Option Nat) : Bool :=
  (List.range 5).any (fun j => some j ≠ m && ((s.mbx j).st = .pending || (s.mbx j).st = .busy))

/-- The image's granules are copied into Keeper's scratch area. -/
def copyImage (b : List (BitVec 8)) (dst : Nat) (s : State) : State :=
  (List.range ((b.length + 63) / 64)).foldl (fun s j =>
    let d := slice b (64 * j) 64
    pokeGran {} (dst / 64 + j) (some (d ++ List.replicate (64 - d.length) 0)) s) s

def rPatchLoad (m : Option Nat) (x : Mbx) (s : State) : Decision :=
  let a := (x.q 0).toNat + bitsOf (x.q 1) 0 5 * 2 ^ 32
  if s.kpr.patchActive || s.kpr.patchLost || othersBusy s m then refuse s rBUSY []
  else if a % 64 ≠ 0 ∨ a + 64 > hvTopOf s then refuse s rINVALID []
  else
    let h := readImage a 64 s
    match h.2 with
    | none => refuse h.1 rFAILED [0]
    | some hb =>
      let p := Patch.of hb
      if !p.wellFormed || a + p.length + 160 > hvTopOf s then refuse h.1 rINVALID []
      else if p.romId ≠ romVersion then refuse h.1 rINVALID []
      else if p.lcMask / 2 ^ s.ll.life % 2 = 0 then refuse h.1 rDENIED [2]
      else
        let v := patchVerify a s
        if v.2.1 ≠ 0 then refuse v.1 v.2.1 (if v.2.1 = rFAILED then [0] else [])
        else
          let s := copyImage v.2.2 (patchBase s) v.1
          waitFor m .patch (s.modKpr (fun k => { k with
            patchAddr := patchBase s, patchVersion := BitVec.ofNat 16 p.version, patchActive := true, keyId := BitVec.ofNat 2 p.keyId
            resetDue := some .patch }))

def rKeeperReset (s : State) : Decision := done_ (s.modKpr (fun k => { k with resetDue := some .manager })) []

def rFaultInject (x : Mbx) (s : State) : Decision :=
  let c := bitsOf (x.q 0) 0 4
  let u := bitsOf (x.q 0) 8 8
  let n := bitsOf (x.q 0) 16 8
  if 4 < c ∨ n = 0 ∨ (match c with | 1 => 16 | 4 => 129 | _ => 32) ≤ u then refuse s rINVALID []
  else done_ (s.modFlt (fun f => { f with inj := some {
    checker := c, unit := u, two := (x.q 0).getLsbD 24, remaining := n, decided := s.day.tick } })) []

def rFoghornDrive (x : Mbx) (s : State) : Decision :=
  if s.flt.pulse then refuse s rBUSY []
  else done_ (s.modFlt (fun f => { f with drive := (x.q 0).getLsbD 0, driveHeld := true })) []

/-- The lowest-numbered cause still in force (R371); 0 where none is. -/
def causeLeft (s : State) : Nat := ((List.range 4).find? (fun i => (inForceCauses s).getLsbD i)).elim 0 (· + 1)

def rLightshipExit (s : State) : Decision :=
  let c := causeLeft s
  if !s.ls.on || c ≠ 0 then refuse { s with ls := { s.ls with exitStaged := false } } rBUSY [fld (if s.ls.on then c else 0) 0]
  else done_ (lightshipLeave s) [0]

/-- The decision on a command of code `code`; `m` is its mailbox where it still has one, `later` the fields that commands taken after it
in the same tick stage. -/
def decideCmd (m : Option Nat) (later : List (Nat × Nat)) (x : Mbx) (s : State) : Decision :=
  match x.cmd.toNat with
  | 0x0101 => rIdentGet s
  | 0x0102 => rStackIdSet x s
  | 0x0201 => rPortPower m later x s
  | 0x0202 => rPortFence later x s
  | 0x0203 => rPortUnfence later x s
  | 0x0204 => rRelaySet x s
  | 0x0205 => rZombieRelease x s
  | 0x0301 => rClusterStep m x s
  | 0x0302 => rClusterPower m later x s
  | 0x0401 => rSectAdmit x s
  | 0x0402 => rSectQuery s
  | 0x0501 => rStreamAlloc x s
  | 0x0502 => rStreamFree x s
  | 0x0503 => rStreamQuery x s
  | 0x0504 => rStreamCmd 2 x s
  | 0x0505 => rStreamCmd 3 x s
  | 0x0506 => rAsidSet m true x s
  | 0x0507 => rAsidSet m false x s
  | 0x0508 => rXlateInval m x s
  | 0x0509 => rFwRegionSet x s
  | 0x050A => rFwRegionClear x s
  | 0x050B => rTndPower m later x s
  | 0x0601 => rMooringLoad m x s
  | 0x0602 => rMooringFree m x s
  | 0x0603 => rMooringRead x s
  | 0x0604 => rChannelRetire x s
  | 0x0605 => rIntegrityGet x s
  | 0x0606 => rFuseRead x s
  | 0x0607 => rFuseProgram m x s
  | 0x0608 => rFuseSeal m x s
  | 0x0609 => rFuseLock m x s
  | 0x060A => rFuseReburn m x s
  | 0x0701 => rSensorRestore x s
  | 0x0702 => rLanOverride x s
  | 0x0703 => rLanConfig x s
  | 0x0704 => rLanRead s
  | 0x0801 => rBistStatus s
  | 0x0802 => rTsvTest m x s
  | 0x0803 => rWatchSelect x s
  | 0x0901 => waitFor m .snap s
  | 0x0902 => rLogRead x s
  | 0x0A01 => rPatchLoad m x s
  | 0x0A02 => rLifecycleAdvance m x s
  | 0x0A03 => rKeeperReset s
  | 0x0B01 => rFaultInject x s
  | 0x0B02 => rFoghornDrive x s
  | 0x0B03 => rLightshipExit s
  | _ => refuse s rUNKNOWN []

/-! ### Taking (R313, R315, R316) -/

/-- Commands that Keeper decides as it takes them: queries, and those that the burn logic, an injection or a reset carries out.
DEDUCED, log entry 23. -/
def atOnce (code : Nat) : Bool :=
  [0x0101, 0x0402, 0x0503, 0x0603, 0x0605, 0x0606, 0x0607, 0x0608, 0x0609, 0x060A, 0x0704, 0x0801, 0x0902, 0x0A01, 0x0A02, 0x0A03, 0x0B01].contains code

/-- The granules that the accesses of a command of Keeper go to: the context of a stream that is not resident, an ASID entry, a patch image and
its copy. -/
def cmdGrans (s : State) (x : Mbx) : List Nat :=
  let c := x.cmd.toNat
  let n := bitsOf (x.q 0) 0 18
  if 0x0501 ≤ c && c ≤ 0x0505 then (if isResident s n || ctxRetired s n then [] else [ctxAddr n / 64])
  else if c = 0x0506 || c = 0x0507 then [asidAddr (bitsOf (x.q 0) 0 16) / 64]
  else if c = 0x0A01 then
    let a := (x.q 0).toNat + bitsOf (x.q 1) 0 5 * 2 ^ 32
    let n := 0x40 + (Patch.of (storedGran s (a / 64))).length + 96
    blocksOf 64 a n ++ blocksOf 64 (patchBase s) n
  else []

/-- An access of the command waits for the end of a frequency step (R155). -/
def cmdWaits (s : State) (x : Mbx) : Bool :=
  (cmdGrans s x).any (fun g => s.cluReady (cluOf (chanOf (64 * g))) && (s.clu (cluOf (chanOf (64 * g)))).inStep)

/-- Keeper serves the commands that burn one at a time (R410), and one TSV_TEST at a time; a command that it decides as it takes it waits while its
accesses cannot issue (R155).
DESIGN CHOICE, log entry 25. -/
def heldBack (s : State) (m : Nat) : Bool :=
  let c := (s.mbx m).cmd.toNat
  ([0x0607, 0x0608, 0x0609, 0x060A, 0x0A02].contains c && (s.ll.burn.isSome || (List.range 5).any (fun j => (s.mbx j).wait = some .activate || (s.mbx j).wait = some .life))) ||
    (c = 0x0802 && (s.wch.tsvTest.isSome || s.kpr.staged.any (fun y => y.req.cmd = 0x0802))) ||
    ((c = 0x0503 || c = 0x0A01) && cmdWaits s (s.mbx m))

/-- The mailbox that Keeper takes next (R315).
DESIGN CHOICE, log entry 10. -/
def nextMbx (s : State) : Option Nat :=
  let ok := fun (m : Nat) => (s.mbx m).st = .pending && !heldBack s m
  if s.kpr.st ≠ .run then none
  else if ok 4 then some 4
  else ((List.range 4).map (fun j => (s.kpr.last + 1 + j) % 4)).find? ok

/-- The response of a decided command, or the wait. -/
def finishCmd (m : Nat) (d : Decision) : State :=
  match d.2 with
  | some (st, w) => respond m st w (d.1.mbx m).superseded d.1
  | none => d.1

/-- Keeper takes the command of mailbox `m`: BUSY; it is refused, decided at once, or staged for the coming boundary. -/
def takeMbx (m : Nat) (s : State) : State :=
  let x := s.mbx m
  let s := s.modMbx m (fun x => { x with st := .busy, superseded := false, wait := some .boundary })
  let s := s.modKpr (fun k => { k with last := if m < 4 then m else k.last })
  match formCheck s m x with
  | some (st, w) => respond m st w false s
  | none =>
    if atOnce x.cmd.toNat then finishCmd m (decideCmd (some m) [] x s)
    else
      let s := s.modKpr (fun k => { k with staged := k.staged ++ [{ mb := m, req := x }] })
      if x.cmd = 0x0901 then { s with snap := { s.snap with req := true } }
      else if x.cmd = 0x0B03 && s.ls.on then { s with ls := { s.ls with exitStaged := true } }
      else s

/-- Keeper takes the next command, whatever it is. -/
def keeperTake (s : State) : State := match nextMbx s with | some m => takeMbx m s | none => s

/-- Keeper takes the command of code `code` from mailbox `m`, where it is the next that Keeper takes. -/
def takeCode (code : BitVec 16) (m : Nat) (s : State) : State :=
  if nextMbx s = some m ∧ (s.mbx m).cmd = code then takeMbx m s else s

/-! ### The boundary (R307, R316) -/

/-- A staged command with its outcome. -/
abbrev Outcome_ := Staged × Option (Nat × List Word32)

/-- A decided command was accepted: it answers OK or waits. -/
def Outcome_.ok (y : Outcome_) : Bool := match y.2 with | some r => r.1 = rOK | none => true

/-- The staged commands `l` are decided in the order in which they were taken, each with the fields that those of the later ones stage that
`counts` names as accepted; with each the outcome. -/
def runStaged (counts : Staged → Bool) : List Staged → State → List Outcome_ → State × List Outcome_
  | [], s, acc => (s, acc)
  | y :: ys, s, acc =>
    let later := (ys.filter counts).flatMap (fun z => cmdKeys z.req.cmd.toNat z.req)
    let d := decideCmd (if y.dropped then none else some y.mb) later y.req s
    runStaged counts ys d.1 (acc ++ [(y, d.2)])

/-- A later command of the tick that was accepted stages a field of this one (R316). -/
def isSuperseded (y : Staged) (later : List Outcome_) : Bool :=
  let ks := cmdKeys y.req.cmd.toNat y.req
  later.any (fun z => z.ok && (cmdKeys z.1.req.cmd.toNat z.1.req).any (fun k => ks.contains k))

/-- The responses of the staged commands. -/
def answerStaged : List Outcome_ → State → State
  | [], s => s
  | y :: ys, s =>
    let sup := isSuperseded y.1 ys
    let s := if y.1.dropped then s
      else match y.2 with
        | some (st, w) => respond y.1.mb st w (sup && st = rOK) s
        | none => s.modMbx y.1.mb (fun x => { x with superseded := sup })
    answerStaged ys s

/-- The commands of the ended tick take effect at the boundary (R35, R316), after the doorbells of that tick (R252); those whose accesses a
frequency step holds stay staged (R155). Which of them are accepted is found by deciding them all; a command that is not replaces no field of
an earlier one.
DEDUCED, log entry 29. -/
def stagedCmds (s : State) : State :=
  let s := (s.tnd.dbq.map (·.stream)).dedup.foldl (fun s n => doorbellContextRead n s) s
  let now := s.kpr.staged.filter (fun y => !cmdWaits s y.req)
  let s := s.modKpr (fun k => { k with staged := k.staged.filter (fun y => cmdWaits s y.req) })
  let trial := (runStaged (fun _ => true) now s []).2
  let r := runStaged (fun y => trial.any (fun z => z.1 = y && z.ok)) now s []
  answerStaged r.2 r.1

/-- Keeper takes a fast-mailbox command within one tick of its submission (R315): where no command has taken it by the end of the next tick, it
does so there. -/
def fastTake (s : State) : State :=
  if s.kpr.st = .run ∧ (s.mbx 4).st = .pending ∧ (s.mbx 4).sub < s.day.tick then takeMbx 4 s else s

/-- The outcome of a wait at a boundary: the status and response words once it has ended. -/
def waitOver (s : State) (w : Wait) : Option (Nat × List Word32) :=
  match w with
  | .ports set =>
    if (portSet set).all (fun p => (s.port p).link.lstate != .off) then some (rOK, [])
    else if (portSet set).any (fun p => !domWanted s (portDom p)) then some (rFAILED, []) else none
  | .step k was =>
    let u := s.clu k
    if s.ls.on || u.abandoned then some (rFAILED, [fld was 0 ||| fld (decide (u.mgrTarget < u.limit)).toNat 2 ||| fld 1 3])
    else if !s.cluReady k then some (rFAILED, [fld u.step 0 ||| fld (decide (u.mgrTarget < u.limit)).toNat 2])
    else if u.stepTick = 0 ∧ u.step = u.wanted then some (rOK, [fld u.step 0 ||| fld (decide (u.mgrTarget < u.limit)).toNat 2]) else none
  | .cluOn k =>
    if s.cluReady k then some (rOK, [])
    else if (s.clu k).stage = .failed || !domWanted s (36 + k) then some (rFAILED, []) else none
  | .cluOff k => if tget .off s.pwr.dom (36 + k) = .off then some (rOK, []) else none
  | .moor ch n free =>
    let i := (s.chan ch).i
    if i.moves.any (fun v => v.entry = n && v.back == free) then none
    else if free then some (rOK, []) else if (i.moor n).isSome then some (rOK, [fld n 0]) else some (rFAILED, [])
  | .tsv _ =>
    match s.wch.tsvTest with
    | some t => if 40 < t.group && !(s.wch.suspects.any (·.cmd)) then some (rOK, [fld t.failed 0]) else none
    | none => some (rFAILED, [])
  | .inval _ walks els =>
    if walks.any (fun w => s.tnd.walks.contains w) || els.any (fun e => (accessesOf s none 0 (2 ^ 48)).contains e) then none else some (rOK, [])
  | .tnd set xl =>
    let ts := (List.range 4).filter (fun t => set.getLsbD t)
    if ts.all (tndReady s) && (!xl || xlReady s) then some (rOK, [])
    else if ts.any (fun t => !domWanted s (44 + t)) || (xl && !domWanted s 48) then some (rFAILED, []) else none
  | .activate =>
    if (List.range 32).any (fun ch => (s.chan ch).i.moves.any (fun v => v.entry = latchMove)) then none else some (rOK, [])
  | .life => some (rOK, [])
  | .snap => some (rOK, [fld s.snap.seq.toNat 0])
  | .boundary | .burn | .patch => none

/-- What else happens when a wait ends: the lifecycle changes (R416, R452), a TSV_TEST is over. -/
def waitEffect (m : Nat) (w : Wait) (s : State) : State :=
  match w with
  | .life =>
    let to_ := bitsOf ((s.mbx m).q 0) 0 2
    let s := s.modLl (fun l => { l with life := to_ })
    if to_ = 2 ∧ s.wch.en ∧ !fieldSet s.wch.group then s.modWch (fun w => { w with en := false, evt := w.evt.raise 2 }) else s
  | .tsv _ => s.modWch (fun w => { w with tsvTest := none })
  | _ => s

/-- Responses whose waits have ended by this boundary (R316). -/
def finishWaits (s : State) : State :=
  (List.range 5).foldl (fun s m =>
    let x := s.mbx m
    match x.st, x.wait with
    | .busy, some w => (match waitOver s w with
      | some (st, d) => (respond m st d x.superseded (waitEffect m w s)).modMbx m (fun y => { y with
          effTick := match w with | .inval t _ _ => BitVec.ofNat 32 t | _ => y.effTick })
      | none => s)
    | _, _ => s) s

/-- The CLUSTER_STEP command that waits for cluster `k` is answered as the step ends (R322). -/
def answerStep (k : Nat) (s : State) : State :=
  (List.range 5).foldl (fun s m => match (s.mbx m).st, (s.mbx m).wait with
    | .busy, some (.step j was) =>
      if j = k then (match waitOver s (.step j was) with
        | some r => respond m r.1 r.2 (s.mbx m).superseded s
        | none => s) else s
    | _, _ => s) s

/-! ### The rows -/

def execFreqStepEnd (k : CluId) (s : State) : Host.Outcome State Fault Refusal :=
  .next (if (s.clu k.val).stepTick = 4 then settle s (answerStep k.val (stepEnd k.val s)) else s)
def execKeeperTake (s : State) : Host.Outcome State Fault Refusal := .next (settle s (keeperTake s))
def execIdentGet (m : Mb) (s : State) : Host.Outcome State Fault Refusal := .next (settle s (takeCode 0x0101 m.val s))
def execStackIdSet (m : Mb) (s : State) : Host.Outcome State Fault Refusal := .next (settle s (takeCode 0x0102 m.val s))
def execPortPower (m : Mb) (s : State) : Host.Outcome State Fault Refusal := .next (settle s (takeCode 0x0201 m.val s))
def execPortFence (m : Mb) (s : State) : Host.Outcome State Fault Refusal := .next (settle s (takeCode 0x0202 m.val s))
def execPortUnfence (m : Mb) (s : State) : Host.Outcome State Fault Refusal := .next (settle s (takeCode 0x0203 m.val s))
def execRelaySet (m : Mb) (s : State) : Host.Outcome State Fault Refusal := .next (settle s (takeCode 0x0204 m.val s))
def execZombieRelease (m : Mb) (s : State) : Host.Outcome State Fault Refusal := .next (settle s (takeCode 0x0205 m.val s))
def execClusterStep (m : Mb) (s : State) : Host.Outcome State Fault Refusal := .next (settle s (takeCode 0x0301 m.val s))
def execClusterPower (m : Mb) (s : State) : Host.Outcome State Fault Refusal := .next (settle s (takeCode 0x0302 m.val s))
def execSectAdmit (m : Mb) (s : State) : Host.Outcome State Fault Refusal := .next (settle s (takeCode 0x0401 m.val s))
def execSectQuery (m : Mb) (s : State) : Host.Outcome State Fault Refusal := .next (settle s (takeCode 0x0402 m.val s))
def execStreamAlloc (m : Mb) (s : State) : Host.Outcome State Fault Refusal := .next (settle s (takeCode 0x0501 m.val s))
def execStreamFree (m : Mb) (s : State) : Host.Outcome State Fault Refusal := .next (settle s (takeCode 0x0502 m.val s))
def execStreamQuery (m : Mb) (s : State) : Host.Outcome State Fault Refusal := .next (settle s (takeCode 0x0503 m.val s))
def execStreamResume (m : Mb) (s : State) : Host.Outcome State Fault Refusal := .next (settle s (takeCode 0x0504 m.val s))
def execStreamAbort (m : Mb) (s : State) : Host.Outcome State Fault Refusal := .next (settle s (takeCode 0x0505 m.val s))
def execAsidSet (m : Mb) (s : State) : Host.Outcome State Fault Refusal := .next (settle s (takeCode 0x0506 m.val s))
def execAsidClear (m : Mb) (s : State) : Host.Outcome State Fault Refusal := .next (settle s (takeCode 0x0507 m.val s))
def execXlateInval (m : Mb) (s : State) : Host.Outcome State Fault Refusal := .next (settle s (takeCode 0x0508 m.val s))
def execFwRegionSet (m : Mb) (s : State) : Host.Outcome State Fault Refusal := .next (settle s (takeCode 0x0509 m.val s))
def execFwRegionClear (m : Mb) (s : State) : Host.Outcome State Fault Refusal := .next (settle s (takeCode 0x050A m.val s))
def execTndPower (m : Mb) (s : State) : Host.Outcome State Fault Refusal := .next (settle s (takeCode 0x050B m.val s))
def execMooringLoad (m : Mb) (s : State) : Host.Outcome State Fault Refusal := .next (settle s (takeCode 0x0601 m.val s))
def execMooringFree (m : Mb) (s : State) : Host.Outcome State Fault Refusal := .next (settle s (takeCode 0x0602 m.val s))
def execMooringRead (m : Mb) (s : State) : Host.Outcome State Fault Refusal := .next (settle s (takeCode 0x0603 m.val s))
def execChannelRetire (m : Mb) (s : State) : Host.Outcome State Fault Refusal := .next (settle s (takeCode 0x0604 m.val s))
def execIntegrityGet (m : Mb) (s : State) : Host.Outcome State Fault Refusal := .next (settle s (takeCode 0x0605 m.val s))
def execFuseRead (m : Mb) (s : State) : Host.Outcome State Fault Refusal := .next (settle s (takeCode 0x0606 m.val s))
def execFuseProgram (m : Mb) (s : State) : Host.Outcome State Fault Refusal := .next (settle s (takeCode 0x0607 m.val s))
def execFuseSeal (m : Mb) (s : State) : Host.Outcome State Fault Refusal := .next (settle s (takeCode 0x0608 m.val s))
def execFuseLock (m : Mb) (s : State) : Host.Outcome State Fault Refusal := .next (settle s (takeCode 0x0609 m.val s))
def execFuseReburn (m : Mb) (s : State) : Host.Outcome State Fault Refusal := .next (settle s (takeCode 0x060A m.val s))
def execLanSensorRestore (m : Mb) (s : State) : Host.Outcome State Fault Refusal := .next (settle s (takeCode 0x0701 m.val s))
def execLanOverride (m : Mb) (s : State) : Host.Outcome State Fault Refusal := .next (settle s (takeCode 0x0702 m.val s))
def execLanConfig (m : Mb) (s : State) : Host.Outcome State Fault Refusal := .next (settle s (takeCode 0x0703 m.val s))
def execLanRead (m : Mb) (s : State) : Host.Outcome State Fault Refusal := .next (settle s (takeCode 0x0704 m.val s))
def execBistStatus (m : Mb) (s : State) : Host.Outcome State Fault Refusal := .next (settle s (takeCode 0x0801 m.val s))
def execTsvTest (m : Mb) (s : State) : Host.Outcome State Fault Refusal := .next (settle s (takeCode 0x0802 m.val s))
def execWatchSelect (m : Mb) (s : State) : Host.Outcome State Fault Refusal := .next (settle s (takeCode 0x0803 m.val s))
def execSnapshot (m : Mb) (s : State) : Host.Outcome State Fault Refusal := .next (settle s (takeCode 0x0901 m.val s))
def execLogRead (m : Mb) (s : State) : Host.Outcome State Fault Refusal := .next (settle s (takeCode 0x0902 m.val s))
def execFwPatchLoad (m : Mb) (s : State) : Host.Outcome State Fault Refusal := .next (settle s (takeCode 0x0A01 m.val s))
def execLifecycleAdvance (m : Mb) (s : State) : Host.Outcome State Fault Refusal := .next (settle s (takeCode 0x0A02 m.val s))
def execKeeperReset (m : Mb) (s : State) : Host.Outcome State Fault Refusal := .next (settle s (takeCode 0x0A03 m.val s))
def execFaultInject (m : Mb) (s : State) : Host.Outcome State Fault Refusal := .next (settle s (takeCode 0x0B01 m.val s))
def execFoghornDrive (m : Mb) (s : State) : Host.Outcome State Fault Refusal := .next (settle s (takeCode 0x0B02 m.val s))
def execLightshipExit (m : Mb) (s : State) : Host.Outcome State Fault Refusal := .next (settle s (takeCode 0x0B03 m.val s))

end Sys2Proof.Machine
end

