-- ==== Sys2Proof/Machine/Tick.lean ====
section
/-! DEFINITION. Daymark: the cycles of the tick source, the tick boundary and all that happens at it, and PTM (R27 to R48). -/

namespace Sys2Proof.Machine

/-! ### Time (R27 to R29, R45) -/

/-- The cycles of the current tick (R27, R29). -/
def Day.len (d : Day) : Nat :=
  match d.src with
  | .pll => 2048
  | .ref => if d.phase = 4 then 204 else 205
  | .rc => if d.phase = 4 then 52 else 51

/-- What one cycle of the tick source adds to the timestamp, in units of 2^-32 ns (R45). -/
def Day.perCycle (d : Day) : Nat :=
  match d.src with
  | .pll => d.rate
  | .ref => 10 * 2 ^ 32
  | .rc => 40 * 2 ^ 32

/-- `n` cycles of the tick source pass within a tick. -/
def Day.pass (d : Day) (n : Nat) : Day := { d with cyc := d.cyc + n, ts := d.ts + n * d.perCycle }

/-- The crossbar clock is gated while every link is idle (R26): no request waits on one and no response is owed. -/
def gateXbar (s : State) : State :=
  if (List.range 32).all (fun c => (s.chan c).q.link.isEmpty && (s.chan c).q.done.isEmpty) then
    { s with clk := { s.clk with xbarGated := true } }
  else s

/-- One cycle of the tick source passes, where the tick has one left: what the block does while no command waits (log entry 12). -/
def idleCycle (s : State) : State :=
  if s.pwr.held || s.day.len ≤ s.day.cyc then s else gateXbar { s with day := s.day.pass 1 }

/-- The source that the next tick is counted from (R29). -/
def nextSrc (c : Clk) : TickSrc := if !c.refclk then .rc else if c.framePll then .pll else .ref

/-- The tick counter and the timestamp at a boundary (R28, R29, R45, R47): the cycles that are left pass, then a forward step.
DESIGN CHOICE, log entry 14. What the 48-bit tick counter does past 2^48 - 1 no rule says: the model counts on without a limit, and every
register, record and snapshot shows the count modulo 2^48 (DESIGN CHOICE, log entry 71). -/
def Day.advance (d : Day) (c : Clk) : Day :=
  let d := d.pass (d.len - d.cyc)
  let src := nextSrc c
  { d with tick := d.tick + 1, cyc := 0, src := src, phase := if src = d.src ∧ src ≠ .pll then (d.phase + 1) % 5 else 0
           ts := d.ts + d.tsStep, tsStep := 0, uncertain := d.uncertain || src = .rc }

/-! ### PTM (R47) -/

/-- The ticks between two dialogues. -/
def Day.period (d : Day) : Nat := 2 ^ (10 + min d.periodExp 10)

/-- A rate that Keeper sets waits for the boundary as every RT value does. -/
def setRate (r : Nat) (s : State) : State :=
  { s with staged := s.staged ++ [(0x118, BitVec.ofNat 32 r), (0x11C, BitVec.ofNat 32 (r / 2 ^ 32))] }

/-- A rate by which an offset decays (R47): above 1 where the host is ahead, below 1 where it is behind, 1 where there is no offset; how far,
within 0.99 to 1.01, is free.
DEDUCED, log entry 62. -/
def decayRate (o : Int) (free : Nat) : Nat :=
  if 0 < o then 2 ^ 32 + 1 + free % (rateMax - 2 ^ 32)
  else if o < 0 then 2 ^ 32 - 1 - free % (2 ^ 32 - rateMin)
  else 2 ^ 32

/-- What a successful dialogue with offset `o`, in ns, corrects (R47). -/
def ptmCorrect (o : Int) (s : State) : State :=
  let slew := fun (b : Bool) (s : State) => s.modDay (fun d => { d with slewing := b })
  if o < -1000 then setRate rateMin (slew true s)
  else if o > 1000 ∧ s.day.stepEn then slew false (s.modDay (fun d => { d with tsStep := o.toNat * 2 ^ 32 }))
  else setRate (decayRate o (Config.freeWord s.free).toNat) (slew false s.takeFree)

/-- One PTM dialogue; none where it fails, as it does while the link is down. -/
def ptmDialogue (offset : Option Int) (s : State) : State :=
  if !s.day.servoEn || s.kpr.st ≠ .run || s.day.tick < s.day.nextPtm then s
  else
    let s := s.modDay (fun d => { d with nextPtm := d.tick + d.period })
    match (if s.pcie.linkUp then offset else none) with
    | none => s.modDay (fun d => { d with ptm := d.ptm.raise 1, ptmLastOk := false })
    | some o => ptmCorrect o (s.modDay (fun d => { d with
        ptm := d.ptm.raise 0, ptmLastOk := true, ptmOfs := o, aligned := true, uncertain := d.src = .rc }))

def execPtmDialogue (offset : Option Int) (s : State) : Host.Outcome State Fault Refusal := .next (ptmDialogue offset s)

/-! ### The end of a tick -/

/-- Controller clocks in a tick (R27, R154): whole ones at steps F0 to F3. -/
def tickClk := tv 3276 2457 1638 819

/-- The clocks of the ended tick that no command named pass on channel `ch`, with its remaining maintenance and its replay episodes.
DEDUCED, log entry 15. -/
def chanTickEnd (ch : Nat) (s : State) : State :=
  if !ctrlOn s ch then s
  else
    let winEnd := (s.chan ch).q.winEnd
    let u := s.clu (cluOf ch)
    let s := if u.inStep then recover ch 80 (landAll ch s) else maintRest ch 400 s
    s.modSched ch (fun x => { x with
      maint := [], clk := max x.clk (winEnd - windowClk u.step + tickClk u.step)
      emptyTicks := if x.queue.isEmpty && x.link.isEmpty && !x.busy then x.emptyTicks + 1 else 0
      busy := !x.queue.isEmpty })

/-- The pattern frames of the ended tick pass on the ports in TEST (R93). -/
def patternTick (s : State) : State :=
  (List.range 32).foldl (fun s p =>
    let x := s.port p
    if x.link.lstate = .test ∧ 1 ≤ x.lane.pgMode ∧ x.lane.pgMode ≤ 5 then
      (s.modPort p (fun x => { x with lane := x.lane.checkTick (Config.testWord s.free p) })).takeFree
    else s) s

/-- What the sense logic and the AON check do in a tick, where no command of the tick named it (R407, R408): a pass begins, the re-sense of a
bank whose words have all been read ends with the fuses as they read before, the tick's read is done, and the last tick of a round checks
the shadow of bank 0. -/
def senseTick (s : State) : State :=
  let s := passStart s
  let s := if reading s && bankSize s.ll.reBank ≤ s.ll.reWord then resenseEnd [] s else s
  let s := if reading s then s.modLl Ll.nextRead else s
  if s.day.tick % 64 = 63 then shadowCheck s else s

/-- The tick that ends: what was left of its work is done, the counter advances, and what counts whole ticks counts it. -/
def endTick (s : State) : State :=
  let s := (List.range 32).foldl (fun s ch => chanTickEnd ch s) s
  let s := patternTick (tsvSlices [] (relaysDue s))
  let s := if s.sec.k ≠ 0 then s.modLan (fun l => { l with thrTicks := l.thrTicks + 1 }) else s
  let s := fastTake (sramScrubRest (senseTick s))
  let s := (List.range 13).foldl (fun s l => quench l s) (dmaTick s)
  { s with day := s.day.advance s.clk }

/-! ### Registers and records -/

/-- One DAY_LATE record for each class with late completions in the ended tick (R44), and the counters cleared (R34, R44).
DEDUCED, log entry 49. -/
def lateBoundary (s : State) : State :=
  let l := s.day.lateNow
  let s := s.modDay (fun d => { d with
    lateNow := [], lateClr := 0, ovrClr := false
    late := (List.range 8).foldl (fun t c => if d.lateClr.getLsbD c then tset t c 0 else t) d.late
    overrun := if d.ovrClr then 0 else d.overrun })
  (List.range 8).foldl (fun s c =>
    if tget 0 l c = 0 then s
    else emit { unit := 0x01, inst := c, cls := .c0, payload := .value (BitVec.ofNat 96 (tget 0 l c % 2 ^ 32)) } s) s

/-- The fault word at the boundary after tick `old` (R359, R365, R376): an accepted clear leaves what the tick itself brought. -/
def Flt.boundary (old : Nat) (run : Bool) (f : Flt) : Flt :=
  let live := fun (c : Option Cap) => match c with | some x => if x.at_ = old then some x else none | none => none
  let g : Flt :=
    if !f.clr then f
    else
      let first := live f.cap
      let esc := live f.esc
      let cap := first.or esc
      { f with
        src := f.nowSrc, later := f.nowLater ≠ 0, laterCnt := f.nowLater, cap := cap, esc := if first.isSome then esc else none
        injected := (match cap with | some x => x.injected | none => false)
        lightship := f.nowLightship, fhPulsed := f.nowFhPulsed, lastClass := f.nowClass, driveHeld := false }
  { g with
    drive := if f.c3 && !g.c3 && run then false else g.drive
    clrSeq := if f.changed then f.clrSeq + 1 else f.clrSeq
    cnt := (List.range 4).foldl (fun t k => if f.cntClr.getLsbD k then tset t k 0 else t) f.cnt
    clr := false, changed := false, cntClr := 0, nowSrc := 0, nowLater := 0, nowLightship := false, nowFhPulsed := false, nowClass := 0 }

/-- The collector at the boundary; from here Keeper is handling a fault that the word holds (R305). -/
def faultBoundary (s : State) : State :=
  let s := s.modFlt (Flt.boundary (s.day.tick - 1) (s.kpr.st = .run))
  s.modKpr (fun k => { k with handling := s.flt.cap.isSome })

/-- Every status register with SQ bits takes the events of the tick and of its boundary (R8). -/
def sqBoundary (s : State) : State :=
  { s with
    ports := s.ports.map (fun (p : Nat × Port) => (p.1, { p.2 with
      link := { p.2.link with levt := p.2.link.levt.boundary }, fr := { p.2.fr with fevt := p.2.fr.fevt.boundary } }))
    clus := s.clus.map (fun (u : Nat × Clu) => (u.1, { u.2 with evt := u.2.evt.boundary, cap := u.2.cap.boundary }))
    day := { s.day with ptm := s.day.ptm.boundary }
    sec := { s.sec with evt := s.sec.evt.boundary }
    pcie := { s.pcie with regErr := s.pcie.regErr.boundary }
    kpr := { s.kpr with rst := s.kpr.rst.boundary }
    lan := { s.lan with evt := s.lan.evt.boundary }
    ll := { s.ll with evt := s.ll.evt.boundary }
    wch := { s.wch with evt := s.wch.evt.boundary } }

/-- The record of a dialogue of the ended tick (R343): both registers as the boundary leaves them. -/
def ptmRecord (done : Bool) (s : State) : State :=
  if done then
    let w := (readDay s 0x24).getD 0
    emit { unit := 0x12, inst := 0, cls := .c0, payload := .value ((BitVec.ofInt 64 s.day.ptmOfs) ++ w) } s
  else s

/-! ### Configuration -/

/-- The budgets written in the ended tick (R204), after an admitted set: they take effect together where condition 4 of R199 holds. -/
def budgetBoundary (s : State) : State :=
  if s.staged.isEmpty then s
  else
    let w := fun (c : Nat) => lastStaged s.staged (0x200 + 4 * c)
    let s1 := { s with staged := [] }
    if cond4 s.sec.p (newBudget s) then
      s1.modSec (fun x => { x with
        port := (List.range 7).foldl (fun t c => match w c with | some v => tset t c (bitsOf v 0 10) | none => t) x.port
        tnd := (List.range 7).foldl (fun t c => match w c with | some v => tset t c (bitsOf v 10 12) | none => t) x.tnd })
    else s1.modSec (fun x => { x with evt := x.evt.raise 4 })

/-- The pins act from the boundary (R387, R426); TRIP_N with TRIP_LS enters lightship mode where that has newly become so (R366).
DEDUCED, log entry 60. -/
def pinBoundary (was : Bool) (s : State) : State :=
  let s := { (s.modLan (fun l => { l with tripAct := l.trip })) with pwr := { s.pwr with srAct := s.pwr.srLow } }
  if s.lan.tripAct && s.lan.tripLs && !was then lsEnter 1 s else s

/-! ### Ports -/

/-- TEST is entered and left (R71, R74). MODE reads 0 after TEST_EN has ended it, and is kept where the link left TEST otherwise (R94).
DESIGN CHOICE, log entry 68. -/
def Port.testBoundary (tick : Nat) (me : StackId) (x : Port) : Port :=
  let l := x.link
  if l.testEn && (l.lstate = .down || l.lstate = .failed || (l.lstate = .active && x.fr.fenced)) then
    (if l.lstate = .active then x.leaveActive tick me .test else x).modLink (fun l => { l with lstate := .test })
  else if !l.testEn && l.lstate = .test then
    { x with link := { l with lstate := .down, attempt := 0 }, lane := x.lane.startMode 0 }
  else x

/-- A RETRAIN of the ended tick (R74, R97): the link starts DETECT, from every state but OFF and TEST. GAL_CNT_RETRAIN counts it from each.
DEDUCED, log entry 50. -/
def Port.retrainBoundary (tick : Nat) (me : StackId) (x : Port) : Port :=
  let y := { x with link := { x.link with retrainReq := false } }
  if x.link.retrainReq && x.link.lstate ≠ .off && x.link.lstate ≠ .test then y.retrain tick me else y

/-- A link that has passed PARAM becomes ACTIVE once it has its frame clock again (R79, R91). -/
def Port.activeBoundary (tick : Nat) (x : Port) : Port :=
  if x.link.goActive && !x.link.noClk then x.activate tick else x

/-- A stage of training goes on into the new tick (R73). One whose end no row has told has not met its criterion.
DESIGN CHOICE, log entry 65. -/
def Port.stageBoundary (x : Port) : Port :=
  if x.link.lstate = .train && !x.link.goActive then
    if x.link.stage.ticks ≤ x.link.stageTicks then x.failAttempt x.link.stage.cause
    else x.modLink (fun l => { l with stageTicks := l.stageTicks + 1 })
  else x

/-- The frames of the ended tick in which nothing else left were IDLE frames (R98, R133); they are counted here.
DESIGN CHOICE, log entry 16. -/
def Port.fillTick (x : Port) : Port :=
  let n := if x.framing then 2048 - x.fr.upTick else 0
  { x with
    fr := { x.fr with framesUp := x.fr.framesUp + BitVec.ofNat 32 n, upTick := 0 }
    lane := { x.lane with scrUp := x.lane.scrUp + n } }

/-- Cause LINK clears at the first boundary after the first ACTIVE frame at which DRAINED is 1 (R122, R126).
DEDUCED, log entry 48. -/
def Port.linkBoundary (tick : Nat) (me : StackId) (x : Port) : Port :=
  if x.fr.fLink && x.link.lstate = .active && (match x.link.activeTick with | some t => decide (t < tick) | none => false) && x.fr.drained then
    let y := { x with fr := { x.fr with fLink := false } }
    if y.fr.fenced then y else y.lift tick me
  else x

/-- THR in the up frames (R101): where the direction occults, one IDLE frame is queued to carry the change. -/
def Port.thrBoundary (thr : Bool) (x : Port) : Port :=
  if x.fr.thrSent = thr then x
  else
    { x with fr := { x.fr with thrSent := thr }
             rty := if x.link.lstate = .active && x.link.upOcc then { x.rty with unsent := x.rty.unsent ++ [.idle] } else x.rty }

/-- A port at a boundary. -/
def Port.boundary (tick : Nat) (me : StackId) (thr : Bool) (x : Port) : Port :=
  let x := x.fillTick.stageBoundary
  let x := { x with
    lane := if x.lane.pgClr then { x.lane with pgClr := false, pcErr := [], pcBits := [], pcFail := 0 } else x.lane }
  let x := (x.testBoundary tick me).retrainBoundary tick me
  ((x.linkBoundary tick me).activeBoundary tick).tryTrain.thrBoundary thr

/-- Every port that has power acts on the boundary; a RETRAIN of one that has none is forgotten. -/
def portBoundary (s : State) : State :=
  let s := s.allPorts (fun p x => if s.domOn (portDom p) then x.boundary s.day.tick s.stackId s.lan.thr
    else { x with link := { x.link with retrainReq := false } })
  (List.range 32).foldl (fun s p => recoverRelease p s) s

/-! ### Clusters and channels -/

/-- A frequency step begins (R154, R155): S of R40 grows for every request of the cluster, and the slices' commands of T1 are due. -/
def stepStart (k to_ : Nat) (s : State) : State :=
  let s := s.modClu k (fun u => { u with stepTick := 1, stepFrom := u.step, stepTo := to_, held := none, t1Done := false, t3Done := false, phyBad := false })
  (List.range 4).foldl (fun s j => s.modSched (4 * k + j) (fun q =>
    let more := fun (e : Entry) => { e with s := e.s + 1 }
    { q with queue := q.queue.map more, link := q.link.map more, maint := (List.range 16).map Maint.srePrea })) s

/-- The next tick of a step (R155, R157): T2 and T3 follow where the commands of T1 and T3 were accepted; after T3 the cluster serves. -/
def stepNext (k : Nat) (s : State) : State :=
  let u := s.clu k
  match u.stepTick with
  | 1 => if u.t1Done && cluSr true k s then s.modClu k (fun u => { u with stepTick := 2 }) else stepFail k 16 s
  | 2 => (List.range 4).foldl (fun s j => s.modSched (4 * k + j) (fun q => { q with maint := (List.range 16).map Maint.srx }))
      (s.modClu k (fun u => { u with stepTick := 3 }))
  | 3 => if u.t3Done && cluSr false k s then stepOver k s else stepFail k 16 s
  | _ => s.modClu k (fun u => { u with stepTick := 0 })

/-- The step of the last accepted request shows as TARGET, and one that cannot begin yet as HELD (R154, R162): a step that is wanted begins at
the first boundary that R33 allows. -/
def stepMaybe (k : Nat) (s : State) : State :=
  let u := s.clu k
  let n := if u.stepTick = 0 then min (u.sinceEnd + 1) 8 else u.sinceEnd
  let s := s.modClu k (fun u => { u with target := u.wanted, sinceEnd := n })
  if !s.cluReady k || s.ls.on then s
  else if u.wanted = (if u.inStep then u.stepTo else u.step) then s.modClu k (fun u => { u with held := none })
  else if u.stepTick = 0 && n ≥ 8 then stepStart k u.wanted s
  else s.modClu k (fun u => { u with held := some u.wanted })

/-- A cluster that is to be switched off sleeps and loses its domain once its queued requests are done (R322). -/
def drainBoundary (k : Nat) (s : State) : State :=
  let idle := (List.range 4).all (fun j => (s.chan (4 * k + j)).q.queue.isEmpty && (s.chan (4 * k + j)).q.link.isEmpty)
  if (s.clu k).draining && idle && !(s.clu k).inStep then
    domDown (36 + k) ((List.range 4).foldl (fun s j => chanHalt false (4 * k + j) (mergeFlush (4 * k + j) s)) s)
  else s

/-- A stage of a cluster's start-up whose row has come ends, and the next begins (R433). -/
def stageMove (k : Nat) (g : Stage4) (s : State) : State :=
  match g with
  | .clock => nextStage k .repair s
  | .repair => nextStage k .tsvs (loadRepairs k s)
  | .tsvs => nextStage k .dies s
  | _ => diesUp k s

/-- The stages of a cluster's start-up at a boundary (R432, R433): Keeper begins the first; a stage ends when its row has come in its last tick,
and fails where that tick passes without it.
DEDUCED, log entry 59. -/
def stageBoundary (k : Nat) (s : State) : State :=
  let u := s.clu k
  if !s.domOn (36 + k) || s.ls.on || u.draining then s
  else match u.stage with
    | .off => if s.ready.getLsbD 14 && s.kpr.st = .run then nextStage k .clock s else s
    | .up | .failed => s
    | g =>
      if u.stageEnded then stageMove k g s
      else if g.last ≤ u.stageTicks + 1 then
        let s := stageFail k s
        if (s.clu k).stage = .off && s.kpr.st = .run then nextStage k .clock s else s
      else s.modClu k (fun u => { u with stageTicks := u.stageTicks + 1 })

/-- A cluster at a boundary. -/
def cluBoundary (k : Nat) (s : State) : State :=
  let s := if (s.clu k).stepTick ≠ 0 ∧ s.domOn (36 + k) then stepNext k s else s
  stageBoundary k (drainBoundary k (stepMaybe k s))

/-- The banks whose refresh is due in the tick (R144). -/
def refDue (tick : Nat) (q : Sched) : List Nat :=
  (List.range 128).filter (fun b => !(q.slice (dieOf b)).sr && (q.doubled.getLsbD (dieOf b) || b % 2 = tick % 2))

/-- The RFMTs of the tick (R148, R150): queued rows first, then due banks in descending order of RAA; at most 8. -/
def rfmDue (q : Sched) : List Nat :=
  let awake := fun (b : Nat) => !(q.slice (dieOf b)).sr
  let flush := (q.banks.filter (fun (b : Nat × Bank) => awake b.1)).flatMap (fun (b : Nat × Bank) => List.replicate b.2.flush.length b.1)
  let due := q.banks.filter (fun (b : Nat × Bank) => awake b.1 && b.2.flush.isEmpty && decide (512 ≤ b.2.raa))
  let due := sortBy (fun (a b : Nat × Bank) => decide (b.2.raa ≤ a.2.raa)) due
  (flush ++ due.map (·.1)).take 8

/-- The maintenance window of the new tick begins on channel `ch` (R31, R32, R144, R148, R173). -/
def windowBegin (ch : Nat) (s : State) : State :=
  let u := s.clu (cluOf ch)
  let i := (s.chan ch).i
  let live := fun (b : Nat) => !doomed i (dieOf b)
  let new := fun (q : Sched) =>
    ((refDue s.day.tick q).filter live).map Maint.refpb ++ ((rfmDue q).filter live).map Maint.rfmt ++
      List.replicate (min 16 s.day.scrubChunks) Maint.scrubSlot
  if !ctrlOn s ch then s
  else
    s.modSched ch (fun q => { q with
      maint := if u.inStep then q.maint else if s.cluReady (cluOf ch) || u.draining then new q else []
      winEnd := q.clk + windowClk u.step, overran := false, scrubRows := 0
      slices := q.slices.map (fun (y : Nat × Slice) => (y.1, { y.2 with
        alertsTick := 0, alertsRound := if s.day.tick % 64 = 0 then 0 else y.2.alertsRound })) })

/-- What was found on channel `ch` in the ended tick takes effect (R175 to R179, R187); then mooring moves do that are complete, of granules that
are not retired (R180, R182), and a round may begin. -/
def chanBoundary (ch : Nat) (s : State) : State := finishMoves ch (roundBoundary ch (ceRecord ch (applyPend ch s)))

/-! ### Keeper, power and self-test -/

/-- Keeper at a boundary (R306, R309, R311, R329): a reset that is due begins; after a reset it boots, then verifies a patch. -/
def keeperBoundary (s : State) : State :=
  let s := match s.kpr.st with
    | .reset => if keeperOn s then s.modKpr (fun k => { k with st := .boot, served := s.day.tick }) else s
    | .boot => if s.kpr.patchActive then s.modKpr (fun k => { k with st := .verify }) else s
    | _ => s
  match s.kpr.resetDue with
  | some c => keeperReset c false s
  | none => s

/-- Domains switch on (R428): at most four a tick, in ascending order. -/
def powerBoundary (s : State) : State :=
  let s := { s with pwr := { s.pwr with dom := s.pwr.dom.map (fun (d : Nat × DomSt) => match d.2 with
    | .switching t => (d.1, .switching (t + 1))
    | _ => d) } }
  if !s.pwr.started || s.pwr.perst || s.ls.on then s
  else
    let go := (sortBy (fun (a b : Nat) => decide (a ≤ b)) s.pwr.want).take 4
    { s with pwr := { s.pwr with
        dom := go.foldl (fun t n => if tget DomSt.off t n = .off then tset t n (.switching 0) else t) s.pwr.dom
        want := s.pwr.want.filter (fun n => !(go.contains n)) } }

/-- Causes of lightship mode that arose while an exit was staged act after it (R370). -/
def lsAfter (s : State) : State :=
  let l := s.ls.after
  l.foldl (fun s c => lsEnter c s) { s with ls := { s.ls with after := [], exitStaged := false } }

/-! ### The boundary -/

/-- Configuration at the boundary (R35, R36): staged values, then Renjan's, then budgets. The snapshot shows the ended tick (R292). -/
def configBoundary (s : State) : State :=
  let s := applyStaged (takeSnap s)
  let s := { s with bcn := s.bcn.boundary s.day }
  let s := s.modDay (fun d => { d with slewing := d.slewing && d.servoEn })
  let s := faultBoundary (lateBoundary s)
  budgetBoundary (stagedCmds s)

/-- Hardware reactions at the boundary (R36), unit by unit. -/
def reactBoundary (was : Bool) (s : State) : State :=
  let s := lsAfter (keeperBoundary s)
  let s := throttleBoundary (pinBoundary was s)
  let s := (List.range 32).foldl (fun s ch => chanBoundary ch s) s
  let s := (List.range 8).foldl (fun s k => cluBoundary k s) s
  let s := portBoundary (effRecompute s)
  let s := powerBoundary (startUp (testDomain s))
  (List.range 32).foldl (fun s ch => windowBegin ch s) s

/-- The tick boundary (R28, R30, R35, R36, R316).
DEDUCED, log entry 13. -/
def tickBoundary (s0 : State) : State :=
  if s0.pwr.held then s0
  else
    let was := s0.lan.tripAct && s0.lan.tripLs
    let ptm := s0.day.ptm.now ≠ 0
    let s := reactBoundary was (configBoundary (endTick s0))
    let s := lanePassEnd (wchEnd s)
    let s := finishWaits s
    let s := (List.range 8).foldl (fun s k => if (s.clu k).abandoned then s.modClu k (fun u => { u with abandoned := false }) else s) s
    let s := emitWaiting (ptmRecord ptm (sqBoundary (if s0.ready = s.ready then s else capTrack s0.ready s)))
    let s := { s with bcn := s0.bcn.bySource s.bcn }
    gateXbar (bar2Stream s.pcie.b2.length s)

/-- The boundary and what its events start; the capacity maps have already been compared within the boundary (R60). -/
def execTickBoundary (s : State) : Host.Outcome State Fault Refusal :=
  let t := tickBoundary s
  let u := collect t
  .next (readyRecords (readyBits s) (if t.ready = u.ready then u else capTrack t.ready u))

end Sys2Proof.Machine
end

