-- ==== Sys2Proof/Machine/Dispatch.lean ====
section
/-! DEFINITION. One arm for each command: a direct call of its meaning. -/

namespace Sys2Proof.Machine

def exec (i : Instr) (s : State) : Host.Outcome State Fault Refusal :=
  match i with
  | .rd64 p h r => Sys2Proof.Machine.execRd64 p h r s
  | .rd128 p h r => Sys2Proof.Machine.execRd128 p h r s
  | .wr64 p h r => Sys2Proof.Machine.execWr64 p h r s
  | .wr128 p h r => Sys2Proof.Machine.execWr128 p h r s
  | .wrm p h r => Sys2Proof.Machine.execWrm p h r s
  | .atAdd p h r => Sys2Proof.Machine.execAtAdd p h r s
  | .atSwap p h r => Sys2Proof.Machine.execAtSwap p h r s
  | .atCas p h r => Sys2Proof.Machine.execAtCas p h r s
  | .atAnd p h r => Sys2Proof.Machine.execAtAnd p h r s
  | .atOr p h r => Sys2Proof.Machine.execAtOr p h r s
  | .atXor p h r => Sys2Proof.Machine.execAtXor p h r s
  | .atSmax p h r => Sys2Proof.Machine.execAtSmax p h r s
  | .atSmin p h r => Sys2Proof.Machine.execAtSmin p h r s
  | .atUmax p h r => Sys2Proof.Machine.execAtUmax p h r s
  | .atUmin p h r => Sys2Proof.Machine.execAtUmin p h r s
  | .fence p h r => Sys2Proof.Machine.execFence p h r s
  | .start p h r => Sys2Proof.Machine.execStart p h r s
  | .resume p h r => Sys2Proof.Machine.execResume p h r s
  | .abort p h r => Sys2Proof.Machine.execAbort p h r s
  | .relayed p h r => Sys2Proof.Machine.execRelayed p h r s
  | .raccAdd p h r => Sys2Proof.Machine.execRaccAdd p h r s
  | .raccMin p h r => Sys2Proof.Machine.execRaccMin p h r s
  | .raccMax p h r => Sys2Proof.Machine.execRaccMax p h r s
  | .raccFw p h r => Sys2Proof.Machine.execRaccFw p h r s
  | .relayRsp p h r => Sys2Proof.Machine.execRelayRsp p h r s
  | .rlyCredit p h count => Sys2Proof.Machine.execRlyCredit p h count s
  | .idle p ack => Sys2Proof.Machine.execIdle p ack s
  | .nak p ack e => Sys2Proof.Machine.execNak p ack e s
  | .swapReq p h dir lane spare => Sys2Proof.Machine.execSwapReq p h dir lane spare s
  | .mirror p h dir lane spare => Sys2Proof.Machine.execMirror p h dir lane spare s
  | .switched p h dir lane spare => Sys2Proof.Machine.execSwitched p h dir lane spare s
  | .swapFail p h dir lane spare => Sys2Proof.Machine.execSwapFail p h dir lane spare s
  | .restoreReq p h dir lane spare => Sys2Proof.Machine.execRestoreReq p h dir lane spare s
  | .restore p h dir lane spare => Sys2Proof.Machine.execRestore p h dir lane spare s
  | .restored p h dir lane spare => Sys2Proof.Machine.execRestored p h dir lane spare s
  | .repair p h dir lane spare => Sys2Proof.Machine.execRepair p h dir lane spare s
  | .bistResult p h dir lane errors => Sys2Proof.Machine.execBistResult p h dir lane errors s
  | .reservedOpcodeRequest p h opc r => Sys2Proof.Machine.execReservedOpcodeRequest p h opc r s
  | .downLinkFrameDiscard p h unfence => Sys2Proof.Machine.execDownLinkFrameDiscard p h unfence s
  | .frameCrcFailure p => Sys2Proof.Machine.execFrameCrcFailure p s
  | .occultBlock p => Sys2Proof.Machine.execOccultBlock p s
  | .requestCommit p cls => Sys2Proof.Machine.execRequestCommit p cls s
  | .requestPerformed p tag => Sys2Proof.Machine.execRequestPerformed p tag s
  | .wrDoneCoalesceTimeout p => Sys2Proof.Machine.execWrDoneCoalesceTimeout p s
  | .nakResendTimeout p => Sys2Proof.Machine.execNakResendTimeout p s
  | .replayTimeout p => Sys2Proof.Machine.execReplayTimeout p s
  | .relay p => Sys2Proof.Machine.execRelay p s
  | .relayTimeout p rtag => Sys2Proof.Machine.execRelayTimeout p rtag s
  | .occultEntry p => Sys2Proof.Machine.execOccultEntry p s
  | .occultExit p => Sys2Proof.Machine.execOccultExit p s
  | .signalReturn p lanes => Sys2Proof.Machine.execSignalReturn p lanes s
  | .lossOfSignal p lanes => Sys2Proof.Machine.execLossOfSignal p lanes s
  | .pllLock pll => Sys2Proof.Machine.execPllLock pll s
  | .lossOfLock q => Sys2Proof.Machine.execLossOfLock q s
  | .frameClockLossOfLock => Sys2Proof.Machine.execFrameClockLossOfLock s
  | .detect p signal hostLag => Sys2Proof.Machine.execDetect p signal hostLag s
  | .phase p locked hostLag => Sys2Proof.Machine.execPhase p locked hostLag s
  | .adapt p settled hostLag => Sys2Proof.Machine.execAdapt p settled hostLag s
  | .ident p data ctl spare hostLag => Sys2Proof.Machine.execIdent p data ctl spare hostLag s
  | .deskew p delays hostLag => Sys2Proof.Machine.execDeskew p delays hostLag s
  | .lanetest p failing hostLag => Sys2Proof.Machine.execLanetest p failing hostLag s
  | .param p copies hostLag => Sys2Proof.Machine.execParam p copies hostLag s
  | .swapMatch p => Sys2Proof.Machine.execSwapMatch p s
  | .swapNoMatchTimeout p => Sys2Proof.Machine.execSwapNoMatchTimeout p s
  | .repairMarker p validLanes => Sys2Proof.Machine.execRepairMarker p validLanes s
  | .repairTimeout p => Sys2Proof.Machine.execRepairTimeout p s
  | .laneBistSlice p => Sys2Proof.Machine.execLaneBistSlice p s
  | .laneBistRestore p errors => Sys2Proof.Machine.execLaneBistRestore p errors s
  | .retrain p v => Sys2Proof.Machine.execRetrain p v s
  | .testEn p v => Sys2Proof.Machine.execTestEn p v s
  | .galPgCtlMode p v => Sys2Proof.Machine.execGalPgCtlMode p v s
  | .galPgCtlClr p v => Sys2Proof.Machine.execGalPgCtlClr p v s
  | .galCredWrite p reg v => Sys2Proof.Machine.execGalCredWrite p reg v s
  | .tickBoundary => Sys2Proof.Machine.execTickBoundary s
  | .powerGood dom => Sys2Proof.Machine.execPowerGood dom s
  | .pwrDomain dom => Sys2Proof.Machine.execPwrDomain dom s
  | .lateClr v => Sys2Proof.Machine.execLateClr v s
  | .ovrClr v => Sys2Proof.Machine.execOvrClr v s
  | .dayTsRateWrite hi v => Sys2Proof.Machine.execDayTsRateWrite hi v s
  | .ptmDialogue offset => Sys2Proof.Machine.execPtmDialogue offset s
  | .schedulerIssue ch => Sys2Proof.Machine.execSchedulerIssue ch s
  | .act ch bank row => Sys2Proof.Machine.execAct ch bank row s
  | .pre ch bank => Sys2Proof.Machine.execPre ch bank s
  | .prea ch die => Sys2Proof.Machine.execPrea ch die s
  | .refpb ch bank => Sys2Proof.Machine.execRefpb ch bank s
  | .rfmt ch bank => Sys2Proof.Machine.execRfmt ch bank s
  | .sre ch die => Sys2Proof.Machine.execSre ch die s
  | .srx ch die => Sys2Proof.Machine.execSrx ch die s
  | .pclr ch die => Sys2Proof.Machine.execPclr ch die s
  | .mrr ch die pattern => Sys2Proof.Machine.execMrr ch die pattern s
  | .rdc ch bank col errs => Sys2Proof.Machine.execRdc ch bank col errs s
  | .wrc ch bank col => Sys2Proof.Machine.execWrc ch bank col s
  | .openMaxExpiry ch bank => Sys2Proof.Machine.execOpenMaxExpiry ch bank s
  | .srIdleExpiry ch => Sys2Proof.Machine.execSrIdleExpiry ch s
  | .parityAlert ch die => Sys2Proof.Machine.execParityAlert ch die s
  | .freqStepT1 k => Sys2Proof.Machine.execFreqStepT1 k s
  | .freqStepT2 k locked => Sys2Proof.Machine.execFreqStepT2 k locked s
  | .freqStepT3 k trained => Sys2Proof.Machine.execFreqStepT3 k trained s
  | .freqStepEnd k => Sys2Proof.Machine.execFreqStepEnd k s
  | .stepFail k => Sys2Proof.Machine.execStepFail k s
  | .refreshRateReturn die => Sys2Proof.Machine.execRefreshRateReturn die s
  | .mergeFillReturn ch granule errs => Sys2Proof.Machine.execMergeFillReturn ch granule errs s
  | .mergeEntryTimeout ch granule errs => Sys2Proof.Machine.execMergeEntryTimeout ch granule errs s
  | .tsvLoopbackTest ch tsv fails dies => Sys2Proof.Machine.execTsvLoopbackTest ch tsv fails dies s
  | .mooringRoundEnd ch => Sys2Proof.Machine.execMooringRoundEnd ch s
  | .descriptorReadComplete stream => Sys2Proof.Machine.execDescriptorReadComplete stream s
  | .doorbellContextRead stream => Sys2Proof.Machine.execDoorbellContextRead stream s
  | .streamFillComplete stream => Sys2Proof.Machine.execStreamFillComplete stream s
  | .elementIssue t => Sys2Proof.Machine.execElementIssue t s
  | .xlateWalkComplete asid vpn => Sys2Proof.Machine.execXlateWalkComplete asid vpn s
  | .elementApplied stream k => Sys2Proof.Machine.execElementApplied stream k s
  | .streamDrainComplete stream => Sys2Proof.Machine.execStreamDrainComplete stream s
  | .finalWritesComplete stream => Sys2Proof.Machine.execFinalWritesComplete stream s
  | .preemption t => Sys2Proof.Machine.execPreemption t s
  | .contextEvict t => Sys2Proof.Machine.execContextEvict t s
  | .contextScan => Sys2Proof.Machine.execContextScan s
  | .contextWriteComplete => Sys2Proof.Machine.execContextWriteComplete s
  | .go m v => Sys2Proof.Machine.execGo m v s
  | .keeperTake => Sys2Proof.Machine.execKeeperTake s
  | .identGet m => Sys2Proof.Machine.execIdentGet m s
  | .stackIdSet m => Sys2Proof.Machine.execStackIdSet m s
  | .portPower m => Sys2Proof.Machine.execPortPower m s
  | .portFence m => Sys2Proof.Machine.execPortFence m s
  | .portUnfence m => Sys2Proof.Machine.execPortUnfence m s
  | .relaySet m => Sys2Proof.Machine.execRelaySet m s
  | .zombieRelease m => Sys2Proof.Machine.execZombieRelease m s
  | .clusterStep m => Sys2Proof.Machine.execClusterStep m s
  | .clusterPower m => Sys2Proof.Machine.execClusterPower m s
  | .sectAdmit m => Sys2Proof.Machine.execSectAdmit m s
  | .sectQuery m => Sys2Proof.Machine.execSectQuery m s
  | .streamAlloc m => Sys2Proof.Machine.execStreamAlloc m s
  | .streamFree m => Sys2Proof.Machine.execStreamFree m s
  | .streamQuery m => Sys2Proof.Machine.execStreamQuery m s
  | .streamResume m => Sys2Proof.Machine.execStreamResume m s
  | .streamAbort m => Sys2Proof.Machine.execStreamAbort m s
  | .asidSet m => Sys2Proof.Machine.execAsidSet m s
  | .asidClear m => Sys2Proof.Machine.execAsidClear m s
  | .xlateInval m => Sys2Proof.Machine.execXlateInval m s
  | .fwRegionSet m => Sys2Proof.Machine.execFwRegionSet m s
  | .fwRegionClear m => Sys2Proof.Machine.execFwRegionClear m s
  | .tndPower m => Sys2Proof.Machine.execTndPower m s
  | .mooringLoad m => Sys2Proof.Machine.execMooringLoad m s
  | .mooringFree m => Sys2Proof.Machine.execMooringFree m s
  | .mooringRead m => Sys2Proof.Machine.execMooringRead m s
  | .channelRetire m => Sys2Proof.Machine.execChannelRetire m s
  | .integrityGet m => Sys2Proof.Machine.execIntegrityGet m s
  | .fuseRead m => Sys2Proof.Machine.execFuseRead m s
  | .fuseProgram m => Sys2Proof.Machine.execFuseProgram m s
  | .fuseSeal m => Sys2Proof.Machine.execFuseSeal m s
  | .fuseLock m => Sys2Proof.Machine.execFuseLock m s
  | .fuseReburn m => Sys2Proof.Machine.execFuseReburn m s
  | .lanSensorRestore m => Sys2Proof.Machine.execLanSensorRestore m s
  | .lanOverride m => Sys2Proof.Machine.execLanOverride m s
  | .overrideEnd => Sys2Proof.Machine.execOverrideEnd s
  | .lanConfig m => Sys2Proof.Machine.execLanConfig m s
  | .lanRead m => Sys2Proof.Machine.execLanRead m s
  | .bistStatus m => Sys2Proof.Machine.execBistStatus m s
  | .tsvTest m => Sys2Proof.Machine.execTsvTest m s
  | .watchSelect m => Sys2Proof.Machine.execWatchSelect m s
  | .snapshot m => Sys2Proof.Machine.execSnapshot m s
  | .logRead m => Sys2Proof.Machine.execLogRead m s
  | .fwPatchLoad m => Sys2Proof.Machine.execFwPatchLoad m s
  | .lifecycleAdvance m => Sys2Proof.Machine.execLifecycleAdvance m s
  | .keeperReset m => Sys2Proof.Machine.execKeeperReset m s
  | .faultInject m => Sys2Proof.Machine.execFaultInject m s
  | .foghornDrive m => Sys2Proof.Machine.execFoghornDrive m s
  | .lightshipExit m => Sys2Proof.Machine.execLightshipExit m s
  | .watchdog => Sys2Proof.Machine.execWatchdog s
  | .keeperRun => Sys2Proof.Machine.execKeeperRun s
  | .lightshipCause4Clear => Sys2Proof.Machine.execLightshipCause4Clear s
  | .sramScrubRead word errs => Sys2Proof.Machine.execSramScrubRead word errs s
  | .faultEvent src inst info => Sys2Proof.Machine.execFaultEvent src inst info s
  | .foghornPulseEnd => Sys2Proof.Machine.execFoghornPulseEnd s
  | .lightshipDomainsOff => Sys2Proof.Machine.execLightshipDomainsOff s
  | .fltClr v => Sys2Proof.Machine.execFltClr v s
  | .fltCntClr v => Sys2Proof.Machine.execFltCntClr v s
  | .sqClear off v => Sys2Proof.Machine.execSqClear off v s
  | .bcnLsrcPend v => Sys2Proof.Machine.execBcnLsrcPend v s
  | .beaconRecordWrite fast => Sys2Proof.Machine.execBeaconRecordWrite fast s
  | .tail fast v => Sys2Proof.Machine.execTail fast v s
  | .bcnConfigWrite fast reg v => Sys2Proof.Machine.execBcnConfigWrite fast reg v s
  | .bcnMask unit w v => Sys2Proof.Machine.execBcnMask unit w v s
  | .quench l => Sys2Proof.Machine.execQuench l s
  | .lanternPublish round => Sys2Proof.Machine.execLanternPublish round s
  | .graceEnd => Sys2Proof.Machine.execGraceEnd s
  | .tripN samples => Sys2Proof.Machine.execTripN samples s
  | .srN samples => Sys2Proof.Machine.execSrN samples s
  | .perstNFall => Sys2Proof.Machine.execPerstNFall s
  | .stackResetDomainsOff => Sys2Proof.Machine.execStackResetDomainsOff s
  | .perstNRise => Sys2Proof.Machine.execPerstNRise s
  | .alwaysOnReset => Sys2Proof.Machine.execAlwaysOnReset s
  | .alwaysOnResetRelease => Sys2Proof.Machine.execAlwaysOnResetRelease s
  | .testReset => Sys2Proof.Machine.execTestReset s
  | .functionReset => Sys2Proof.Machine.execFunctionReset s
  | .d3hot => Sys2Proof.Machine.execD3hot s
  | .returnToD0 => Sys2Proof.Machine.execReturnToD0 s
  | .configurationReady => Sys2Proof.Machine.execConfigurationReady s
  | .clkRef => Sys2Proof.Machine.execClkRef s
  | .clkMgref => Sys2Proof.Machine.execClkMgref s
  | .bank0Sense reads => Sys2Proof.Machine.execBank0Sense reads s
  | .bulkSense reads => Sys2Proof.Machine.execBulkSense reads s
  | .resensePassStart => Sys2Proof.Machine.execResensePassStart s
  | .resenseBankEnd reads => Sys2Proof.Machine.execResenseBankEnd reads s
  | .criticalShadowCheck => Sys2Proof.Machine.execCriticalShadowCheck s
  | .clusterStageClock k => Sys2Proof.Machine.execClusterStageClock k s
  | .clusterStageRepair k => Sys2Proof.Machine.execClusterStageRepair k s
  | .clusterStageTsvs k failing => Sys2Proof.Machine.execClusterStageTsvs k failing s
  | .clusterStageDies k => Sys2Proof.Machine.execClusterStageDies k s
  | .clusterStageFail k => Sys2Proof.Machine.execClusterStageFail k s
  | .tsvBistSlice failing => Sys2Proof.Machine.execTsvBistSlice failing s
  | .tsvConfirmTest fails => Sys2Proof.Machine.execTsvConfirmTest fails s
  | .trigger v => Sys2Proof.Machine.execTrigger v s
  | .bar0Write w => Sys2Proof.Machine.execBar0Write w s
  | .bar2Read off len => Sys2Proof.Machine.execBar2Read off len s
  | .bar2Write off data be poisoned => Sys2Proof.Machine.execBar2Write off data be poisoned s
  | .idcode => Sys2Proof.Machine.execIdcode s
  | .samplePreload cells => Sys2Proof.Machine.execSamplePreload cells s
  | .extest => Sys2Proof.Machine.execExtest s
  | .clamp => Sys2Proof.Machine.execClamp s
  | .highz => Sys2Proof.Machine.execHighz s
  | .status => Sys2Proof.Machine.execStatus s
  | .dieSel sel => Sys2Proof.Machine.execDieSel sel s
  | .fuse bank word bits => Sys2Proof.Machine.execFuse bank word bits s
  | .kdbg => Sys2Proof.Machine.execKdbg s
  | .bypass => Sys2Proof.Machine.execBypass s
  | .wakeBurst p => Sys2Proof.Machine.execWakeBurst p s
  | .clkCluster k => Sys2Proof.Machine.execClkCluster k s
  | .refclkReturn => Sys2Proof.Machine.execRefclkReturn s
  | .managementLinkUp => Sys2Proof.Machine.execManagementLinkUp s
  | .busMasterEnable bme mse => Sys2Proof.Machine.execBusMasterEnable bme mse s
  | .msixUnmask v masked en fmask => Sys2Proof.Machine.execMsixUnmask v masked en fmask s
  | .fhNLevel low => Sys2Proof.Machine.execFhNLevel low s
  | .swapReqUnanswered p => Sys2Proof.Machine.execSwapReqUnanswered p s
  | .laneCtlDiscard p h action lane => Sys2Proof.Machine.execLaneCtlDiscard p h action lane s
  | .doorbellUndefinedCommand p h r => Sys2Proof.Machine.execDoorbellUndefinedCommand p h r s
  | .fuseBurnComplete verified => Sys2Proof.Machine.execFuseBurnComplete verified s
  | .keeperCoreSramRead mac word err => Sys2Proof.Machine.execKeeperCoreSramRead mac word err s

end Sys2Proof.Machine
end

