-- ==== Sys2Proof/WellFormed.lean ====
section
/-! DEFINITION. Which commands are well formed: the shapes that an operand's Lean type does not already give it (the data of a
frame, lists of readings, lists of errors, ranges of rows, opcodes that belong to a row). -/

namespace Sys2Proof

/-- A frame carries at most 128 data bytes (R98). -/
def ReqF.frame (r : ReqF) : Bool := r.data.length ≤ 128

/-- The inner opcode of a relay frame (R127). -/
def ReqF.inner (r : ReqF) : BitVec 8 := r.operand.extractLsb' 0 8

/-- The command of a doorbell (R105). -/
def ReqF.bell (r : ReqF) : BitVec 8 := r.operand.extractLsb' 16 8

/-- The inner opcodes of remote accumulations (R102). -/
def raccInner (o : BitVec 8) : Bool := o = 0x50 || o = 0x51 || o = 0x52 || o = 0x53

/-- Down opcodes that have a meaning (R102): every other opcode is reserved or up-only. -/
def downOpcode (o : BitVec 8) : Bool :=
  [0x00, 0x01, 0x02, 0x04, 0x05, 0x06, 0x20, 0x30, 0x40, 0x41, 0xE0, 0xE1, 0xE2, 0xE3, 0xF0].contains o.toNat ||
    (0x10 ≤ o.toNat && o.toNat ≤ 0x19)

/-- The lanes that LANE_CTL manages (R81). -/
def laneOk (l : BitVec 7) : Bool := l.toNat ≤ 75

/-- ACTION codes that R81 reserves. -/
def actionReserved (a : BitVec 4) : Bool := a.toNat = 0 || 10 ≤ a.toNat

/-- Granule `g` of the stack's memory (R50). -/
def granOk (g : Nat) : Bool := g < 0x1800000000 / 64

/-- Readings of fuses belong to the banks that the sense covers. -/
def readsIn (f : Nat → Bool) (l : List FuseRead) : Bool := l.all (fun r => f r.bank.val)

/-- The command is well formed. -/
def Instr.wf : Instr → Bool
  | .rd64 _ _ r | .rd128 _ _ r | .wr64 _ _ r | .wr128 _ _ r | .wrm _ _ r | .atAdd _ _ r | .atSwap _ _ r | .atCas _ _ r | .atAnd _ _ r
  | .atOr _ _ r | .atXor _ _ r | .atSmax _ _ r | .atSmin _ _ r | .atUmax _ _ r | .atUmin _ _ r | .fence _ _ r => r.frame
  | .start _ _ r => r.frame && r.bell = 1
  | .resume _ _ r => r.frame && r.bell = 2
  | .abort _ _ r => r.frame && r.bell = 3
  | .doorbellUndefinedCommand _ _ r => r.frame && !(r.bell = 1 || r.bell = 2 || r.bell = 3)
  | .relayed _ _ r => r.frame && !raccInner r.inner
  | .raccAdd _ _ r => r.frame && r.inner = 0x50
  | .raccMin _ _ r => r.frame && r.inner = 0x51
  | .raccMax _ _ r => r.frame && r.inner = 0x52
  | .raccFw _ _ r => r.frame && r.inner = 0x53
  | .relayRsp _ _ r => r.data.length ≤ 128
  | .reservedOpcodeRequest _ _ o r => r.frame && !downOpcode o
  | .swapReq _ _ _ l _ | .mirror _ _ _ l _ | .switched _ _ _ l _ | .swapFail _ _ _ l _ | .restoreReq _ _ _ l _ | .restore _ _ _ l _
  | .restored _ _ _ l _ | .repair _ _ _ l _ | .bistResult _ _ _ l _ => laneOk l
  | .laneCtlDiscard _ _ a l => actionReserved a || !laneOk l
  | .act _ _ row => row < 24576
  | .mergeFillReturn _ g _ | .mergeEntryTimeout _ g _ => granOk g
  | .xlateWalkComplete _ vpn => vpn < 2 ^ 36
  | .sramScrubRead _ errs => errs.length ≤ 16
  | .sqClear off _ => off.toNat % 4 = 0
  | .lanternPublish r => r.die.length ≤ 64 && r.base.length ≤ 12 && r.volt.length ≤ 10
  | .bank0Sense l => readsIn (· = 0) l
  | .bulkSense l => readsIn (· ≠ 0) l
  | .clusterStageTsvs k l => l.all (fun x => x.1 / 4 = k.val && x.2.1 < 324)
  | .tsvBistSlice l => l.all (· < 16)
  | .bar0Write w => w.off < 0x10000 && !w.words.isEmpty && w.be.length = w.words.length
  | .bar2Read off len => 0 < len && off + len ≤ 2 ^ 20
  | .bar2Write off data be _ => !data.isEmpty && be.length = data.length && off + data.length ≤ 2 ^ 20
  | _ => true

end Sys2Proof
end

