-- ==== Sys2Proof/Safety.lean ====
section
/-! DEFINITION. What counts as a safe run: the invariants that every step keeps, and the conditions under which a command has
its own effect. -/

namespace Sys2Proof.Machine

/-- The invariant of memory: both lists of cells in canonical form. -/
abbrev Inv (s : State) : Prop := Memory.wf s = true

/-- The events that the ended command raised have all been taken: the line to the collector is empty and no controller waits to be
stopped. -/
abbrev Calm (s : State) : Prop := s.flt.line = [] ∧ s.ls.ctl = false

end Sys2Proof.Machine
end

