-- ==== Sys2Proof/Certificates/Slice0/Obligations.lean ====
section
/-! DEFINITION. The statements for the provers. The definitions of `Sys2Proof.Claims` are the conditions and the results that
the statements name. -/

open Sys2Proof Sys2Proof.Machine

namespace Sys2Proof.Claims

/-! ### Ports -/

/-- A frame with header `h` is the expected one on port `p` (R113, R114): nothing is left of the last command, the receiver
sees frames, no error is injected into its CRC, FSEQ is E, and ACK covers no further frame. -/
abbrev Expected (s : State) (p : PortId) (h : Hdr) : Prop :=
  Calm s ∧ receiving (s.port p.val) = true ∧ injArmed s 2 p.val = none ∧ h.fseq = (s.port p.val).rty.rxE ∧
    ackCovers (s.port p.val).rty h.ack = some 0

/-- The port after one more frame with a good CRC (R80, R133). -/
def heard (x : Port) : Port :=
  { x with fr := { x.fr with framesDn := x.fr.framesDn + 1 }, lane := { x.lane with scrDn := x.lane.scrDn + 1 } }

/-- The port after the retry layer has accepted a frame (R114, R133): E and GAL_FRAMES_DN add 1, and an acknowledgement is owed
while the up direction occults (R89). -/
def accepted (x : Port) : Port :=
  { heard x with rty := { x.rty with rxE := x.rty.rxE + 1, nakWait := false, naks := 0, ackOwed := x.link.upOcc } }

/-- The state in which port `p` is `x`. -/
def withPort (s : State) (p : PortId) (x : Port) : State := { s with ports := tset s.ports p.val x }

/-- The transmitter has nothing waiting: the link is ACTIVE with its frame clock, the up direction does not occult, no frame and no NAK waits. -/
abbrev Idles (x : Port) : Prop := x.framing = true ∧ x.rty.nakOwed = false ∧ x.rty.unsent = []

/-- The transmitter of the port sends at once (R114 SEND): nothing waits, and fewer than 256 frames are unacknowledged. -/
abbrev Sends (x : Port) : Prop := Idles x ∧ x.rty.replay.length < 256

/-- An up frame under FSEQ `n` with content `b` (R101, R113): its ACK is the FSEQ of the last frame accepted, its THR that in force. -/
def upFrame (x : Port) (n : Fseq) (b : UpBody) : UpSent := .frame { fseq := n, ack := x.rty.rxE - 1, thr := x.fr.thrSent, body := b }

/-- The port after the frames `l` have left on its up lanes (R80, R133). -/
def transmitted (l : List UpSent) (x : Port) : Port :=
  { x with
    fr := { x.fr with framesUp := x.fr.framesUp + BitVec.ofNat 32 l.length, upTick := x.fr.upTick + l.length }
    lane := { x.lane with scrUp := x.lane.scrUp + l.length }
    tx := x.tx ++ l }

/-- The port after it has sent a frame with content `b` (R113): it took the next FSEQ and waits in the replay buffer. -/
def sent (tick : Nat) (b : UpBody) (x : Port) : Port :=
  transmitted [upFrame x x.rty.txNext b] { x with
    rty := { x.rty with replay := x.rty.replay ++ [{ fseq := x.rty.txNext, body := b, sent := tick }]
                        txNext := x.rty.txNext + 1, ackOwed := false } }

/-- The port after it has sent NAK (E) for the `n`th time (R114). -/
def nakSent (n : Nat) (x : Port) : Port :=
  transmitted [upFrame x 0 (.nak x.rty.rxE)] { x with rty := { x.rty with nakWait := true, naks := n, nakOwed := false, ackOwed := false } }

/-- The port after a CRC failure or an FSEQ gap has been counted (R118, R133). -/
def crcCounted (x : Port) : Port := { x with fr := { x.fr with cntCrc := satInc x.fr.cntCrc, fevt := x.fr.fevt.raise 0 } }

/-- The collector after a C1 event of source 0 (R356 to R358). -/
def crcEvent (f : Flt) : Flt :=
  { f with src := f.src ||| 1, nowSrc := f.nowSrc ||| 1, changed := true, cnt := tset f.cnt 1 (satInc (tget 0 f.cnt 1)), events := f.events + 1 }

/-- The alignment of the address of a memory request (R105). -/
def alignment (o : BitVec 8) : Nat :=
  if o = 0x01 ∨ o = 0x04 then 64 else if isAtomic o then 8 else 128

/-- The field rules of a memory request (R105): the address is aligned, the mask is 0 (not 0 for a masked write), and only
a write may carry poison. -/
abbrev FieldsOk (o : BitVec 8) (r : ReqF) : Prop :=
  r.addr.toNat % alignment o = 0 ∧ (if o = 0x06 then r.mask ≠ 0 else r.mask = 0) ∧
    (r.poison = true → o = 0x04 ∨ o = 0x05 ∨ o = 0x06)

/-- The checks that every request passes on receipt (R117 orders 1, 3, 5 and 6): TAG free, port not fenced, SECT 0 to 6,
fewer requests outstanding than the class has credit. -/
abbrev Admissible (x : Port) (r : ReqF) : Prop :=
  (x.fr.tag r.tag.toNat).outstanding = false ∧ x.fr.fenced = false ∧ r.sect ≠ 7 ∧
    x.fr.outClass r.sect.toNat < x.fr.credit r.sect.toNat

/-- The tag record of a request that waits in its class queue (R108, R112). -/
def heldTag (k : Kind) (w : Bool) (r : ReqF) (arr : Nat) : TagRec :=
  { st := .held, kind := k, sect := r.sect.toNat, arr := arr, stack := r.stack, orig := r.orig, writes := w }

/-- The port with the request at the tail of its class queue (R112), its tag HELD. -/
def queued (o : BitVec 8) (k : Kind) (w : Bool) (r : ReqF) (x : Port) : Port :=
  { x with fr := { x.fr with
      arr := x.fr.arr + 1
      tags := tset x.fr.tags r.tag.toNat (heldTag k w r x.fr.arr)
      cq := tset x.fr.cq r.sect.toNat (tget [] x.fr.cq r.sect.toNat ++ [{ opc := o, f := r, arr := x.fr.arr }]) } }

/-- The memory requests with their opcodes, kinds, and whether they write (R102). -/
def memoryRows (p : PortId) (h : Hdr) (r : ReqF) : List (Instr × BitVec 8 × Kind × Bool) :=
  [(.rd64 p h r, 0x01, .read, false), (.rd128 p h r, 0x02, .read, false),
   (.wr64 p h r, 0x04, .write, true), (.wr128 p h r, 0x05, .write, true), (.wrm p h r, 0x06, .write, true),
   (.atAdd p h r, 0x10, .atomic, true), (.atSwap p h r, 0x11, .atomic, true), (.atCas p h r, 0x12, .atomic, true),
   (.atAnd p h r, 0x13, .atomic, true), (.atOr p h r, 0x14, .atomic, true), (.atXor p h r, 0x15, .atomic, true),
   (.atSmax p h r, 0x16, .atomic, true), (.atSmin p h r, 0x17, .atomic, true), (.atUmax p h r, 0x18, .atomic, true),
   (.atUmin p h r, 0x19, .atomic, true)]

/-- A relay frame with the inner opcode given (R127). -/
def withInner (o : BitVec 8) (r : ReqF) : ReqF := { r with operand := r.operand.extractLsb' 8 24 ++ o }

/-- A doorbell with the command given (R105). -/
def withBell (c : BitVec 8) (r : ReqF) : ReqF :=
  { r with operand := r.operand.extractLsb' 24 8 ++ (c ++ r.operand.extractLsb' 0 16) }

/-- The field rules of a RELAYED request with an inner memory request, or with an inner remote accumulation (R129). -/
abbrev InnerOk (r : ReqF) : Prop :=
  let o := r.operand.extractLsb' 0 8
  (o ∈ [0x01#8, 0x02, 0x04, 0x05, 0x06, 0x10, 0x11, 0x12, 0x13, 0x14, 0x15, 0x16, 0x17, 0x18, 0x19] ∧ FieldsOk o r) ∨
    (o ∈ [0x50#8, 0x51, 0x52, 0x53] ∧ r.addr.toNat % 128 = 0 ∧ r.mask ≠ 0 ∧
      (r.operand.extractLsb' 26 3).toNat ≤ (if o = 0x53 then 0 else 4))

/-- The relay frames: RELAYED as received, and the remote accumulations with their inner opcodes (R127, R129). -/
def relayRows (p : PortId) (h : Hdr) (r : ReqF) : List (Instr × ReqF) :=
  [(.relayed p h r, r), (.raccAdd p h r, withInner 0x50 r), (.raccMin p h r, withInner 0x51 r),
   (.raccMax p h r, withInner 0x52 r), (.raccFw p h r, withInner 0x53 r)]

/-- The frame of a request (R98 to R100): its header with the CRC over header and data. -/
def requestFrame (h : Hdr) (o : BitVec 8) (r : ReqF) (d : BitVec 1024) : BitVec 192 :=
  withCrc (headBits h.fseq h.ack false { opc := o, tag := r.tag, sect := r.sect, stack := r.stack
                                         mid := midReq r.addr r.mask r.operand, poison := r.poison, orig := r.orig }) d

/-- A tag that has been answered (R109). -/
def answeredTag (t : TagRec) : TagRec := { t with st := .answered, fenced := false }

/-- No tag of the port is in use and no request waits in a class queue. -/
abbrev Unused (x : Port) : Prop := (∀ y ∈ x.fr.tags, y.2.st = .free) ∧ ∀ c, tget [] x.fr.cq c = []

/-- The counts that a commit of class `c` on port `p` takes (R190, R204). -/
def counted (x : Sec) (p c : Nat) : Sec :=
  { x with out := tset x.out c (tget 0 x.out c + 1)
           srcOut := tset x.srcOut (8 * p + c) (tget 0 x.srcOut (8 * p + c) + 1)
           commit := tset x.commit c (tget 0 x.commit c + 1) }

/-- The tag record of a request committed in the state `s` (R39, R190, R203). -/
def issuedTag (s : State) (k : Kind) (w : Bool) (r : ReqF) (arr : Nat) : TagRec :=
  { heldTag k w r arr with
    st := .issued, holds := true, throttled := decide (s.sec.k ≠ 0)
    bound := if s.sec.guar r.sect.toNat then some { accepted := s.day.tick } else none }

/-- The state in which the request has been accepted and, alone on its port, committed at once. -/
def committed (s : State) (p : PortId) (k : Kind) (r : ReqF) : State :=
  let x := accepted (s.port p.val)
  { withPort s p { x with fr := { x.fr with
      arr := x.fr.arr + 1, cq := tset x.fr.cq r.sect.toNat []
      tags := tset x.fr.tags r.tag.toNat (issuedTag s k false r x.fr.arr) } } with
    sec := counted s.sec p.val r.sect.toNat }

/-- The state in which port `p` has performed and answered the request of tag `t`. -/
def replied (s : State) (p : PortId) (t : Tag) (b : UpBody) : State :=
  let x := s.port p.val
  withPort s p (sent s.day.tick b { x with fr := { x.fr with
    tags := tset x.fr.tags t.toNat { x.fr.tag t.toNat with st := .answered, outcome := .performed } } })

/-- Status OK, or THROTTLED_HINT while throttle enforcement acts (R103, R203). -/
def okCode (s : State) : Nat := if s.sec.k = 0 then 0 else 1

/-- A doorbell that is decided as soon as it arrives (R105, R117, R121, R249): it passes every check of R117, no earlier request
is open on its port, its budgets admit it, and its stream is resident with the generation it names and no doorbell before it. -/
abbrev Decided (s : State) (p : PortId) (h : Hdr) (r : ReqF) (k : Nat) (e : Res) : Prop :=
  let n := r.addr.toNat
  (Expected s p h ∧ Sends (s.port p.val) ∧ Admissible (s.port p.val) r ∧ Unused (s.port p.val)) ∧
    (n < 2 ^ 18 ∧ r.operand.extractLsb' 24 8 = 0 ∧ r.mask = 0 ∧ r.poison = false ∧ r.stack = s.stackId) ∧
    (s.tenderPart = true ∧ xlReady s = true ∧ ctxWritten s n = true ∧ tndReady s e.ctx.tcl = true ∧
      budgetsAdmit s.sec p.val r.sect.toNat = true) ∧
    (s.tnd.dbq = [] ∧ resident s n = some (k, e) ∧ r.operand.extractLsb' 0 16 = e.ctx.gen)

/-- The port after a replay episode from its oldest frame (R114, R115, R133): each frame is sent again with the ACK and THR of now. -/
def resent (tick : Nat) (x : Port) : Port :=
  let tags := x.rty.replay.flatMap (fun f => f.body.tags)
  transmitted (x.rty.replay.map (fun f => upFrame x f.fseq f.body)) { x with
    rty := { x.rty with replay := x.rty.replay.map (fun f => { f with sent := tick }) }
    fr := { x.fr with
      cntReplay := satInc x.fr.cntReplay, fevt := x.fr.fevt.raise 1
      tags := x.fr.tags.map (fun y =>
        if tags.contains y.1 then (y.1, { y.2 with bound := y.2.bound.map (fun b => { b with u := b.u + 1 }) }) else y) } }

/-- The port and the header of a down frame that carries an FSEQ (R113). -/
def headerOf : Instr → Option (PortId × Hdr)
  | .rd64 p h _ | .rd128 p h _ | .wr64 p h _ | .wr128 p h _ | .wrm p h _ | .atAdd p h _ | .atSwap p h _
  | .atCas p h _ | .atAnd p h _ | .atOr p h _ | .atXor p h _ | .atSmax p h _ | .atSmin p h _ | .atUmax p h _
  | .atUmin p h _ | .fence p h _ | .start p h _ | .resume p h _ | .abort p h _ | .doorbellUndefinedCommand p h _
  | .relayed p h _ | .raccAdd p h _ | .raccMin p h _ | .raccMax p h _ | .raccFw p h _ | .relayRsp p h _
  | .rlyCredit p h _ | .downLinkFrameDiscard p h _ | .reservedOpcodeRequest p h _ _ | .laneCtlDiscard p h _ _
  | .swapReq p h _ _ _ | .mirror p h _ _ _ | .switched p h _ _ _ | .swapFail p h _ _ _ | .restoreReq p h _ _ _
  | .restore p h _ _ _ | .restored p h _ _ _ | .repair p h _ _ _ | .bistResult p h _ _ _ => some (p, h)
  | _ => none

/-- The content of the RELAY frame that carries the access of an element (R127, R129). -/
def relayBody (me : StackId) (g : Nat) (r : Res) (e : El) : UpBody :=
  let q := innerOf e
  let ty : Nat := match e.acc with
    | .acc _ _ .fp64 _ => 0 | .acc _ _ .fp32 _ => 1 | .acc _ _ .int64 _ => 2 | .acc _ _ .uint64 _ => 3 | .acc _ _ .int32 _ => 4
    | _ => 0
  .relay (BitVec.ofNat 9 g) r.ctx.cls (BitVec.ofNat 12 e.stack) me (BitVec.ofNat 37 q.addr) q.mask
    (BitVec.ofNat 32 (q.iopc.toNat + r.stream * 2 ^ 8 + ty * 2 ^ 26)) q.poison q.data

/-- The state in which the link of port `p` is `l`. -/
def withLink (s : State) (p : PortId) (l : Link) : State := withPort s p { s.port p.val with link := l }

/-- The link is in training and its stage `st` has lasted its ticks (R73). -/
abbrev AtEnd (x : Port) (st : Stage) : Prop :=
  x.link.lstate = .train ∧ x.link.stage = st ∧ x.link.stageTicks = st.ticks ∧ x.link.goActive = false

/-- The end of stage `st` that fails with `cause`: the host lags, or the stage's own criterion does not hold (R73, R74); `m` is the
down map afterwards, in which a failed LANETEST marks its failing spares (R78). -/
inductive FailsStage (x : Port) (p : PortId) : Instr → Stage → Nat → LaneMap → Prop
  | detectLag (w) : FailsStage x p (.detect p w true) .detect 7 x.lane.mapDn
  | detect (w) : (lanesIn w).length < 76 → FailsStage x p (.detect p w false) .detect 1 x.lane.mapDn
  | phaseLag (w) : FailsStage x p (.phase p w true) .phase 7 x.lane.mapDn
  | phase (w) : (lanesIn w).length < 76 → FailsStage x p (.phase p w false) .phase 2 x.lane.mapDn
  | adaptLag (b) : FailsStage x p (.adapt p b true) .adapt 7 x.lane.mapDn
  | adapt : FailsStage x p (.adapt p false false) .adapt 2 x.lane.mapDn
  | identLag (d c e) : FailsStage x p (.ident p d c e true) .ident 7 x.lane.mapDn
  | ident (d c e) : groupOrder d 0 64 = .other ∨ groupOrder c 64 12 = .other ∨ groupOrder e 76 2 = .other →
      FailsStage x p (.ident p d c e false) .ident 3 x.lane.mapDn
  | deskewLag (l) : FailsStage x p (.deskew p l true) .deskew 7 x.lane.mapDn
  | deskew (l) : 24 < skewOf l → FailsStage x p (.deskew p l false) .deskew 4 x.lane.mapDn
  | lanetestLag (w) : FailsStage x p (.lanetest p w true) .laneTest 7 x.lane.mapDn
  | lanetest (w) : chooseMap x.lane.mapDn.rev (lanesFailing x w) = none →
      FailsStage x p (.lanetest p w false) .laneTest 5 { x.lane.mapDn with
        s0Bad := x.lane.mapDn.s0Bad || (lanesFailing x w).getLsbD 76, s1Bad := x.lane.mapDn.s1Bad || (lanesFailing x w).getLsbD 77 }
  | paramLag (b) : FailsStage x p (.param p b true) .param 7 x.lane.mapDn
  | param (b) : acceptBlock x.lane.outDn b = none → FailsStage x p (.param p b false) .param 6 x.lane.mapDn

/-- The state after a BAR0 write that completed with success (R286). -/
def wrote (s : State) : State := { s with pcie := { s.pcie with cpl := .success [] } }

/-- The state in which cluster `k` is `u`, and the state in which channel `c` is `x`. -/
def withClu (s : State) (k : CluId) (u : Clu) : State := { s with clus := tset s.clus k.val u }
def withChan (s : State) (c : ChanId) (x : Chan) : State := { s with chans := tset s.chans c.val x }

/-- From `s` to `t` only the scheduler of channel `c` changed, and event and clock bits of its cluster: the queue and the integrity unit of
the channel are as before, and so are the banks outside `B`; the controller clock went on. -/
abbrev OnlySched (s t : State) (c : ChanId) (B : Nat → Prop) : Prop :=
  t = { s with chans := t.chans, clus := t.clus } ∧
    (∀ k, { t.clu k with evt := (s.clu k).evt, clkStop := (s.clu k).clkStop } = s.clu k) ∧
    (∀ c', c' ≠ c.val → t.chan c' = s.chan c') ∧ (t.chan c.val).i = (s.chan c.val).i ∧
    (t.chan c.val).q.queue = (s.chan c.val).q.queue ∧ (s.chan c.val).q.clk < (t.chan c.val).q.clk ∧
    ∀ b, ¬ B b → (t.chan c.val).q.bank b = (s.chan c.val).q.bank b

/-- From `s` to `t` command `x` went out on channel `c`, at the first controller clock after the last one that its timing permits (R143);
`B` are the banks that it changes. -/
abbrev Issued (s t : State) (c : ChanId) (x : Cmd) (B : Nat → Prop) : Prop :=
  OnlySched s t c B ∧ ∃ n, (s.chan c.val).q.due (s.clu (cluOf c.val)).step x = some n ∧
    (t.chan c.val).q.clk = max ((s.chan c.val).q.clk + 1) n

/-- Channel `c` has nothing on its way: no column command in flight, no alert to come, no replay episode, no alert shown. -/
abbrev Still (s : State) (c : Nat) : Prop :=
  (s.chan c).q.flights = [] ∧ (s.chan c).q.alertDue = none ∧ (s.chan c).q.replay = [] ∧ ∀ d < 16, ((s.chan c).q.slice d).alert = false

/-- Channel `c` is still, and neither its queue nor its links hold a request. -/
abbrev Empty (s : State) (c : Nat) : Prop := Still s c ∧ (s.chan c).q.queue = [] ∧ (s.chan c).q.link = []

/-- From `s` to `t` only channel `c` and its cluster changed; the queue and the integrity unit of the channel are as before. -/
abbrev OnlyChan (s t : State) (c : ChanId) : Prop :=
  t = { s with chans := t.chans, clus := t.clus } ∧ (∀ k, k ≠ cluOf c.val → t.clu k = s.clu k) ∧
    (∀ c', c' ≠ c.val → t.chan c' = s.chan c') ∧ (t.chan c.val).i = (s.chan c.val).i ∧
    (t.chan c.val).q.queue = (s.chan c.val).q.queue

/-- From `s` to `t` only cluster `k` and its channels changed. -/
abbrev OnlyClu (s t : State) (k : CluId) : Prop :=
  t = { s with chans := t.chans, clus := t.clus } ∧ (∀ j, j ≠ k.val → t.clu j = s.clu j) ∧
    (∀ c, cluOf c ≠ k.val → t.chan c = s.chan c)

/-- Granule `g` reads without error (R165, R167), and its checker is not armed (R375). -/
abbrev Clean (s : State) (g : Nat) : Prop :=
  decode (erasedOf (s.chan (chanOf (64 * g))).i) (readGran s g []).1 (readGran s g []).2 = .clean ∧
    injArmed s 0 (chanOf (64 * g)) = none

/-- An access of a unit of the stack reads granule `g` from the cells as it stands: nothing waits on its channel, no merge entry holds it, and it
reads without error. -/
abbrev ReadsNow (s : State) (g : Nat) : Prop :=
  Empty s (chanOf (64 * g)) ∧ (s.chan (chanOf (64 * g))).i.mergeOf g = none ∧ Clean s g

/-- The one request `e` of channel `c` is a read whose next command is an ACT of row `r` of bank `b`, which R143 permits at the next clock;
the tick owes no maintenance. -/
abbrev WaitsForAct (s : State) (c : Nat) (e : Entry) (b r : Nat) : Prop :=
  let q := (s.chan c).q
  let u := s.clu (cluOf c)
  (e.op = .read ∧ e.cls ≤ 7 ∧ (s.chan c).i.merge = [] ∧ nextCmd c s e = some (.act b r)) ∧
    (Still s c ∧ q.maint = [] ∧ injArmed s 3 c = none) ∧
    (u.inStep = false ∧ s.cluReady (cluOf c) = true ∧ doomed (s.chan c).i (dieOf b) = false) ∧
    ∃ n, q.due u.step (.act b r) = some n ∧ n ≤ q.clk + 1

/-- The commands of the mailboxes with their codes (R320 to R330). -/
def mailboxRows (m : Mb) : List (Instr × BitVec 16) :=
  [(.identGet m, 0x0101), (.stackIdSet m, 0x0102), (.portPower m, 0x0201), (.portFence m, 0x0202), (.portUnfence m, 0x0203),
   (.relaySet m, 0x0204), (.zombieRelease m, 0x0205), (.clusterStep m, 0x0301), (.clusterPower m, 0x0302),
   (.sectAdmit m, 0x0401), (.sectQuery m, 0x0402), (.streamAlloc m, 0x0501), (.streamFree m, 0x0502),
   (.streamQuery m, 0x0503), (.streamResume m, 0x0504), (.streamAbort m, 0x0505), (.asidSet m, 0x0506),
   (.asidClear m, 0x0507), (.xlateInval m, 0x0508), (.fwRegionSet m, 0x0509), (.fwRegionClear m, 0x050A),
   (.tndPower m, 0x050B), (.mooringLoad m, 0x0601), (.mooringFree m, 0x0602), (.mooringRead m, 0x0603),
   (.channelRetire m, 0x0604), (.integrityGet m, 0x0605), (.fuseRead m, 0x0606), (.fuseProgram m, 0x0607),
   (.fuseSeal m, 0x0608), (.fuseLock m, 0x0609), (.fuseReburn m, 0x060A), (.lanSensorRestore m, 0x0701),
   (.lanOverride m, 0x0702), (.lanConfig m, 0x0703), (.lanRead m, 0x0704), (.bistStatus m, 0x0801), (.tsvTest m, 0x0802),
   (.watchSelect m, 0x0803), (.snapshot m, 0x0901), (.logRead m, 0x0902), (.fwPatchLoad m, 0x0A01),
   (.lifecycleAdvance m, 0x0A02), (.keeperReset m, 0x0A03), (.faultInject m, 0x0B01), (.foghornDrive m, 0x0B02),
   (.lightshipExit m, 0x0B03)]

/-- The state in which Keeper has taken the command of mailbox `m` (R313, R315). -/
def taken (s : State) (m : Nat) : State :=
  let s := s.modMbx m (fun x => { x with st := .busy, superseded := false, wait := some .boundary })
  { s with kpr := { s.kpr with last := if m < 4 then m else s.kpr.last } }

/-- The DB_DONE of a doorbell (R102). -/
def dbDone (s : State) (r : ReqF) (status detail : Nat) : UpBody :=
  .rsp 0xB0 r.tag r.sect.toNat s.stackId r.orig status detail [] []

end Sys2Proof.Claims

/-! ### Requests (R98 to R133) -/

/-- R112, R117: a memory request that passes the checks made on receipt enters its class queue; nothing else changes. The frame of
such a request (R98 to R100) is read back from its lanes as that command. -/
def Obligations.MemoryRequestQueued : Prop :=
  (∀ (s : State) (p : PortId) (h : Hdr) (r : ReqF), ∀ row ∈ Claims.memoryRows p h r,
    Claims.Expected s p h → Claims.Admissible (s.port p.val) r → Claims.FieldsOk row.2.1 r →
      exec row.1 s = .next (Claims.withPort s p
        (Claims.queued row.2.1 row.2.2.1 row.2.2.2 r (Claims.accepted (s.port p.val))))) ∧
  (∀ (p : PortId) (h : Hdr) (r : ReqF) (d : BitVec 1024), ∀ row ∈ Claims.memoryRows p h r, r.data = leBytes 128 d.toNat →
    let f := Claims.requestFrame h row.2.1 r d
    frameCommand p (lanesHeader (frameLane f d)) (lanesData (frameLane f d)) = row.1)

/-- R117, R127, R129: a relay frame that passes its checks enters its class queue; nothing else changes. -/
def Obligations.RelayFrameQueued : Prop :=
  ∀ (s : State) (p : PortId) (h : Hdr) (r : ReqF), ∀ row ∈ Claims.relayRows p h r,
    Claims.Expected s p h → Claims.Admissible (s.port p.val) r → Claims.InnerOk row.2 →
    s.stackId ≠ 0xFFF → r.stack ≠ 0xFFF → r.orig ≠ 0xFFF → (s.port p.val).rly.en = true →
    (isRacc (iopc row.2) = true → s.tenderPart = true) →
      exec row.1 s = .next (Claims.withPort s p
        (Claims.queued 0x40 .relayed (writesMem 0x40 row.2) row.2 (Claims.accepted (s.port p.val))))

/-- R117 checks 2 and 3: a reserved opcode is answered BAD_REQUEST 0x10 and reported, a memory request on a fenced port is
answered FENCED 0x00. -/
def Obligations.RefusedRequestAnswered : Prop :=
  (∀ (s : State) (p : PortId) (h : Hdr) (o : BitVec 8) (r : ReqF),
    Claims.Expected s p h → Claims.Sends (s.port p.val) → ((s.port p.val).fr.tag r.tag.toNat).outstanding = false →
    downOpcode o = false →
      let x := Claims.accepted (s.port p.val)
      let x := { x with fr := { x.fr with
        arr := x.fr.arr + 1, cntBadreq := satInc x.fr.cntBadreq, fevt := x.fr.fevt.raise 3
        err := { opc := o, tag := r.tag, detail := 0x10, protocol := false }
        tags := tset x.fr.tags r.tag.toNat (Claims.answeredTag (Claims.heldTag .unknown (writesMem o r) r x.fr.arr)) } }
      exec (.reservedOpcodeRequest p h o r) s = .next (Claims.withPort s p
        (Claims.sent s.day.tick (.rsp 0x8F r.tag r.sect.toNat s.stackId r.orig 9 0x10 [] []) x))) ∧
  (∀ (s : State) (p : PortId) (h : Hdr) (r : ReqF), ∀ row ∈ Claims.memoryRows p h r,
    Claims.Expected s p h → Claims.Sends (s.port p.val) → ((s.port p.val).fr.tag r.tag.toNat).outstanding = false →
    (s.port p.val).fr.fenced = true →
      let x := Claims.accepted (s.port p.val)
      let x := { x with fr := { x.fr with
        arr := x.fr.arr + 1
        tags := tset x.fr.tags r.tag.toNat (Claims.answeredTag (Claims.heldTag row.2.2.1 row.2.2.2 r x.fr.arr)) } }
      exec row.1 s = .next (Claims.withPort s p
        (Claims.sent s.day.tick (.rsp row.2.2.1.rsp r.tag r.sect.toNat s.stackId r.orig 8 0x00 [] []) x)))

/-- R120: the port commits a FENCE only when every request received earlier has completed; it then completes with FENCE_DONE. -/
def Obligations.FenceWaitsThenCompletes : Prop :=
  (∀ (s : State) (p : PortId) (h : Hdr) (r : ReqF),
      Claims.Expected s p h → Claims.Sends (s.port p.val) → Claims.Admissible (s.port p.val) r →
      Claims.Unused (s.port p.val) → r.poison = false → r.stack = s.stackId →
      budgetsAdmit s.sec p.val r.sect.toNat = true →
        exec (.fence p h r) s = .next (Claims.replied (Claims.committed s p .fence r) p r.tag
          (.rsp 0xA0 r.tag r.sect.toNat s.stackId r.orig (Claims.okCode s) 0 [] []))) ∧
  (∀ (s : State) (p : PortId) (h : Hdr) (r : ReqF),
      Claims.Expected s p h → Claims.Admissible (s.port p.val) r → tget [] (s.port p.val).fr.cq r.sect.toNat = [] →
      r.poison = false → r.stack = s.stackId →
      (∃ y ∈ (s.port p.val).fr.tags, y.1 ≠ r.tag.toNat ∧ y.2.arr < (s.port p.val).fr.arr ∧ (s.port p.val).completed y.1 = false) →
        exec (.fence p h r) s = .next (Claims.withPort s p
          (Claims.queued 0x20 .fence false r (Claims.accepted (s.port p.val)))))

/-- R249, R250: what the doorbell commands do to their stream, and how they are answered. -/
def Obligations.DoorbellsDecided : Prop :=
  (∀ (s : State) (p : PortId) (h : Hdr) (q : ReqF) (k : Nat) (e : Res),
      let r := Claims.withBell 0x01 q
      Claims.Decided s p h r k e → (e.ctx.state = sIDLE ∨ e.ctx.state = sDONE ∨ e.ctx.state = sSTOPPED) →
        exec (.start p h q) s = .next ((modRes k r.addr.toNat (fun x => { x with
          dirty := true
          ctx := { e.ctx with state := sQUEUED, cursor := 0, ahead := 0, skipped := 0, outcnt := 0, acc := 0, flags := 0, cause := 0
                              detail := 0, dloaded := false } }) (Claims.committed s p .doorbell r)).modTnd (fun x => { x with
          dbq := [{ src := some (p.val, r.tag.toNat), stream := r.addr.toNat, gen := e.ctx.gen, cmd := 1, reading := true }] }))) ∧
  (∀ (s : State) (p : PortId) (h : Hdr) (q : ReqF) (k : Nat) (e : Res),
      let r := Claims.withBell 0x02 q
      Claims.Decided s p h r k e → e.ctx.state = sSTOPPED → e.ctx.cause ≠ cDESC → e.ctx.dloaded = true →
        exec (.resume p h q) s = .next (Claims.replied
          ((modRes k r.addr.toNat (fun x => { x with dirty := true, ctx := { e.ctx with state := sQUEUED } })
            (Claims.committed s p .doorbell r)).modTnd (fun x => { x with
              wait := x.wait.filter (fun w => w.stream ≠ r.addr.toNat) ++
                [{ stream := r.addr.toNat, t := e.ctx.tcl, cls := e.ctx.cls, preempted := false }] }))
          p r.tag (Claims.dbDone s r (Claims.okCode s) 0))) ∧
  (∀ (s : State) (p : PortId) (h : Hdr) (q : ReqF) (k : Nat) (e : Res) (u : Run),
      let r := Claims.withBell 0x03 q
      Claims.Decided s p h r k e → e.ctx.state = sRUNNING → e.ctx.cursor ≠ (Desc.of e.ctx.dcopy).count →
      e.run = some u → u.abort = none →
        exec (.abort p h q) s = .next (Claims.replied
          (modRes k r.addr.toNat (fun x => { x with
            dirty := true, ctx := { x.ctx with state := sSTOPPING }
            run := x.run.map (fun v => { v with abort := if v.abort.isSome then v.abort else some 0, els := v.els.filter El.sent }) })
            (Claims.committed s p .doorbell r))
          p r.tag (Claims.dbDone s r (Claims.okCode s) 0))) ∧
  (∀ (s : State) (p : PortId) (h : Hdr) (q : ReqF) (k : Nat) (e : Res),
      let c := q.operand.extractLsb' 16 8
      let r := Claims.withBell c q
      Claims.Decided s p h r k e → c ≠ 1 → c ≠ 2 → c ≠ 3 → e.ctx.state ≠ sFREE → e.ctx.state ≠ sUNUSABLE →
      e.ctx.state ≠ sRUNNING →
        let u := Claims.committed s p .doorbell r
        let x := u.port p.val
        exec (.doorbellUndefinedCommand p h q) s = .next (Claims.replied (Claims.withPort u p { x with fr := { x.fr with
            cntBadreq := satInc x.fr.cntBadreq, fevt := x.fr.fevt.raise 3
            err := { opc := 0x30, tag := r.tag, detail := 0x42, protocol := false } } }) p r.tag
          (Claims.dbDone s r 9 0x42)))

/-- R108, R113: an ACK frees every frame up to its value, and with them the tags that they answer; the frame of an IDLE command
uses no FSEQ. -/
def Obligations.AckFreesFramesAndTags : Prop :=
  ∀ (s : State) (p : PortId) (a : Fseq) (k : Nat),
    Calm s → receiving (s.port p.val) = true → ackCovers (s.port p.val).rty a = some k → (s.port p.val).rty.unsent = [] →
    (s.port p.val).rty.nakOwed = false →
      ∃ t, exec (.idle p a) s = .next t ∧
        (t.port p.val).rty.replay = (s.port p.val).rty.replay.drop k ∧
        (∀ g, g ∈ ((s.port p.val).rty.replay.take k).flatMap (fun f => f.body.tags) → (t.port p.val).fr.tag g = {}) ∧
        (∀ g, g ∉ ((s.port p.val).rty.replay.take k).flatMap (fun f => f.body.tags) →
          (t.port p.val).fr.tag g = (s.port p.val).fr.tag g) ∧
        (t.port p.val).rty.rxE = (s.port p.val).rty.rxE ∧ (t.port p.val).rty.nakWait = (s.port p.val).rty.nakWait ∧
        (t.port p.val).fr.framesDn = (s.port p.val).fr.framesDn + 1 ∧ (t.port p.val).tx = (s.port p.val).tx ∧
        (∀ q, q ≠ p.val → t.port q = s.port q) ∧
        t = { s with ports := t.ports, sec := t.sec, day := { s.day with late := t.day.late, lateNow := t.day.lateNow } }

/-- R114, R115: a NAK that covers no further frame, like the replay timeout, starts a replay episode, which resends the frames of the
replay buffer, is counted, and extends the bounds of their tags; the stack's own NAK is repeated in NAK_WAIT. -/
def Obligations.ReplayEpisodeResends : Prop :=
  (∀ (s : State) (p : PortId) (a e : Fseq), Calm s → receiving (s.port p.val) = true → Claims.Idles (s.port p.val) →
    (s.port p.val).rty.replay ≠ [] → ackCovers (s.port p.val).rty a = some 0 → ackCovers (s.port p.val).rty (e - 1) = some 0 →
      ∃ t, exec (.nak p a e) s = .next t ∧ t = { (Claims.withPort s p
        (let y := Claims.resent s.day.tick (Claims.heard (s.port p.val))
         { y with rty := { y.rty with ackOwed := false } })) with bcn := t.bcn }) ∧
  (∀ (s : State) (p : PortId) (a e : Fseq), Calm s → receiving (s.port p.val) = true → (s.port p.val).rty.replay = [] →
    (s.port p.val).rty.unsent = [] → (s.port p.val).rty.nakOwed = false →
    ackCovers (s.port p.val).rty a = some 0 → ackCovers (s.port p.val).rty (e - 1) = some 0 →
      exec (.nak p a e) s = .next (Claims.withPort s p
        (let y := Claims.heard (s.port p.val)
         { y with rty := { y.rty with ackOwed := if y.framing then false else y.rty.ackOwed } }))) ∧
  (∀ (s : State) (p : PortId), Calm s → (s.port p.val).link.lstate = .active →
    (s.port p.val).rty.replay ≠ [] → (s.port p.val).rty.episodes < 4 →
      ∃ t, exec (.replayTimeout p) s = .next t ∧ t = { (Claims.withPort s p (Claims.resent s.day.tick
        (let x := s.port p.val
         { x with rty := { x.rty with episodes := x.rty.episodes + 1 } }))) with bcn := t.bcn }) ∧
  (∀ (s : State) (p : PortId), Calm s → receiving (s.port p.val) = true → Claims.Idles (s.port p.val) →
    (s.port p.val).rty.nakWait = true → (s.port p.val).rty.naks < 4 →
      exec (.nakResendTimeout p) s = .next (Claims.withPort s p
        (Claims.nakSent ((s.port p.val).rty.naks + 1) (s.port p.val))))

/-- R114, R115, R118, R125: the retry limit retrains the link and fences the port with cause LINK; every tag in use goes to RECOVER, and a
C2 event is collected. -/
def Obligations.RetryLimitRetrains : Prop :=
  ∀ (s : State) (p : PortId), ∀ i ∈ [Instr.nakResendTimeout p, Instr.replayTimeout p],
    Calm s → receiving (s.port p.val) = true →
    (i = .nakResendTimeout p → (s.port p.val).rty.nakWait = true ∧ 4 ≤ (s.port p.val).rty.naks) →
    (i = .replayTimeout p → (s.port p.val).rty.replay ≠ [] ∧ 4 ≤ (s.port p.val).rty.episodes) →
      ∃ t, exec i s = .next t ∧
        (t.port p.val).link.lstate = .train ∧ (t.port p.val).link.stage = .detect ∧ (t.port p.val).link.attempt = 0 ∧
        (t.port p.val).link.cntRetrain = satInc (s.port p.val).link.cntRetrain ∧
        (t.port p.val).fr.fLink = true ∧ (t.port p.val).rty.replay = [] ∧ (t.port p.val).rty.unsent = [] ∧
        (∀ g, ((t.port p.val).fr.tag g).st = if ((s.port p.val).fr.tag g).st = .free then .free else .recover) ∧
        (t.port p.val).fr.fevt.now.getLsbD 2 = true ∧ t.flt.src.getLsbD 4 = true ∧
        (∀ q, q ≠ p.val → t.port q = s.port q) ∧ t.mem = s.mem ∧ t.chk = s.chk ∧ t.chans = s.chans ∧ t.tnd = s.tnd

/-- R114, R118: a CRC failure in NORMAL is discarded, counted, reported as a C1 event of source 0, and a NAK is sent; in NAK_WAIT it is
discarded, counted and reported. -/
def Obligations.CrcFailureNaks : Prop :=
  ∀ (s : State) (p : PortId), Calm s → receiving (s.port p.val) = true → Claims.Idles (s.port p.val) →
    ∃ t, exec (.frameCrcFailure p) s = .next t ∧ t = { (Claims.withPort s p
      (let x := s.port p.val
       let y := Claims.crcCounted { x with lane := { x.lane with scrDn := x.lane.scrDn + 1 } }
       if x.rty.nakWait then y else Claims.nakSent 1 y)) with
      bcn := t.bcn, flt := Claims.crcEvent s.flt }

/-- R116, R130: link frames of the down direction. -/
def Obligations.LinkFramesAct : Prop :=
  (∀ (s : State) (p : PortId) (h : Hdr) (n : BitVec 10), Claims.Expected s p h →
    exec (.rlyCredit p h n) s = .next (Claims.withPort s p
      (let x := Claims.accepted (s.port p.val)
       { x with rly := { x.rly with credit := min 512 (x.rly.credit + n.toNat) } }))) ∧
  (∀ (s : State) (p : PortId) (h : Hdr) (unfence : Bool), Claims.Expected s p h →
    exec (.downLinkFrameDiscard p h unfence) s = .next (Claims.withPort s p
      (let x := Claims.accepted (s.port p.val)
       { x with fr := { x.fr with fevt := x.fr.fevt.raise 3 } })))

/-- R114: the FSEQ check decides whether a frame is accepted; a duplicate, and any frame in NAK_WAIT that is not the expected one, is
discarded; another gap is discarded, counted and reported as a CRC failure is, with a NAK. -/
def Obligations.UnexpectedFrameNotAccepted : Prop :=
  ∀ (s : State) (p : PortId) (h : Hdr) (i : Instr), Claims.headerOf i = some (p, h) →
    Calm s → receiving (s.port p.val) = true → injArmed s 2 p.val = none → ackCovers (s.port p.val).rty h.ack = some 0 →
    h.fseq ≠ (s.port p.val).rty.rxE → (∀ c, tget [] (s.port p.val).fr.cq c = []) →
      let x := s.port p.val
      ((x.rty.nakWait = true ∨ (x.rty.rxE - h.fseq).toNat ≤ 256) → exec i s = .next (Claims.withPort s p (Claims.heard x))) ∧
      (x.rty.nakWait = false → 256 < (x.rty.rxE - h.fseq).toNat → Claims.Idles x →
        ∃ t, exec i s = .next t ∧ t = { (Claims.withPort s p (Claims.nakSent 1 (Claims.crcCounted (Claims.heard x)))) with
          bcn := t.bcn, flt := Claims.crcEvent s.flt })

/-- R110: WR_DONE reports up to eight write tags that share STATUS and DETAIL. -/
def Obligations.CoalescedWritesReported : Prop :=
  ∀ (s : State) (p : PortId) (c : Coal) (cs : List Coal),
    Claims.Sends (s.port p.val) → (s.port p.val).rty.coal = c :: cs → cs.length < 8 →
    (∀ d ∈ cs, d.status = c.status ∧ d.detail = c.detail) →
      exec (.wrDoneCoalesceTimeout p) s = .next (Claims.withPort s p (Claims.sent s.day.tick
        (.rsp 0x84 c.tag c.sect s.stackId 0 c.status c.detail (cs.map Coal.tag) [])
        (let x := s.port p.val
         { x with rty := { x.rty with coal := [] } })))

/-! ### From a class queue to memory and back, and relay -/

/-- R112, R190 to R192: a read that R61 and the limits of its class admit, and that the arbiter takes, is committed: counts taken, an entry
in the queue of its channel. -/
def Obligations.ReadIsCommitted : Prop :=
  ∀ (s : State) (p : PortId) (c : BitVec 3) (r : Req),
    let a := r.f.addr.toNat
    let ch := chanOf a
    let t := r.f.tag.toNat
    Calm s → (r.opc = 0x01 ∨ r.opc = 0x02) → tget [] (s.port p.val).fr.cq c.toNat = [r] →
    r.f.stack = s.stackId → addrCheck s a (if r.opc = 0x01 then 64 else 128) = none →
    (∀ y ∈ (s.port p.val).fr.tags, y.2.kind ≠ .fence) → budgetsAdmit s.sec p.val c.toNat = true →
    holdsClass s.sec (s.chan ch).q c.toNat = false →
    (∀ d < 7, c.toNat < d → headReady s p.val d = none) →
    (∀ o ∈ portOffers s ch ++ tenderOffers s 4 ch, o.2 < c.toNat ∨ (o.2 = c.toNat ∧ turnKey s ch p.val ≤ turnKey s ch o.1)) →
    (s.chan ch).q.queue = [] → (s.chan ch).q.link = [] → (s.chan ch).i.merge = [] →
      ∃ u, exec (.requestCommit p c) s = .next u ∧
        tget [] (u.port p.val).fr.cq c.toNat = [] ∧ ((u.port p.val).fr.tag t).st = .issued ∧
        tget 0 u.sec.out c.toNat = tget 0 s.sec.out c.toNat + 1 ∧
        tget 0 u.sec.srcOut (8 * p.val + c.toNat) = tget 0 s.sec.srcOut (8 * p.val + c.toNat) + 1 ∧
        tget 0 u.sec.commit c.toNat = tget 0 s.sec.commit c.toNat + 1 ∧ tget 35 u.sec.turn ch = p.val ∧
        (∃ e, (u.chan ch).q.queue = [e] ∧ e.src = .port p.val t ∧ e.chunk = a / 128 ∧ e.op = .read ∧ e.accepted = s.day.tick ∧
          e.need = (if r.opc = 0x01 then 1#2 <<< (a / 64 % 2) else 3)) ∧
        u.clk.xbarGated = false ∧ u.mem = s.mem ∧ u.chk = s.chk ∧ (∀ q, q ≠ p.val → u.port q = s.port q)

/-- R61 check 1, R118: WRONG_STACK is answered at the head of the class queue, held by an order rule or not; nothing is reported. -/
def Obligations.WrongStackNotCommitted : Prop :=
  ∀ (s : State) (p : PortId) (c : BitVec 3) (r : Req) (rs : List Req) (g : TagRec),
    Calm s → Claims.Sends (s.port p.val) →
    tget [] (s.port p.val).fr.cq c.toNat = r :: rs → r.f.stack ≠ s.stackId →
    (s.port p.val).fr.tag r.f.tag.toNat = g → g.st = .held →
      exec (.requestCommit p c) s = .next (Claims.withPort s p (Claims.sent s.day.tick
        (.rsp g.kind.rsp r.f.tag g.sect s.stackId g.orig 6 0 [] [])
        (let x := s.port p.val
         { x with fr := { x.fr with
            cq := tset x.fr.cq c.toNat rs, tags := tset x.fr.tags r.f.tag.toNat (Claims.answeredTag g) } })))

/-- R105, R109: the response of a read is sent when its data have been taken, with those data. -/
def Obligations.PerformedReadAnswered : Prop :=
  ∀ (s : State) (p : PortId) (t : Tag) (ch : Nat) (e : Entry) (g : TagRec),
    Calm s → Claims.Sends (s.port p.val) → doneTag s p.val t.toNat = some (ch, { e := e, how := .performed }) →
    e.poisonBits = 0 → e.badRegion = false → (s.port p.val).fr.tag t.toNat = g → g.kind = .read → g.st = .issued →
    (∀ y ∈ (s.port p.val).fr.tags, y.2.st = .recover → y.2.holds = false) →
      exec (.requestPerformed p t) s = .next (Claims.withPort
        (s.modSched ch (fun q => { q with done := q.done.erase { e := e, how := .performed } })) p
        (Claims.sent s.day.tick
          (.rsp 0x80 t g.sect s.stackId g.orig (if g.throttled then 1 else 0) 0 [] (rspData e))
          (let x := s.port p.val
           { x with fr := { x.fr with tags := tset x.fr.tags t.toNat { g with
              st := .answered, fenced := false, outcome := outcomeOf e
              bound := g.bound.map (fun b => { b with s := max b.s e.s, a := e.a }) } } })))

/-- R127, R130, R238: a RELAY takes a free RTAG and one credit of the port whose turn it is. -/
def Obligations.RelayIsSent : Prop :=
  ∀ (s : State) (p : PortId) (k : Nat) (r : Res) (e : El) (g : Nat),
    Calm s → relayPort s = some p.val → Claims.Sends (s.port p.val) → (s.port p.val).rly.freeRtag = some g →
    (relayQueue s).find? (fun q => outstanding s q.1 < 2048 && !relayHeld s q.2.1.stream q.2.2.stack (innerOf q.2.2)) =
      some (k, r, e) →
      let q := innerOf e
      let x := s.port p.val
      let y := { x with rly := { x.rly with
        credit := x.rly.credit - 1
        rtags := tset x.rly.rtags g { st := .outstanding, stack := BitVec.ofNat 12 e.stack, stream := r.stream, elems := [e.i]
                                      sent := s.day.tick, iopc := q.iopc, addr := BitVec.ofNat 37 q.addr, mask := q.mask } } }
      exec (.relay p) s = .next { ((modRes k r.stream (fun z => { z with
          run := z.run.map (Run.put { e with st := .relayed }) })
        (Claims.withPort s p (Claims.sent s.day.tick (Claims.relayBody s.stackId g r e) y))).modTclu k
          (fun u => { u with relay := u.relay + 1 })) with rlyTurn := p.val }

/-- R118, R130, R132, R236: what a RELAY_RSP does to its RTAG and to the element that waits for it; one that comes after the RELAY's time
finds a zombie. -/
def Obligations.RelayResponseFreesItsTag : Prop :=
  (∀ (s : State) (p : PortId) (h : Hdr) (r : RspF) (k : Nat) (z : Res) (e : El),
      let g := (s.port p.val).rly.rtag r.tag.toNat
      Claims.Expected s p h → g.st = .outstanding → s.day.tick ≤ g.sent + max (s.port p.val).rly.tmo 64 →
      r.orig = s.stackId → r.stack = g.stack → r.status = 0 →
      g.iopc = 0x06 → relayEl s g = some (k, z, e) → e.i < (Desc.of z.ctx.dcopy).count → e.ph = .dst →
        exec (.relayRsp p h r) s = .next (elApplied k g.stream e false 0 (Claims.withPort s p
          (let x := Claims.accepted (s.port p.val)
           { x with rly := { x.rly with rtags := tset x.rly.rtags r.tag.toNat {} } })))) ∧
  (∀ (s : State) (p : PortId) (h : Hdr) (r : RspF),
      let g := (s.port p.val).rly.rtag r.tag.toNat
      Claims.Expected s p h → g.st ≠ .outstanding →
        exec (.relayRsp p h r) s = .next (Claims.withPort s p
          (let x := Claims.accepted (s.port p.val)
           { x with
              rly := if g.st = .zombie then { x.rly with rtags := tset x.rly.rtags r.tag.toNat {} } else x.rly
              fr := { x.fr with fevt := x.fr.fevt.raise 7 } }))) ∧
  (∀ (s : State) (p : PortId) (h : Hdr) (r : RspF),
      let g := (s.port p.val).rly.rtag r.tag.toNat
      Claims.Expected s p h → g.st = .outstanding → g.sent + max (s.port p.val).rly.tmo 64 < s.day.tick → relayEl s g = none →
        exec (.relayRsp p h r) s = .next (Claims.withPort s p
          (let x := Claims.accepted (s.port p.val)
           { x with
              rly := { x.rly with rtags := tset x.rly.rtags r.tag.toNat {}, cntTmo := satInc x.rly.cntTmo }
              fr := { x.fr with fevt := (x.fr.fevt.raise 6).raise 7 } })))

/-- R132, R271: a RELAY that times out becomes a zombie, is counted, and stops the stream whose element it carried. -/
def Obligations.RelayTimesOut : Prop :=
  ∀ (s : State) (p : PortId) (t : Tag),
    let g := (s.port p.val).rly.rtag t.toNat
    Calm s → g.st = .outstanding → g.sent + max (s.port p.val).rly.tmo 64 < s.day.tick →
      ∃ u, exec (.relayTimeout p t) s = .next u ∧ u = { (Claims.withPort s p
          (let x := s.port p.val
           { x with
              rly := { x.rly with rtags := tset x.rly.rtags t.toNat { g with st := .zombie }, cntTmo := satInc x.rly.cntTmo }
              fr := { x.fr with fevt := x.fr.fevt.raise 6 } })) with tnd := u.tnd } ∧
        (relayEl s g = none → u.tnd = s.tnd) ∧
        (∀ k r e, relayEl s g = some (k, r, e) → ∃ z ∈ (u.tclu k).res, z.stream = g.stream ∧ z.ctx.state = sSTOPPING ∧
          ∀ v, z.run = some v → ∀ f ∈ v.els, f.i ≠ e.i)

/-! ### Links and lanes (R67 to R97) -/

/-- R80, R87 to R89: occulting of both directions; a scrambled word is recovered by the same scrambler. -/
def Obligations.OccultingEntersAndLeaves : Prop :=
  (∀ (s : State) (p : PortId), receiving (s.port p.val) = true →
    exec (.occultBlock p) s = .next (Claims.withLink s p { (s.port p.val).link with dnOcc := true })) ∧
  (∀ (s : State) (p : PortId), exec (.wakeBurst p) s = .next (Claims.withLink s p { (s.port p.val).link with dnOcc := false })) ∧
  (∀ (s : State) (p : PortId), let x := s.port p.val
    Claims.Idles x → (s.pwr.srAct = true ∨ (x.link.upOccEn = true ∧ x.link.upIdle ≠ 0)) →
    x.rty.replay = [] → x.rty.coal = [] → x.rty.ackOwed = false → x.rty.nakWait = false →
    x.lane.swapUp = none → (∀ sl, x.lane.slice = some sl → sl.dir = .down) →
      exec (.occultEntry p) s = .next (Claims.withPort s p
        { x with link := { x.link with upOcc := true }, tx := x.tx ++ [.occult] })) ∧
  (∀ (s : State) (p : PortId) (b : UpBody), let x := s.port p.val
    x.link.lstate = .active → x.link.noClk = false → x.link.upOcc = true → x.rty.nakOwed = false →
    x.rty.unsent = [b] → b ≠ .idle → x.rty.replay.length < 256 →
      exec (.occultExit p) s = .next (Claims.withPort s p (Claims.sent s.day.tick b
        { x with link := { x.link with upOcc := false }, rty := { x.rty with unsent := [] }, tx := x.tx ++ [.wake] }))) ∧
  (∀ (u : BitVec 23) (w : BitVec 16), scramble u (scramble u w) = w)

/-- R73 to R80: the training stages pass one after the other, each on its own criterion; with the last the link is ACTIVE, and its first
frame is a CREDITS frame. -/
def Obligations.TrainingStagesPass : Prop :=
  ∀ (s : State) (p : PortId), let x := s.port p.val
    (∀ w, Claims.AtEnd x .detect → 76 ≤ (lanesIn w).length →
      exec (.detect p w false) s = .next (Claims.withLink s p { x.link with sig := w, stage := .phase, stageTicks := 0 })) ∧
    (∀ w, Claims.AtEnd x .phase → 76 ≤ (lanesIn w).length →
      exec (.phase p w false) s = .next (Claims.withLink s p { x.link with stage := .adapt, stageTicks := 0 })) ∧
    (Claims.AtEnd x .adapt →
      exec (.adapt p true false) s = .next (Claims.withLink s p { x.link with stage := .ident, stageTicks := 0 })) ∧
    (∀ wd wc ws, let a := groupOrder wd 0 64
      let b := groupOrder wc 64 12
      let c := groupOrder ws 76 2
      Claims.AtEnd x .ident → a ≠ .other → b ≠ .other → c ≠ .other →
      exec (.ident p wd wc ws false) s = .next (Claims.withPort s p { x with
        link := { x.link with stage := .deskew, stageTicks := 0 }
        lane := { x.lane with mapDn := { x.lane.mapDn with
          rev := b1 (c == .reversed) ++ (b1 (b == .reversed) ++ b1 (a == .reversed)) } } })) ∧
    (∀ l, Claims.AtEnd x .deskew → skewOf l ≤ 24 →
      exec (.deskew p l false) s = .next (Claims.withPort s p { x with
        link := { x.link with stage := .laneTest, stageTicks := 0 }, lane := { x.lane with skewDn := l } })) ∧
    (∀ w m, Claims.AtEnd x .laneTest → chooseMap x.lane.mapDn.rev (lanesFailing x w) = some m →
      exec (.lanetest p w false) s = .next (Claims.withPort s p { x with
        link := { x.link with stage := .param, stageTicks := 0 }, lane := { x.lane with mapDn := m, outDn := m.moved } })) ∧
    (∀ l b, Calm s → Claims.AtEnd x .param → acceptBlock x.lane.outDn l = some b →
      (x.link.noClk = true → exec (.param p l false) s = .next (Claims.withPort s p { x with
        link := { x.link with goActive := true }, lane := { x.lane with mapUp := blockMap b, outUp := (blockMap b).moved } })) ∧
      (x.link.noClk = false → x.link.upOcc = false → x.rty.nakOwed = false → x.rty.unsent = [] → x.rty.replay.length < 256 →
        ∃ t, exec (.param p l false) s = .next t ∧ t = { (Claims.withPort s p (Claims.sent s.day.tick
          (.credits ((List.range 7).map (fun c => tget 0 x.fr.cred c))) { x with
            link := { x.link with lstate := .active, goActive := false, stage := .detect, stageTicks := 0, attempt := 0, failCause := 0
                                  activeTick := some s.day.tick }
            lane := { x.lane with mapUp := blockMap b, outUp := (blockMap b).moved, scrUp := 0, scrDn := 0 }
            fr := { x.fr with credFrame := true, credOld := x.fr.cred } })) with bcn := t.bcn }))

/-- R73, R74, R78: a failed stage ends the attempt; after the third the link is FAILED with the cause of the stage (what an ADAPT that does
not settle reports as its cause is the model's choice, log entry 65). -/
def Obligations.TrainingAttemptFails : Prop :=
  ∀ (s : State) (p : PortId) (i : Instr) (st : Stage) (cause : Nat) (m : LaneMap),
    Claims.FailsStage (s.port p.val) p i st cause m → Claims.AtEnd (s.port p.val) st → Calm s →
      let x := s.port p.val
      exec i s = .next (Claims.withPort s p { x with
        lane := { x.lane with mapDn := m }
        link :=
          let l := x.link
          if l.attempt < 2 then { l with stage := .detect, stageTicks := 0, attempt := l.attempt + 1 }
          else { l with lstate := .failed, attempt := 3, failCause := cause, stage := .detect, stageTicks := 0
                        levt := l.levt.raise 3 } })

/-- R71, R90: returning signal, and loss of signal outside ACTIVE and TRAIN. -/
def Obligations.SignalStartsTraining : Prop :=
  ∀ (s : State) (p : PortId) (w : BitVec 78), let l := (s.port p.val).link
    (Calm s →
      exec (.signalReturn p w) s = .next (Claims.withLink s p
        (if l.lstate = .down ∧ 76 ≤ (lanesIn (l.sig ||| w)).length then
          { l with sig := l.sig ||| w, lstate := .train, stage := .detect, stageTicks := 0, attempt := 0 }
         else { l with sig := l.sig ||| w }))) ∧
    (Calm s → l.lstate ≠ .active → l.lstate ≠ .train → l.dnOcc = false → w &&& l.sig ≠ 0 →
      exec (.lossOfSignal p w) s = .next (Claims.withLink s p { l with sig := l.sig &&& ~~~w }))

/-- R84, R91: loss of signal on a lane in service is counted and starts a repair. -/
def Obligations.LaneLossStartsRepair : Prop :=
  ∀ (s : State) (p : PortId) (j : Fin 76) (k : Spare) (ks : List Spare), let x := s.port p.val
    Calm s → Claims.Sends x → x.link.dnOcc = false → x.link.sig.getLsbD j.val = true → j.val ∉ x.lane.outDn →
    x.link.sig ≠ 1#78 <<< j.val → x.lane.slice = none → x.lane.swapDn = none → x.lane.waitRepair = [] →
    freeSpares x .down = k :: ks →
      ∃ t, exec (.lossOfSignal p (1#78 <<< j.val)) s = .next t ∧ t = { (Claims.withPort s p
        (Claims.sent s.day.tick (.laneCtl 0x8 .down j.val k) { x with
          link := { x.link with sig := x.link.sig &&& ~~~(1#78 <<< j.val), cntLos := satInc x.link.cntLos, levt := x.link.levt.raise 0 }
          lane := { x.lane with swapDn := some { kind := .repair, lane := j.val, spare := k, phase := .marker } } })) with
        bcn := t.bcn, flt := t.flt } ∧ t.flt.src.getLsbD 1 = true ∧ t.flt.line = []

/-- R70, R71, R91: ports follow the lock of the PLL of their quadrant, which is declared after 16 ticks of continuous lock. -/
def Obligations.LockDecidesPortPower : Prop :=
  (∀ (s : State), Calm s → s.clk.framePll = false → s.clk.refclk = true → s.clk.frameFrom + 16 ≤ s.day.tick →
    ∃ t, exec (.pllLock .frame) s = .next t ∧ t = { s with clk := { s.clk with framePll := true }, ports := t.ports } ∧
      ∀ p < 32, (t.port p).link = { (s.port p).link with noClk := false } ∧
        ((s.port p).link.lstate ≠ .active → t.port p = { s.port p with link := { (s.port p).link with noClk := false } })) ∧
  (∀ (s : State) (w : Pll), Calm s →
    (match w with | .frame => s.day.tick < s.clk.frameFrom + 16 | .quad q => s.day.tick < tget 0 s.clk.quadFrom q.val + 16) →
      exec (.pllLock w) s = .next s) ∧
  (∀ (s : State) (q : Fin 4), Calm s → s.domOn (4 + 8 * q.val) = true → s.clk.refclk = true →
    tget 0 s.clk.quadFrom q.val + 16 ≤ s.day.tick →
    ∃ t, exec (.pllLock (.quad q)) s = .next t ∧ t.clk = { s.clk with quadPll := s.clk.quadPll ||| (1#4 <<< q.val) } ∧
      ∀ p < 32, t.port p = if p / 8 = q.val ∧ s.domOn (4 + p) = true ∧ (s.port p).link.lstate = .off then
        (let l := { (s.port p).link with lstate := .down, noClk := !s.clk.framePll }
         if 76 ≤ (lanesIn l.sig).length then
           { s.port p with link := { l with lstate := .train, stage := .detect, stageTicks := 0, attempt := 0 } }
         else { s.port p with link := l })
        else s.port p) ∧
  (∀ (s : State) (q : Fin 4), Calm s → s.clk.quadPll.getLsbD q.val = true →
    ∃ t, exec (.lossOfLock q) s = .next t ∧ t.flt.src.getLsbD 3 = true ∧
      t.clk = { s.clk with quadPll := s.clk.quadPll &&& ~~~(1#4 <<< q.val), quadFrom := tset s.clk.quadFrom q.val s.day.tick } ∧
      (∀ p < 32, p / 8 = q.val → s.domOn (4 + p) = true →
        (t.port p).link.lstate = .off ∧ (t.port p).link.failCause = 8 ∧ (t.port p).fr.fLink = true) ∧
      (∀ p < 32, (p / 8 ≠ q.val ∨ s.domOn (4 + p) = false) → t.port p = s.port p))

/-- R91, R366, R367: the loss of the frame clock is a C3 event, which enters lightship mode; no port can frame. -/
def Obligations.FrameClockLossEntersLightship : Prop :=
  ∀ (s : State), Calm s → s.clk.framePll = true → s.ls.on = false → s.ls.exitStaged = false →
    ∃ t, exec .frameClockLossOfLock s = .next t ∧ t.clk = { s.clk with framePll := false, frameFrom := s.day.tick } ∧
      t.flt.src.getLsbD 38 = true ∧ t.ls.on = true ∧ t.ls.cause = 2 ∧
      (∀ p < 32, (t.port p).fr.fStack = true ∧ (t.port p).link.noClk = true) ∧
      (∀ c < 32, ∀ d < 16, ((t.chan c).q.slice d).sr = true) ∧ t.ready = s.ready &&& 0xE000#16

/-- R82, R83: as transmitter of the up direction the stack performs the swap or restore that the host asks for, or answers SWAP_FAIL; on
MIRROR or RESTORE the receiver of the down direction begins to compare. -/
def Obligations.SwapsBegin : Prop :=
  (∀ (s : State) (p : PortId) (h : Hdr) (l : BitVec 7) (k : Spare), Claims.Expected s p h → Claims.Sends (s.port p.val) → l.toNat ≤ 75 →
    let x := Claims.accepted (s.port p.val)
    let can := l.toNat ∉ x.lane.outUp ∧ x.lane.mapUp.bad k = false ∧ x.lane.mapUp.carry k = none ∧ x.lane.swapUp = none
    (can → exec (.swapReq p h .up l k) s = .next (Claims.withPort s p (Claims.sent s.day.tick (.laneCtl 0x2 .up l.toNat k)
      { x with lane := { x.lane with swapUp := some { kind := .swap, lane := l.toNat, spare := k, phase := .mirroring } } }))) ∧
    (¬ can → exec (.swapReq p h .up l k) s = .next (Claims.withPort s p (Claims.sent s.day.tick (.laneCtl 0x4 .up l.toNat k) x))) ∧
    (x.lane.mapUp.carry k = some l.toNat ∧ x.lane.swapUp = none →
      exec (.restoreReq p h .up l k) s = .next (Claims.withPort s p (Claims.sent s.day.tick (.laneCtl 0x6 .up l.toNat k)
        { x with lane := { x.lane with swapUp := some { kind := .restore, lane := l.toNat, spare := k, phase := .mirroring } } }))) ∧
    (¬ (x.lane.mapUp.carry k = some l.toNat ∧ x.lane.swapUp = none) →
      exec (.restoreReq p h .up l k) s = .next (Claims.withPort s p (Claims.sent s.day.tick (.laneCtl 0x4 .up l.toNat k) x)))) ∧
  (∀ (s : State) (p : PortId) (h : Hdr) (l : BitVec 7) (k : Spare), Claims.Expected s p h → l.toNat ≤ 75 →
    let x := Claims.accepted (s.port p.val)
    x.lane.swapDn = none →
    (l.toNat ∉ x.lane.outDn → x.lane.mapDn.bad k = false → x.lane.mapDn.carry k = none → x.link.sig.getLsbD (76 + k.val) = true →
      exec (.mirror p h .down l k) s = .next (Claims.withPort s p
        { x with lane := { x.lane with swapDn := some { kind := .swap, lane := l.toNat, spare := k, phase := .mirroring } } })) ∧
    (x.lane.mapDn.carry k = some l.toNat →
      exec (.restore p h .down l k) s = .next (Claims.withPort s p
        { x with lane := { x.lane with swapDn := some { kind := .restore, lane := l.toNat, spare := k, phase := .mirroring } } })))

/-- R82 to R84, R95: the ends of what the stack does as transmitter of the up direction and as receiver of the down direction. -/
def Obligations.SwapsEnd : Prop :=
  (∀ (s : State) (p : PortId) (h : Hdr) (l : BitVec 7) (k : Spare), Claims.Expected s p h → l.toNat ≤ 75 →
    let x := Claims.accepted (s.port p.val)
    let o : Spare := if k = 0 then 1 else 0
    (∀ a j, exec (.laneCtlDiscard p h a j) s = .next (Claims.withPort s p x)) ∧
    (x.lane.slice = none → x.lane.swapUp = some { kind := .swap, lane := l.toNat, spare := k, phase := .mirroring } →
      l.toNat ∉ x.lane.outUp → x.lane.mapUp.carry o ≠ some l.toNat →
      exec (.switched p h .up l k) s = .next (Claims.withPort s p { x with lane := { x.lane with
        swapUp := none, mapUp := x.lane.mapUp.set k (some l.toNat), outUp := x.lane.outUp ++ [l.toNat] } })) ∧
    (x.lane.slice = none → x.lane.swapUp = some { kind := .restore, lane := l.toNat, spare := k, phase := .mirroring } →
      exec (.restored p h .up l k) s = .next (Claims.withPort s p { x with lane := { x.lane with
        swapUp := none, mapUp := x.lane.mapUp.set k none, outUp := x.lane.outUp.filter (· ≠ l.toNat) } })) ∧
    (∀ kind ph, x.lane.slice = none → kind ≠ .repair → x.lane.swapUp = some { kind := kind, lane := l.toNat, spare := k, phase := ph } →
      exec (.swapFail p h .up l k) s = .next (Claims.withPort s p { x with lane := { x.lane with swapUp := none } })) ∧
    (x.lane.swapUp = none → x.lane.mapUp.bad k = false → x.lane.mapUp.carry k = none → x.lane.mapUp.carry o ≠ some l.toNat →
      l.toNat ∉ x.lane.outUp → x.rty.replay = [] →
      exec (.repair p h .up l k) s = .next (Claims.withPort s p { x with
        tx := x.tx ++ (if x.link.upOcc then [.wake] else []) ++ [.repair]
        link := { x.link with upOcc := false, cntRepair := satInc x.link.cntRepair, levt := x.link.levt.raise 1 }
        lane := { x.lane with mapUp := x.lane.mapUp.set k (some l.toNat), outUp := x.lane.outUp ++ [l.toNat] } })) ∧
    (∀ (n : BitVec 19) (sl : LaneSlice), x.lane.slice = some sl → sl.pos = 78 + l.toNat → sl.inTest = true →
      exec (.bistResult p h .up l n) s = .next (Claims.withPort s p { x with lane := { x.lane with
        slice := some { sl with errors := some (n.toNat + sl.errors.getD 0) } } }))) ∧
  (∀ (s : State) (p : PortId) (w : Swap), let x := s.port p.val
    x.lane.swapDn = some w → x.lane.slice = none →
    x.lane.mapDn.carry (if w.spare = 0 then 1 else 0) ≠ some w.lane → w.lane ∉ x.lane.outDn →
    let moved := { x.lane with
      swapDn := none, mapDn := x.lane.mapDn.set w.spare (some w.lane), outDn := x.lane.outDn ++ [w.lane] }
    (w.kind = .swap → w.phase = .mirroring → Claims.Sends x →
      exec (.swapMatch p) s = .next (Claims.withPort s p
        (Claims.sent s.day.tick (.laneCtl 0x3 .down w.lane w.spare) { x with lane := moved }))) ∧
    (w.kind ≠ .repair → w.phase = .mirroring → Claims.Sends x →
      exec (.swapNoMatchTimeout p) s = .next (Claims.withPort s p
        (Claims.sent s.day.tick (.laneCtl 0x4 .down w.lane w.spare) { x with lane := { x.lane with swapDn := none } }))) ∧
    (w.kind ≠ .repair → w.phase = .requested →
      exec (.swapReqUnanswered p) s = .next (Claims.withPort s p { x with lane := { x.lane with swapDn := none } })) ∧
    (∀ n : Fin 79, 70 ≤ n.val → w.kind = .repair → x.lane.waitRepair = [] →
      exec (.repairMarker p n) s = .next (Claims.withPort s p { x with
        link := { x.link with cntRepair := satInc x.link.cntRepair, levt := x.link.levt.raise 1 }, lane := moved })) ∧
    (∀ n : Fin 79, n.val < 70 → exec (.repairMarker p n) s = .next s))

/-- R84: without its marker a repair ends in a retrain with cause 9. -/
def Obligations.RepairTimeoutRetrains : Prop :=
  ∀ (s : State) (p : PortId), Calm s → repairing (s.port p.val) = true → (s.port p.val).link.lstate = .active →
    ∃ t, exec (.repairTimeout p) s = .next t ∧
      (t.port p.val).link.lstate = .train ∧ (t.port p.val).link.stage = .detect ∧ (t.port p.val).link.attempt = 0 ∧
      (t.port p.val).link.failCause = 9 ∧ (t.port p.val).link.cntRetrain = satInc (s.port p.val).link.cntRetrain ∧
      (t.port p.val).lane.swapDn = none ∧ (t.port p.val).fr.fLink = true ∧ t.flt.src.getLsbD 2 = true ∧
      (∀ q, q ≠ p.val → t.port q = s.port q) ∧ t.mem = s.mem ∧ t.tnd = s.tnd

/-- R95, R96, R427: a slice begins with the request for its lane, waits where domain 49 is off, and is skipped where lane BIST is off; a slice
that found no error is recorded as passed. -/
def Obligations.LaneBistSlicesRun : Prop :=
  (∀ (s : State) (p : PortId) (k : Spare) (ks : List Spare), let x := s.port p.val
    let pos := s.day.tick / 64 % 156
    s.day.tick % 64 = 0 → Claims.Sends x → x.lane.slice = none → s.day.laneBistEn = true → s.pwr.srAct = false →
    s.domOn 49 = true → pos < 76 → pos ∉ x.lane.outDn → x.lane.swapDn = none → freeSpares x .down = k :: ks →
      exec (.laneBistSlice p) s = .next (Claims.withPort s p (Claims.sent s.day.tick (.laneCtl 0x1 .down pos k)
        { x with lane := { x.lane with
          bistWait := none
          slice := some { pos := pos, start := s.day.tick, spare := some k, inTest := false }
          swapDn := some { kind := .swap, lane := pos, spare := k, phase := .requested } } }))) ∧
  (∀ (s : State) (p : PortId), let x := s.port p.val
    s.day.tick % 64 = 0 → x.link.lstate = .active → x.lane.slice = none → s.day.laneBistEn = true → s.pwr.srAct = false →
    s.domOn 49 = false →
      exec (.laneBistSlice p) s = .next (Claims.withPort s p { x with
        lane := { x.lane with bistWait := some (s.day.tick / 64 % 156) } })) ∧
  (∀ (s : State) (p : PortId), let x := s.port p.val
    s.day.tick % 64 = 0 → x.link.lstate = .active → x.lane.slice = none → s.day.laneBistEn = false →
      exec (.laneBistSlice p) s = .next (Claims.withPort s p { x with
        lane := { x.lane with bistWait := none, bistPos := s.day.tick / 64 % 156, bistSkipped := true, bistPass := false, bistErrors := 0 }
        link := { x.link with cntBskip := satInc x.link.cntBskip } })) ∧
  (∀ (s : State) (p : PortId) (sl : LaneSlice), let x := s.port p.val
    Calm s → x.lane.slice = some sl → sl.start + 62 ≤ s.day.tick → sl.inTest = true → sl.restoring = false → sl.pos < 78 →
    sl.spare = none → sl.errors = none →
      exec (.laneBistRestore p 0) s = .next { (Claims.withPort s p { x with lane := { x.lane with
          slice := none, bistPos := sl.pos, bistPass := true, bistSkipped := false, bistErrors := 0 } }) with
        wch := { s.wch with laneRun := { s.wch.laneRun with tested := s.wch.laneRun.tested + 1 } } })

/-! ### Register writes (R283 to R291) and the PCI Express function (R276 to R298) -/

/-- R35, R289, R291 and the registers' own rules: what an accepted write of each register does. -/
def Obligations.RegisterWritesWaitForTheirBoundary : Prop :=
  ∀ (s : State) (v : Word32), s.pcie.mse = true → s.pcie.d3hot = false →
    let w := Claims.wrote s
    let stage := fun (off : Nat) (t : State) => { t with staged := t.staged ++ [(off, v)] }
    (∀ p : PortId, ∀ i ∈ [Instr.retrain p v, Instr.testEn p v],
      exec i s = .next (stage (0x8004 + 0x100 * p.val) (if v.getLsbD 0 then
        Claims.withLink w p { (s.port p.val).link with retrainReq := true } else w))) ∧
    (∀ p : PortId, ∀ i ∈ [Instr.galPgCtlMode p v, Instr.galPgCtlClr p v],
      (v.toNat % 8 = 0 ∨ (s.port p.val).link.lstate = .test →
        exec i s = .next (stage (0x8040 + 0x100 * p.val) (if v.getLsbD 10 then
          Claims.withPort w p { s.port p.val with lane := { (s.port p.val).lane with pgClr := true } } else w))) ∧
      (v.toNat % 8 ≠ 0 → (s.port p.val).link.lstate ≠ .test →
        exec i s = .next (Claims.withLink w p { (s.port p.val).link with levt := (s.port p.val).link.levt.raise 6 }))) ∧
    (∀ (p : PortId) (r : Fin 4), exec (.galCredWrite p r v) s = .next (stage (0x8084 + 0x100 * p.val + 4 * r.val) w)) ∧
    (∀ hi, exec (.dayTsRateWrite hi v) s = .next (if s.day.servoEn then w else stage (if hi then 0x11C else 0x118) w)) ∧
    (∀ fast r, exec (.bcnConfigWrite fast r v) s = .next (
      if (s.bcn.ring fast).en = true ∧ r ≠ .ctl then
        { w with bcn := s.bcn.setRing fast { s.bcn.ring fast with evt := (s.bcn.ring fast).evt.raise 3 } }
      else stage (ringReg fast r) w)) ∧
    (∀ (u : Fin 18) (n : Fin 8), exec (.bcnMask u n v) s = .next { w with bcn := { s.bcn with
      maskStaged := s.bcn.maskStaged ++ ((List.range 32).filter (fun i => unitInst (u.val + 1) (32 * n.val + i))).map
        (fun i => ((u.val + 1, 32 * n.val + i), v.getLsbD i)) } }) ∧
    (∀ i ∈ [Instr.lateClr v, Instr.ovrClr v], exec i s = .next { w with day := { s.day with
      lateClr := s.day.lateClr ||| v.extractLsb' 0 8, ovrClr := s.day.ovrClr || v.getLsbD 8 } }) ∧
    (exec (.fltCntClr v) s = .next { w with flt := { s.flt with cntClr := s.flt.cntClr ||| v.extractLsb' 0 4 } }) ∧
    (exec (.trigger v) s = .next (if v.getLsbD 0 then { w with snap := { s.snap with req := true } } else w))

/-- R8, R291: a matching clear is accepted, any other write of a status register does nothing. -/
def Obligations.StatusClearsAcceptedBySequence : Prop :=
  ∀ (s : State) (v : Word32), s.pcie.mse = true → s.pcie.d3hot = false →
    let w := Claims.wrote s
    let c := fun (q : Sq) => { q with clr := q.clr || v.extractLsb' 0 16 == q.seq }
    exec (.sqClear 0x20 v) s = .next { w with pcie := { w.pcie with regErr := c s.pcie.regErr } } ∧
    exec (.sqClear 0x124 v) s = .next { w with day := { s.day with ptm := c s.day.ptm } } ∧
    exec (.sqClear 0x26C v) s = .next { w with sec := { s.sec with evt := c s.sec.evt } } ∧
    exec (.sqClear 0xE04 v) s = .next { w with kpr := { s.kpr with rst := c s.kpr.rst } } ∧
    exec (.sqClear 0x1028 v) s = .next { w with bcn := { s.bcn with normal := { s.bcn.normal with evt := c s.bcn.normal.evt } } } ∧
    exec (.sqClear 0x1428 v) s = .next { w with bcn := { s.bcn with fast := { s.bcn.fast with evt := c s.bcn.fast.evt } } } ∧
    exec (.sqClear 0x302C v) s = .next { w with lan := { s.lan with evt := c s.lan.evt } } ∧
    exec (.sqClear 0xE004 v) s = .next { w with ll := { s.ll with evt := c s.ll.evt } } ∧
    exec (.sqClear 0xF048 v) s = .next { w with wch := { s.wch with evt := c s.wch.evt } } ∧
    (∀ p : PortId, exec (.sqClear (BitVec.ofNat 16 (0x801C + 0x100 * p.val)) v) s =
      .next (Claims.withLink w p { (s.port p.val).link with levt := c (s.port p.val).link.levt })) ∧
    (∀ p : PortId, exec (.sqClear (BitVec.ofNat 16 (0x8094 + 0x100 * p.val)) v) s =
      .next (Claims.withPort w p { s.port p.val with fr := { (s.port p.val).fr with fevt := c (s.port p.val).fr.fevt } })) ∧
    (∀ k : CluId, exec (.sqClear (BitVec.ofNat 16 (0xC010 + 0x200 * k.val)) v) s =
      .next (Claims.withClu w k { s.clu k.val with cap := c (s.clu k.val).cap })) ∧
    (∀ k : CluId, exec (.sqClear (BitVec.ofNat 16 (0xC030 + 0x200 * k.val)) v) s =
      .next (Claims.withClu w k { s.clu k.val with evt := c (s.clu k.val).evt })) ∧
    exec (.fltClr v) s = .next { w with flt := { s.flt with clr := s.flt.clr || v.extractLsb' 0 16 == s.flt.clrSeq } } ∧
    exec (.bcnLsrcPend v) s = .next { w with bcn := { s.bcn with pendClr := s.bcn.pendClr || v.extractLsb' 0 16 == s.bcn.pendSeq } }

/-- R279, R286, R313, R339: mailboxes, TAIL, and the checks of a BAR0 write; a request type that the function lacks is unsupported. -/
def Obligations.BusWritesChecked : Prop :=
  (∀ (s : State), s.pcie.mse = true → s.pcie.d3hot = false →
    let w := Claims.wrote s
    (∀ (m : Mb) (v : Word32), let x := tget {} s.kpr.mbx m.val
      exec (.go m v) s = .next { w with kpr := { s.kpr with mbx := tset s.kpr.mbx m.val (
        if x.st = .pending ∨ x.st = .busy then { x with lost := true }
        else { x with cmd := v.extractLsb' 0 16, tag := v.extractLsb' 16 8
                      st := if v.getLsbD 27 then .pending else x.st, lost := if v.getLsbD 27 then false else x.lost
                      sub := if v.getLsbD 27 then s.day.tick else x.sub }) } }) ∧
    (∀ fast v, let r := s.bcn.ring fast
      exec (.tail fast v) s = .next (
        if (v - r.tail).toNat ≤ (r.head - r.tail).toNat then
          { s with bcn := s.bcn.setRing fast { r with tail := v }
                   pcie := { (if r.head = v then s.pcie else s.pcie.signal (if fast then 1 else 0)) with cpl := .success [] } }
        else { w with bcn := s.bcn.setRing fast { r with evt := r.evt.raise 2 } })) ∧
    (∀ v, exec (.bar0Write { off := 0x140, words := [v], be := [0xF] }) s = .next { w with staged := s.staged ++ [(0x140, v)] }) ∧
    (∀ off v be, (readReg s (off / 4 * 4)).isSome = true → be ≠ 0 → be ≠ 0xF →
      exec (.bar0Write { off := off, words := [v], be := [be] }) s =
        .next (busLog .narrow .ca true false (off / 4 * 4 + firstByte be) be.toNat s)) ∧
    (∀ off u v x l be, exec (.bar0Write { off := off, words := u :: v :: x :: l, be := be }) s =
        .next (busLog .wide .ca true false (off / 4 * 4 + firstByte (be.headD 0)) (be.headD 0).toNat s)) ∧
    (∀ off v p, readReg s (off / 4 * 4) = none →
      exec (.bar0Write { off := off, words := [v], be := [0xF], poisoned := p }) s =
        .next (busLog .unimpl .ur true false (off / 4 * 4) 0xF s)) ∧
    (∀ off v, (readReg s (off / 4 * 4)).isSome = true →
      exec (.bar0Write { off := off, words := [v], be := [0xF], poisoned := true }) s =
        .next (busLog .poisoned .poisoned true false (off / 4 * 4) 0xF s))) ∧
  (∀ (s : State) (w : Sys2Proof.BusWrite), s.pcie.mse = false ∨ s.pcie.d3hot = true ∨ w.other = true →
    let off := w.off / 4 * 4 + firstByte (w.be.headD 0)
    exec (.bar0Write w) s = .next { s with pcie := { s.pcie with
      cpl := .ur, aer := s.pcie.aer ++ [0]
      aerHdr := s.pcie.aerHdr.orElse (fun _ => some { bar2 := false, wr := true, off := off, be := (w.be.headD 0).toNat }) } })

/-- R276 to R278, R280 to R282, R294: the states of the function, its configuration writes and what a configuration request is answered. -/
def Obligations.FunctionStatesChange : Prop :=
  ∀ (s : State),
    exec .functionReset s = .next { s with pcie := { s.pcie with
      linkUp := false, speed := 0, width := 0, b2 := s.pcie.b2.filter (·.wr), d3hot := false, mse := false, bme := false
      msixEn := false, fmask := false, msix := [], pba := 0 } } ∧
    (s.pwr.perst = false → s.domOn 2 = true → s.domOn 3 = true →
      ∃ v w, (v ∈ [25, 50, 80, 160, 320] ∧ w ∈ [1, 2, 4]) ∧ exec .managementLinkUp s = .next { s with
        pcie := { s.pcie with linkUp := true, speed := v, width := w }
        clk := { s.clk with mgref := true }, free := s.free + 1 }) ∧
    (s.pwr.perst = false → s.pwr.held = false → s.ll.accepted = true → s.domOn 2 = true → s.domOn 3 = true →
      exec .configurationReady s = .next { s with pcie := { s.pcie with cfgReady := true } }) ∧
    (s.pcie.linkUp = true → s.pcie.cfgReady = true →
      exec .d3hot s = .next { s with pcie := { s.pcie with d3hot := true } } ∧
      exec .returnToD0 s = .next { s with pcie := sendPending { s.pcie with d3hot := false } } ∧
      (∀ bme mse, exec (.busMasterEnable bme mse) s = .next { s with pcie := sendPending { s.pcie with bme := bme, mse := mse } }) ∧
      (∀ (v : Fin 8) masked en fmask, s.pcie.mse = true → s.pcie.d3hot = false → s.pcie.msixEn = false →
        exec (.msixUnmask v masked en fmask) s = .next { s with pcie := sendPending { s.pcie with
          cpl := .success [], msixEn := en, fmask := fmask
          msix := tset s.pcie.msix v.val { tget {} s.pcie.msix v.val with masked := masked } } })) ∧
    (s.pcie.linkUp = true → s.pcie.cfgReady = false → cfgAnswer s = some .retry) ∧
    (s.pcie.linkUp = true → s.pcie.cfgReady = true → ∃ h l caps, cfgAnswer s = some (.config h l caps s.ll.serial) ∧
      h.vendor = 0x7E51 ∧ h.device = 0x1696 ∧ h.classCode = 0x058000 ∧ h.subsystem = (if s.tenderPart = true then 1 else 2) ∧
      h.bar0 = .mem64 false 65536 ∧ h.bar2 = .mem64 true 1048576 ∧ h.bar4 = .absent ∧ h.intPin = 0 ∧
      l.speeds = [25, 50, 80, 160, 320] ∧ l.widths = [1, 2, 4] ∧ l.aspmL0s = false ∧ l.aspmL1 = true ∧
      caps.map (·.1) = [0x040, 0x050, 0x070, 0x100, 0x148, 0x158, 0x170, 0x1A0, 0x1D0, 0x1F0])

/-- R295 to R297: the BAR2 window. -/
def Obligations.Bar2AccessesMemory : Prop :=
  (∀ (s : State) (o : Nat) (data : List Byte), let r := { bar2Req s o 64 with wr := true, data := data, be := List.replicate 64 true }
    let g := r.a / 64
    let c := chanOf r.a
    Calm s → busOk s = true → s.pcie.b2 = [] → r.a % 64 = 0 → data.length = 64 →
    bar2Row s r = none → bar2May s r = true → Claims.Empty s c →
      ∃ t, exec (.bar2Write o data (List.replicate 64 true) false) s = .next t ∧ t.pcie = { s.pcie with cpl := .success [] } ∧
        tget 0 t.sec.commit 7 = tget 0 s.sec.commit 7 + 1 ∧
        t = { s with chans := t.chans, clus := t.clus, sec := t.sec, mem := t.mem, chk := t.chk, pcie := t.pcie
                     clk := { s.clk with xbarGated := false } } ∧
        (Inv s → ∀ b, t.byte b = if b / 64 ∈ physGran s g :: movePlaces s g then data.getD (b % 64) 0 else s.byte b)) ∧
  (∀ (s : State) (o n : Nat), let r := bar2Req s o n
    let g := r.a / 64
    let c := chanOf r.a
    Calm s → busOk s = true → s.pcie.b2 = [] → 0 < n → r.a % 64 + n ≤ 64 →
    bar2Row s r = none → bar2May s r = true → Claims.Empty s c → Claims.Clean s g → (s.chan c).i.mergeOf g = none →
      ∃ t, exec (.bar2Read o n) s = .next t ∧
        t.pcie = { s.pcie with cpl := .success (((readGran s g []).1.drop (r.a % 64)).take n) } ∧
        t = { s with chans := t.chans, clus := t.clus, sec := t.sec, pcie := t.pcie, clk := { s.clk with xbarGated := false } }) ∧
  (∀ (s : State) (o n k : Nat), let r := bar2Req s o n
    Calm s → busOk s = true → s.pcie.b2 = [] → bar2Row s r = some k →
      exec (.bar2Read o n) s = .next (busLog (bar2Err k) (bar2Cpl k) false true r.off (firstBe r.off (fun _ => true) n) s) ∧
      (s.pcie.b2En = false → k = 1)) ∧
  (∀ (s : State) (o k : Nat) (data : List Byte) (be : List Bool) (p : Bool),
    let r := { bar2Req s o data.length with wr := true, data := data, be := be, poisoned := p }
    Calm s → busOk s = true → s.pcie.b2 = [] → bar2Row s r = some k →
      exec (.bar2Write o data be p) s =
        .next (busLog (bar2Err k) (bar2Cpl k) true true r.off (firstBe r.off (fun i => be.getD i false) data.length) s)) ∧
  (∀ (s : State) (o n : Nat), busOk s = false → Calm s →
    exec (.bar2Read o n) s = .next (busRefuse false true (o % 2 ^ 20) (firstBe (o % 2 ^ 20) (fun _ => true) n) s))

/-! ### Channel controllers (R134 to R184) -/

/-- R54: the interleave, field by field, and its inverse. -/
def Obligations.AddressesRoundTrip : Prop :=
  (∀ a : BitVec 37, a.toNat < memTop → let n := a.toNat
    rowOf n = (a.extractLsb' 35 2).toNat * 8192 + (a.extractLsb' 22 13).toNat ∧ rowOf n < 24576 ∧
    bankOf n = (a.extractLsb' 15 7 ^^^ a.extractLsb' 22 7).toNat ∧
    dieOf (bankOf n) = ((a.extractLsb' 15 7 ^^^ a.extractLsb' 22 7).extractLsb' 3 4).toNat ∧
    colOf n = (a.extractLsb' 13 2).toNat ∧
    chanOf n = (a.extractLsb' 8 5 ^^^ a.extractLsb' 13 5 ^^^ a.extractLsb' 18 5 ^^^ a.extractLsb' 23 5 ^^^ a.extractLsb' 28 5 ^^^
      (a.extractLsb' 33 4).setWidth 5).toNat ∧
    chunkOf n = 2 * colOf n + (a.extractLsb' 7 1).toNat ∧ granOf n = 2 * chunkOf n + (a.extractLsb' 6 1).toNat ∧
    64 * granOf n + n % 64 = 256 * colOf n + (a.extractLsb' 0 8).toNat ∧ cluOf (chanOf n) = chanOf n >>> 2) ∧
  (∀ ch < 32, ∀ bank < 128, ∀ row < 24576, ∀ g < 16,
    let a := addrOf ch bank row g
    a < memTop ∧ a % 64 = 0 ∧ chanOf a = ch ∧ bankOf a = bank ∧ rowOf a = row ∧ granOf a = g) ∧
  (∀ a < memTop, a % 64 = 0 → addrOf (chanOf a) (bankOf a) (rowOf a) (granOf a) = a)

/-- The row commands and PCLR (R134, R143, R144, R147, R148, R158, R159). -/
def Obligations.RowCommandsAct : Prop :=
  ∀ (s : State) (c : ChanId) (b : BankId) (d : DieId) (row : Nat), Calm s →
    let q := (s.chan c.val).q
    let i := (s.chan c.val).i
    let k := (s.clu (cluOf c.val)).step
    let here := fun (x : Nat) (y : Nat) => y = x
    (sliceOpen s c.val (dieOf b.val) = true → Claims.Still s c.val → (q.slice (dieOf b.val)).sr = false →
      ((q.bank b.val).row = none → row < 24576 → (q.bank b.val).raa < 576 →
        ∃ t, exec (.act c b row) s = .next t ∧ Claims.Issued s t c (.act b.val row) (here b.val) ∧
          ((t.chan c.val).q.bank b.val).row = some row ∧ ((t.chan c.val).q.bank b.val).raa = (q.bank b.val).raa + 1 ∧
          ((t.chan c.val).q.bank b.val).rdyCol = (t.chan c.val).q.clk + tRCD k) ∧
      ((q.bank b.val).row ≠ none → ∃ t, exec (.pre c b) s = .next t ∧ Claims.Issued s t c (.pre b.val) (here b.val) ∧
        ((t.chan c.val).q.bank b.val).row = none) ∧
      ((q.bank b.val).row = none → exec (.pre c b) s = .next s)) ∧
    (ctrlOn s c.val = true → Claims.Still s c.val → doomed i (dieOf b.val) = false → (q.slice (dieOf b.val)).sr = false →
      (Maint.refpb b.val ∈ q.maint →
        ∃ t, exec (.refpb c b) s = .next t ∧ Claims.Issued s t c (.refpb b.val) (here b.val) ∧ ((t.chan c.val).q.bank b.val).row = none ∧
          ((t.chan c.val).q.bank b.val).ptr = ((q.bank b.val).ptr + 4) % 24576 ∧
          (t.chan c.val).q.maint = q.maint.erase (.refpb b.val)) ∧
      (Maint.rfmt b.val ∈ q.maint →
        ∃ t, exec (.rfmt c b) s = .next t ∧ Claims.Issued s t c (.rfmt b.val) (here b.val) ∧ ((t.chan c.val).q.bank b.val).row = none ∧
          ((t.chan c.val).q.bank b.val).raa = 0 ∧ ((t.chan c.val).q.bank b.val).blocked = false ∧
          (t.chan c.val).q.rfmCnt = satInc q.rfmCnt ∧ (t.chan c.val).q.maint = q.maint.erase (.rfmt b.val))) ∧
    (Maint.refpb b.val ∉ q.maint → exec (.refpb c b) s = .next s) ∧ (Maint.rfmt b.val ∉ q.maint → exec (.rfmt c b) s = .next s) ∧
    (sliceOpen s c.val d.val = true → Claims.Still s c.val → (q.slice d.val).sr = false →
      ∃ t, exec (.prea c d) s = .next t ∧ Claims.Issued s t c (.prea d.val) (fun x => x / 8 = d.val) ∧
        ∀ j < 8, ((t.chan c.val).q.bank (8 * d.val + j)).row = none) ∧
    (ctrlOn s c.val = true → (q.slice d.val).alert = true → ∃ t, exec (.pclr c d) s = .next t ∧ Claims.OnlySched s t c (fun _ => False) ∧
      ((t.chan c.val).q.slice d.val).alert = false ∧ (t.chan c.val).q.replayFrom = q.clk + 1 + tPARREC k)

/-- Self-refresh and the timed closing of a row (R142, R152, R153, R155, R426). -/
def Obligations.SelfRefreshEntersAndLeaves : Prop :=
  ∀ (s : State) (c : ChanId) (b : BankId) (d : DieId), Calm s → ctrlOn s c.val = true → Claims.Still s c.val →
    let q := (s.chan c.val).q
    let u := s.clu (cluOf c.val)
    (doomed (s.chan c.val).i d.val = false → (q.slice d.val).sr = false → (∀ j < 8, (q.bank (8 * d.val + j)).row = none) →
      u.stepTick = 1 ∨ (u.inStep = false ∧ ∀ e ∈ q.queue, dieOf (bankOf (128 * e.chunk)) ≠ d.val) →
      ∃ t, exec (.sre c d) s = .next t ∧ Claims.OnlyChan s t c ∧
        ((t.chan c.val).q.slice d.val).sr = true ∧ ((t.chan c.val).q.slice d.val).srSince = s.day.tick ∧
        ((t.chan c.val).q.slice d.val).srDoubled = q.doubled.getLsbD d.val ∧
        (∀ j < 8, ((t.chan c.val).q.bank (8 * d.val + j)).row = none) ∧
        ∀ e, e ≠ d.val → (t.chan c.val).q.slice e = q.slice e) ∧
    (doomed (s.chan c.val).i d.val = false → (q.slice d.val).sr = true → u.stepTick ≠ 1 → u.stepTick ≠ 2 →
      ∃ t, exec (.srx c d) s = .next t ∧ Claims.OnlyChan s t c ∧
        (t.chan c.val).q.clk = max (q.clk + 1) ((q.slice d.val).rdy + tCKESR u.step) ∧
        ((t.chan c.val).q.slice d.val).sr = false ∧ ((t.chan c.val).q.slice d.val).rdy = (t.chan c.val).q.clk + tXSR u.step ∧
        (t.clu (cluOf c.val)).clkStop = false ∧ ∀ e, e ≠ d.val → (t.chan c.val).q.slice e = q.slice e) ∧
    (u.inStep = false → q.queue = [] → q.link = [] → s.pwr.srAct = true ∨ (u.srIdle ≠ 0 ∧ u.srIdle ≤ q.emptyTicks) →
      ∃ t, exec (.srIdleExpiry c) s = .next t ∧ Claims.OnlyChan s t c ∧
        ∀ e < 16, doomed (s.chan c.val).i e = false → ((t.chan c.val).q.slice e).sr = true) ∧
    ((q.bank b.val).row ≠ none → sliceOpen s c.val (dieOf b.val) = true → (q.slice (dieOf b.val)).sr = false → q.queue = [] →
      ∃ t, exec (.openMaxExpiry c b) s = .next t ∧ Claims.OnlySched s t c (fun x => x = b.val) ∧
        ((t.chan c.val).q.bank b.val).row = none ∧ (q.bank b.val).lastUse + max 1 u.openMax ≤ (t.chan c.val).q.clk)

/-- The column commands, and the scheduler on a single read (R134, R135, R137, R138, R163, R167). -/
def Obligations.ColumnCommandsServe : Prop :=
  ∀ (s : State) (c : ChanId) (b : BankId) (col : Fin 8) (e : Entry) (row : Nat), Calm s → ctrlOn s c.val = true →
    (s.chan c.val).q.queue = [e] → (s.chan c.val).q.link = [] → Claims.Still s c.val →
    let q := (s.chan c.val).q
    let g := 2 * e.chunk
    (e.need = 3 → (q.bank b.val).row = some row → sliceOpen s c.val (dieOf b.val) = true →
      (s.chan c.val).i.mergeOf g = none → (s.chan c.val).i.mergeOf (g + 1) = none →
      (e.op = .read → nextCmd c.val s e = some (.rdc b.val col.val) →
        livesAt s c.val b.val row (2 * col.val) = some g → livesAt s c.val b.val row (2 * col.val + 1) = some (g + 1) →
        e.heldG = 0 → e.data = [] → Claims.Clean s g → Claims.Clean s (g + 1) →
        ∃ t, exec (.rdc c b col []) s = .next t ∧ (t.chan c.val).q.queue = [] ∧
          (∃ f, (t.chan c.val).q.done = q.done ++ [{ e := f, how := .performed }] ∧ f.id = e.id ∧ f.src = e.src ∧
            f.data = (readGran s g []).1 ++ (readGran s (g + 1) []).1 ∧ f.poisonBits = e.poisonBits) ∧
          t = { s with chans := t.chans, sec := t.sec } ∧ ∀ c', c' ≠ c.val → t.chan c' = s.chan c') ∧
      (∀ data, e.op = .write false 0xFFFF data → data.length = 128 → nextCmd c.val s e = some (.wrc b.val col.val) →
        cellsOf s g = (b.val, row, col.val) → cellsOf s (g + 1) = (b.val, row, col.val) →
        Inv s → movePlaces s g = [] → movePlaces s (g + 1) = [] →
        ∃ t, exec (.wrc c b col) s = .next t ∧ (t.chan c.val).q.queue = [] ∧
          (∃ f, (t.chan c.val).q.done = q.done ++ [{ e := f, how := .performed }] ∧ f.id = e.id ∧ f.src = e.src ∧ f.need = 0) ∧
          (∀ j < 64, t.byte (64 * physGran s (g + 1) + j) = data.getD (64 + j) 0) ∧
          (physGran s g ≠ physGran s (g + 1) → ∀ j < 64, t.byte (64 * physGran s g + j) = data.getD j 0) ∧
          (∀ a, a / 64 ≠ physGran s g → a / 64 ≠ physGran s (g + 1) → t.byte a = s.byte a) ∧
          t = { s with chans := t.chans, sec := t.sec, mem := t.mem, chk := t.chk } ∧ ∀ c', c' ≠ c.val → t.chan c' = s.chan c')) ∧
    (Claims.WaitsForAct s c.val e b.val row →
      ∃ t, exec (.schedulerIssue c) s = .next t ∧ Claims.OnlySched s t c (fun x => x = b.val) ∧
        (t.chan c.val).q.clk = q.clk + 1 ∧ ((t.chan c.val).q.bank b.val).row = some row)

/-- The ticks of a frequency step (R33, R154, R155, R162, R174). -/
def Obligations.FrequencyStepTicks : Prop :=
  ∀ (s : State) (k : CluId), Calm s → let u := s.clu k.val
    (u.stepTick = 1 → u.t1Done = false → (∀ j < 4, Claims.Still s (4 * k.val + j)) →
      ∃ t, exec (.freqStepT1 k) s = .next t ∧ Claims.OnlyClu s t k ∧
        t.clu k.val = { u with t1Done := true, step := u.stepTo, clkStop := true } ∧
        ∀ j < 4, ∀ d < 16, doomed (s.chan (4 * k.val + j)).i d = false → ((t.chan (4 * k.val + j)).q.slice d).sr = true) ∧
    (u.stepTick = 2 → exec (.freqStepT2 k true) s = .next s ∧
      ∃ t, exec (.freqStepT2 k false) s = .next t ∧ Claims.OnlyClu s t k ∧ t.clu k.val = { u with phyBad := true } ∧
        ∀ j < 4, ∀ n < 324, n ∉ (s.chan (4 * k.val + j)).i.declared → n ∈ ((t.chan (4 * k.val + j)).i.suspects.map (·.1))) ∧
    (u.stepTick = 3 → u.t3Done = false → u.phyBad = false → (∀ j < 4, Claims.Still s (4 * k.val + j)) →
      ∀ ok, ∃ t, exec (.freqStepT3 k ok) s = .next t ∧ Claims.OnlyClu s t k ∧
        t.clu k.val = { u with t3Done := ok, clkStop := false } ∧
        ∀ j < 4, ∀ d < 16, doomed (s.chan (4 * k.val + j)).i d = false → ((t.chan (4 * k.val + j)).q.slice d).sr = false) ∧
    (∀ (c : ChanId) (d : DieId), cluOf c.val = k.val → u.stepTick = 3 ∨ u.stage = .dies → ctrlOn s c.val = true →
      (s.chan c.val).q.awake d.val = true → doomed (s.chan c.val).i d.val = false →
      (∃ t, exec (.mrr c d true) s = .next t ∧ Claims.OnlySched s t c (fun _ => False) ∧ t.clus = s.clus) ∧
      (∃ t, exec (.mrr c d false) s = .next t ∧ Claims.OnlyChan s t c ∧ t.clu k.val = { u with t3Done := false, phyBad := true })) ∧
    ((∀ j < 4, Claims.Empty s (4 * k.val + j) ∧ (s.chan (4 * k.val + j)).i.merge = []) →
      stepOver k.val s = Claims.withClu s k { u with
        stepTick := 4, t1Done := false, t3Done := false, sinceEnd := 0, stepCnt := satInc u.stepCnt, evt := u.evt.raise 0 } ∧
      (u.stepTick = 4 → s.domOn (36 + k.val) = true → s.ls.on = false →
        (∀ j < 4, (s.chan (4 * k.val + j)).q.maint = [] ∧ injArmed s 3 (4 * k.val + j) = none) →
        (∀ m < 5, ∀ was, (s.mbx m).wait ≠ some (.step k.val was)) →
        ∃ t, exec (.freqStepEnd k) s = .next t ∧ Claims.OnlyClu s t k ∧ t.clu k.val = { u with stepTick := 0 } ∧
          ∀ j < 4, (t.chan (4 * k.val + j)).q.clk = (s.chan (4 * k.val + j)).q.clk + 1))

/-- Failures of a cluster, and the parity alert (R40, R157 to R160, R356). -/
def Obligations.ClusterFailuresStopTheCluster : Prop :=
  (∀ (s : State) (k : CluId) (i : Instr), Calm s →
    (i = .stepFail k ∧ ((s.clu k.val).stepTick = 1 ∨ (s.clu k.val).stepTick = 3)) ∨
      (i = .clkCluster k ∧ s.domOn (36 + k.val) = true ∧ s.ls.on = false) →
    ∃ t, exec i s = .next t ∧ t.cluReady k.val = false ∧ (t.clu k.val).stage = .off ∧ (t.clu k.val).stepTick = 0 ∧
      (t.clu k.val).clkStop = true ∧ ∀ j < 4,
        (∀ d < 16, ((t.chan (4 * k.val + j)).q.slice d).sr = true) ∧
        (t.chan (4 * k.val + j)).q.queue = [] ∧ (t.chan (4 * k.val + j)).q.link = [] ∧
        (t.chan (4 * k.val + j)).i.merge = (s.chan (4 * k.val + j)).i.merge ∧
        (t.chan (4 * k.val + j)).q.done = (s.chan (4 * k.val + j)).q.done ++
          ((s.chan (4 * k.val + j)).q.queue ++ (s.chan (4 * k.val + j)).q.link).map (fun e => { e := e, how := .notReady })) ∧
  (∀ (s : State) (c : ChanId) (d : DieId), Calm s → ctrlOn s c.val = true → doomed (s.chan c.val).i d.val = false →
    let q := (s.chan c.val).q
    let lat := alertLat (s.clu (cluOf c.val)).step
    (q.slice d.val).alertsTick + 1 < 4 → (q.slice d.val).alertsRound + 1 < 64 →
    ∃ t, exec (.parityAlert c d) s = .next t ∧ ((t.chan c.val).q.slice d.val).alert = true ∧
      ((t.chan c.val).q.slice d.val).alertsTick = (q.slice d.val).alertsTick + 1 ∧
      (t.chan c.val).q.parCnt = satInc q.parCnt ∧
      (∀ x, erroneous lat q d.val = some x →
        (q.replay = [] → (t.chan c.val).q.replay = q.retry.filter (fun y => y.die = d.val ∧ x.clk ≤ y.clk)) ∧
        (t.chan c.val).q.flights = q.flights.filter (fun f => !(dieOf f.bank = d.val ∧ x.clk ≤ f.clk)) ∧
        (∀ b, b / 8 ≠ d.val → (t.chan c.val).q.bank b = q.bank b) ∧
        ∀ j < 8, ∀ y, x.banks[j]? = some y → (t.chan c.val).q.bank (8 * d.val + j) = y) ∧
      (erroneous lat q d.val = none → (t.chan c.val).q.replay = q.replay ∧ (t.chan c.val).q.banks = q.banks) ∧
      (t.chan c.val).q.queue = q.queue.map (fun e => { e with a := e.a + 1 }) ∧
      (t.chan c.val).i = (s.chan c.val).i ∧ t.mem = s.mem ∧ t.chk = s.chk ∧ t.ports = s.ports)

/-- The fill and the end of a merge entry (R135, R169, R171, R172, R186). -/
def Obligations.MergeEntriesEnd : Prop :=
  ∀ (s : State) (c : ChanId) (g : Nat) (errs : List SymErr) (m : MergeE), Calm s → Claims.Empty s c.val → chanOf (64 * g) = c.val →
    (s.chan c.val).i.mergeOf g = some m → (∀ x ∈ (s.chan c.val).i.merge, x.due = false) →
    let d := dieOf (bankOf (64 * g))
    (sliceOpen s c.val d = true → m.fill = .waiting → injArmed s 0 c.val = none →
      decode (erasedOf (s.chan c.val).i) (readGran s g (granErrs g errs)).1 (readGran s g (granErrs g errs)).2 = .clean →
      ∃ t, exec (.mergeFillReturn c g errs) s = .next t ∧ t = { s with chans := t.chans, clus := t.clus } ∧
        (t.chan c.val).i = (s.chan c.val).i.putMerge { m with fill := .base (readGran s g (granErrs g errs)).1 false }) ∧
    (∀ b x, sliceOpen s c.val d = true → m.fill = .base b x → m.cover = 0xFF →
      ∃ t, exec (.mergeEntryTimeout c g errs) s = .next t ∧ (t.chan c.val).i.mergeOf g = none ∧
        (t.chan c.val).i.cnt.mergeFull = satInc (s.chan c.val).i.cnt.mergeFull ∧
        t = { s with chans := t.chans, clus := t.clus, sec := t.sec
                     mem := (putGran g (some m.data) s).mem, chk := (putGran g (some m.data) s).chk }) ∧
    (sliceOpen s c.val d = false →
      exec (.mergeFillReturn c g errs) s = .next s ∧
      exec (.mergeEntryTimeout c g errs) s = .next (s.modInteg c.val (fun i => i.putMerge { m with due := true })))

/-- What tests and rounds hand to the boundary (R174, R177, R182, R439 to R442). -/
def Obligations.TestsAndRoundsOfRepair : Prop :=
  (∀ (s : State) (c : ChanId) (n : Fin 324) (dies : BitVec 16), testable s.day.tick n.val (s.chan c.val).i = true →
    (s.clu (cluOf c.val)).inStep = false →
    let f := fun (i : Integ) => { i with
      suspects := i.suspects.filter (fun x => x.1 ≠ n.val), cmdTest := if 280 ≤ n.val then s.day.tick else i.cmdTest }
    exec (.tsvLoopbackTest c n false dies) s = .next (s.modInteg c.val f) ∧
    exec (.tsvLoopbackTest c n true dies) s = .next (tsvFailed c.val n.val dies (s.modInteg c.val f))) ∧
  (∀ (s : State) (c : ChanId) (n : Nat) (dies : BitVec 16), n ∉ (s.chan c.val).i.pend.data →
    (∀ x ∈ (s.chan c.val).i.pend.cmd, x.1 + 280 ≠ n) → let p := (s.chan c.val).i.pend
    ((tsvFailed c.val n dies s).chan c.val).i = { (s.chan c.val).i with
      pend := if n < 280 then { p with data := p.data ++ [n] } else { p with cmd := p.cmd ++ [(n - 280, dies)] } }) ∧
  (∀ (s : State) (f : List Nat) (l : List (Nat × Option Nat)) (rot : Nat), s.wch.ran = false → s.wch.paused = false →
    s.domOn 49 = true → s.wch.tsvTest = none → groupBlocked s s.wch.ptr = false → sliceOf s s.wch.ptr 0 = some (l, rot) →
    ∃ t, exec (.tsvBistSlice f) s = .next t ∧ t = { s with wch := t.wch } ∧ t.wch.ran = true ∧ t.wch.lastGroup = s.wch.ptr ∧
      t.wch.lastSkipped = false ∧ t.wch.lastTested = maskOf (l.map (·.1)) ∧ t.wch.run.tested = s.wch.run.tested + l.length ∧
      t.wch.suspects = s.wch.suspects ++ (l.filter (fun x => (f.filter (· < 8)).contains x.1)).map (fun x =>
        { ch := (member s.wch.ptr x.1).1, tsv := (member s.wch.ptr x.1).2, spare := x.2, due := s.day.tick + 1, cmd := false })) ∧
  (∀ (s : State) (x : Suspect) (dies : BitVec 16), s.wch.suspects.find? (fun y => y.due ≤ s.day.tick) = some x →
    exec (.tsvConfirmTest none) s = .next { s with wch := { s.wch with suspects := s.wch.suspects.erase x } } ∧
    ∃ t, exec (.tsvConfirmTest (some dies)) s = .next t ∧ t = { s with wch := t.wch, chans := t.chans } ∧
      t.wch.suspects = s.wch.suspects.erase x ∧ t.wch.fail = satInc s.wch.fail ∧
      t.chans = (tsvFailed x.ch x.tsv dies s).chans) ∧
  (∀ (s : State) (c : ChanId), Calm s → s.day.tick % 64 = 63 →
    ((s.chan c.val).i.cand = [] → exec (.mooringRoundEnd c) s = .next (s.modInteg c.val (fun i => { i with cand := [] }))) ∧
    (∀ g n x, (s.chan c.val).i.cand = [{ gran := g, pos := none, tick := x }] → retiredGran (s.chan c.val).i g = false →
      rowOf (64 * g) < spareRow0 s.tenderPart →
      moorHit (s.chan c.val).i (bankOf (64 * g)) (rowOf (64 * g)) (granOf (64 * g)) = none →
      entryFor (s.chan c.val).i (bankOf (64 * g)) (rowOf (64 * g)) = some n →
      exec (.mooringRoundEnd c) s = .next (s.modInteg c.val (fun i => { i with cand := [], moves := i.moves ++ [{
          entry := n, source := 0, bank := bankOf (64 * g), row := rowOf (64 * g), mask := 1#16 <<< granOf (64 * g)
          gran := granOf (64 * g), todo := maskGrans (1#16 <<< granOf (64 * g)) }] })))) ∧
  (∀ (s : State) (c : ChanId), s.day.tick % 64 ≠ 63 → exec (.mooringRoundEnd c) s = .next s)

/-! ### Time, power, resets and start-up (R27 to R48, R367, R421 to R435) -/

/-- The tick boundary and PTM (R28, R35, R45, R47). -/
def Obligations.TickAdvancesByOne : Prop :=
  (∀ s : State, s.pwr.held = false → ∃ t, exec .tickBoundary s = .next t ∧ t.day.tick = s.day.tick + 1 ∧ t.day.cyc = 0 ∧
    t.day.ts = s.day.ts + (s.day.len - s.day.cyc) * s.day.perCycle + s.day.tsStep ∧ t.day.tsStep = 0) ∧
  (∀ s : State, s.pwr.held = true → Calm s → exec .tickBoundary s = .next s) ∧
  (∀ (s : State) (o : Option Int), s.day.servoEn = true → s.kpr.st = .run → s.day.nextPtm ≤ s.day.tick →
    ∃ t, exec (.ptmDialogue o) s = .next t ∧ t = { s with day := t.day, staged := t.staged, free := t.free } ∧
      t.day.nextPtm = s.day.tick + s.day.period ∧
      (s.pcie.linkUp = false ∨ o = none → t.staged = s.staged ∧ t.free = s.free ∧
        t.day = { s.day with nextPtm := s.day.tick + s.day.period, ptm := s.day.ptm.raise 1, ptmLastOk := false }) ∧
      (∀ v, s.pcie.linkUp = true → o = some v →
        t.day.ptm = s.day.ptm.raise 0 ∧ t.day.ptmLastOk = true ∧ t.day.ptmOfs = v ∧ t.day.aligned = true ∧
        (v < -1000 → t.day.slewing = true ∧
          t.staged = s.staged ++ [(0x118, BitVec.ofNat 32 rateMin), (0x11C, BitVec.ofNat 32 (rateMin / 2 ^ 32))]) ∧
        (1000 < v → s.day.stepEn = true → t.day.slewing = false ∧ t.day.tsStep = v.toNat * 2 ^ 32 ∧ t.staged = s.staged) ∧
        (-1000 ≤ v → v ≤ 1000 ∨ s.day.stepEn = false → t.day.slewing = false ∧ ∃ r, rateMin ≤ r ∧ r ≤ rateMax ∧
          (0 < v → 2 ^ 32 < r) ∧ (v < 0 → r < 2 ^ 32) ∧ (v = 0 → r = 2 ^ 32) ∧
          t.staged = s.staged ++ [(0x118, BitVec.ofNat 32 r), (0x11C, BitVec.ofNat 32 (r / 2 ^ 32))])))

/-- Power and resets (R367, R421 to R428, R432, R447). -/
def Obligations.PowerAndResetsTakeEffect : Prop :=
  (∀ (s : State) (d : Fin 50) (n : Nat), Calm s → tget .off s.pwr.dom d.val = .switching n →
    (∃ t, exec (.powerGood d) s = .next t ∧ t.pwr = { s.pwr with dom := tset s.pwr.dom d.val .on } ∧ t.mem = s.mem) ∧
    (2 ≤ n → ∃ t, exec (.pwrDomain d) s = .next t ∧ t.domOn d.val = false ∧ t.flt.src.getLsbD 45 = true ∧ d.val ∉ t.pwr.want)) ∧
  (∀ s : State, Calm s → s.ls.on = true → s.ls.phase = .entered → allAsleep s = true →
    (∀ p < 32, (s.port p).fr.drained = true) →
    ∃ t, exec .lightshipDomainsOff s = .next t ∧ t.ls.phase = .dark ∧ (∀ n, 4 ≤ n → n < 50 → t.domOn n = false) ∧ t.mem = s.mem) ∧
  (∀ s : State, s.pwr.held = false → s.pwr.perst = false → Calm s →
    ∃ t, exec .perstNFall s = .next t ∧ t.pwr = { s.pwr with perst := true, resetting := true } ∧
      (∀ p < 32, (t.port p).fr.fenced = true) ∧ (∀ k < 8, t.cluReady k = false) ∧ t.pcie.cfgReady = false ∧ t.pcie.linkUp = false) ∧
  (∀ s : State, s.pwr.resetting = true → allAsleep s = true →
    ∃ t, exec .stackResetDomainsOff s = .next t ∧ t.pwr.resetting = false ∧ t.mem = s.mem ∧ t.chk = s.chk ∧ t.day.tick = s.day.tick ∧
      t.flt.cap = s.flt.cap ∧ t.flt.src = s.flt.src ∧ (s.ll.burn = none → t.ll.fuse = s.ll.fuse) ∧ t.kpr = {} ∧ t.ports = [] ∧ t.stackId = 0xFFF ∧
      t.ready = s.ready &&& 0xC000 ∧ ∀ n < 50, t.domOn n = false) ∧
  (∀ s : State, s.pwr.held = false →
    ∃ t, exec .perstNRise s = .next t ∧ t.pwr.perst = false ∧
      (s.pwr.started = false → s.pwr.resetting = false → s.ll.accepted = true → s.lan.published = true → supplyOk s.lan = true →
        t.pwr.started = true ∧ ∀ n, n ∈ t.pwr.want ↔ n < 50 ∧ (s.tenderPart = true ∨ n < 44 ∨ n = 49)) ∧
      t = { s with pwr := t.pwr, wch := t.wch }) ∧
  (∀ s : State,
    (∃ t, exec .alwaysOnReset s = .next t ∧ t.pwr.held = true ∧ t.day.tick = 0 ∧ t.ready = 0 ∧
      t.day.src = (if s.clk.refclk = true then .ref else .rc) ∧ t.mem = [] ∧ t.chk = [] ∧
      (s.ll.burn = none → t.ll.fuse = s.ll.fuse) ∧ ∀ n < 50, t.domOn n = false) ∧
    exec .alwaysOnResetRelease s = .next { s with pwr := { s.pwr with held := false } } ∧
    exec .testReset s = .next { s with wch := { s.wch with ir := 0x01, acting := false, dieSel := 0 } })

/-- The start-up of a cluster: its rows in the last tick of each stage, the boundary after, and a failure (R60, R154, R406, R432, R433). -/
def Obligations.ClusterStartupStages : Prop :=
  ∀ (s : State) (k : CluId), let u := s.clu k.val
    (∀ x ∈ [(Instr.clusterStageClock k, Stage4.clock), (.clusterStageRepair k, .repair), (.clusterStageDies k, .dies)],
      (inStage s k.val x.2 = true → exec x.1 s = .next (Claims.withClu s k { u with stageEnded := true })) ∧
      (inStage s k.val x.2 = false → exec x.1 s = .next s)) ∧
    (∀ f, inStage s k.val .tsvs = true → ∃ t, exec (.clusterStageTsvs k f) s = .next t ∧ Claims.OnlyClu s t k ∧
      t.clu k.val = { u with stageEnded := true } ∧
      ∀ c n d, (c, n, d) ∈ f → cluOf c = k.val → n < 324 →
        (n < 280 → n ∈ (t.chan c).i.pend.data) ∧ (280 ≤ n → (n - 280) ∈ (t.chan c).i.pend.cmd.map (·.1))) ∧
    (s.domOn (36 + k.val) = true → s.ls.on = false → u.draining = false → u.stageEnded = true →
      (u.stage = .clock → stageBoundary k.val s = Claims.withClu s k { u with stage := .repair, stageTicks := 0, stageEnded := false }) ∧
      (u.stage = .repair → let t := stageBoundary k.val s
        Claims.OnlyClu s t k ∧ t.clu k.val = { u with stage := .tsvs, stageTicks := 0, stageEnded := false } ∧
        (∀ c b r sp, Rep.row c b r sp ∈ s.ll.repairs → cluOf c = k.val → (c, b, r) ∈ (t.chan c).i.rowRepair) ∧
        (∀ c n sp, Rep.dataTsv c n sp ∈ s.ll.repairs → cluOf c = k.val → tget .free (t.chan c).i.spareD sp ≠ .free) ∧
        (∀ c n sp, Rep.cmdTsv c n sp ∈ s.ll.repairs → cluOf c = k.val → tget .free (t.chan c).i.spareC sp ≠ .free)) ∧
      (u.stage = .tsvs → stageBoundary k.val s = Claims.withClu s k { u with stage := .dies, stageTicks := 0, stageEnded := false }) ∧
      (u.stage = .dies → (∀ j < 4, ∀ d < 16, ((s.chan (4 * k.val + j)).q.slice d).alert = false) → let t := stageBoundary k.val s
        t.cluReady k.val = true ∧ (t.clu k.val).stage = .up ∧ (t.clu k.val).step = max u.mgrTarget u.limit ∧
        (t.clu k.val).clkStop = false ∧
        ∀ j < 4, ∀ d < 16, doomed (s.chan (4 * k.val + j)).i d = false → ((t.chan (4 * k.val + j)).q.slice d).sr = false)) ∧
    (s.domOn (36 + k.val) = true → s.ls.on = false → u.stage ∈ [.clock, .repair, .tsvs, .dies] → Calm s →
      (u.restarted = false → exec (.clusterStageFail k) s =
        .next (Claims.withClu s k { u with stage := .off, stageTicks := 0, stageEnded := false, restarted := true, phyBad := false })) ∧
      (u.restarted = true → ∃ t, exec (.clusterStageFail k) s = .next t ∧
        t.clu k.val = { u with stage := .failed, stageTicks := 0, stageEnded := false, stepFail := satInc u.stepFail, evt := u.evt.raise 1 } ∧
        t.chans = s.chans ∧ t.mem = s.mem))

/-- The test access port (R415, R447 to R450). -/
def Obligations.TestAccessPortLoads : Prop :=
  ∀ s : State,
    let load := fun (c : BitVec 8) => { s with wch := { s.wch with ir := c, acting := false } }
    let intrude := fun (c : BitVec 8) =>
      if ∀ d ∈ s.pwr.dom, d.2 = .off then { s with wch := { s.wch with ir := c, acting := true } }
      else { s with wch := { s.wch with ir := c, acting := false, evt := s.wch.evt.raise 1 } }
    exec .idcode s = .next (load 0x01) ∧ exec .status s = .next (load 0x10) ∧ exec .bypass s = .next (load 0xFF) ∧
    (∀ v, exec (.samplePreload (some v)) s = .next { s with wch := { s.wch with ir := 0x02, acting := false, cells := v } }) ∧
    exec (.samplePreload none) s = .next { s with wch := { s.wch with ir := 0x02, acting := false, cells := sampled s } } ∧
    (∀ v, exec (.dieSel v) s = .next { s with wch := { s.wch with ir := 0x20, acting := false, dieSel := v } }) ∧
    exec .extest s = .next (intrude 0x03) ∧ exec .clamp s = .next (intrude 0x04) ∧ exec .highz s = .next (intrude 0x05) ∧
    exec .kdbg s = .next (if s.ll.kprDbg = true then intrude 0x50 else load 0x50) ∧
    (∀ b w bits, s.ll.life ≠ 0 → exec (.fuse b w bits) s = .next (load 0x40)) ∧
    (∀ b w bits, s.ll.life = 0 → ¬(∀ d ∈ s.pwr.dom, d.2 = .off) → exec (.fuse b w bits) s = .next (intrude 0x40)) ∧
    (∀ (b : Fin 129) (w : Fin 256) bits, s.ll.life = 0 → (∀ d ∈ s.pwr.dom, d.2 = .off) → w.val < bankSize b.val →
      ∃ t, exec (.fuse b w bits) s = .next t ∧ t = { s with wch := (intrude 0x40).wch, ll := t.ll } ∧
        t.ll.normal b.val w.val = s.ll.normal b.val w.val ||| bits ∧ t.ll.marginal b.val w.val &&& bits = bits ∧
        (∀ b' w', fkey b' w' ≠ fkey b.val w.val → t.ll.normal b' w' = s.ll.normal b' w' ∧ t.ll.marginal b' w' = s.ll.marginal b' w'))

/-! ### Streams (R205 to R275) -/

/-- The reads of descriptors and contexts, and the fill (R188, R248 to R251, R254, R264). -/
def Obligations.StreamsBecomeReadyToRun : Prop :=
  (∀ (s : State) (n : BitVec 18) (d : Db) (k : Nat) (e : Res), Calm s → s.tnd.dbq = [d] → d.stream = n.toNat → d.reading = true →
    resident s n.toNat = some (k, e) → e.ctx.state = sQUEUED → (leafOf s e.ctx.asid e.ctx.desc).isSome = true →
    (∀ pa, xlate s e.ctx.asid e.ctx.desc false true = some (.ok (.local_ pa)) →
      ownMay s (.tender e.ctx.tcl e.ctx.cls) (pa / 64) = true → retiredAt s pa = false → Claims.ReadsNow s (pa / 64) →
      ∃ t, exec (.descriptorReadComplete n) s = .next t ∧ t.tnd.dbq = [] ∧ t.mem = s.mem ∧ t.chk = s.chk ∧
        ctxOf t n.toNat = { e.ctx with dcopy := (readGran s (pa / 64) []).1, dloaded := true, state := sQUEUED } ∧
        tget 0 t.sec.commit e.ctx.cls = tget 0 s.sec.commit e.ctx.cls + 1 ∧
        t.tnd.wait = s.tnd.wait.filter (fun w => w.stream ≠ n.toNat) ++
          [{ stream := n.toNat, t := e.ctx.tcl, cls := e.ctx.cls, preempted := false }]) ∧
    (∀ f, xlate s e.ctx.asid e.ctx.desc false true = some (.error f) →
      ∃ t, exec (.descriptorReadComplete n) s = .next t ∧ t.tnd.dbq = [] ∧
        ctxOf t n.toNat = { e.ctx with state := sSTOPPED, dloaded := false, cause := cXLATE, detail := xlateDetail e.ctx.desc f false })) ∧
  (∀ (s : State) (n : BitVec 18) (d : Db), Calm s → xlReady s = true → s.tnd.dbq = [d] → d.stream = n.toNat → d.reading = false →
    resident s n.toNat = none → ctxRetired s n.toNat = false → ownMay s {} (ctxAddr n.toNat / 64) = true →
    Claims.ReadsNow s (ctxAddr n.toNat / 64) → Claims.ReadsNow s (ctxAddr n.toNat / 64 + 1) →
    let c := storedCtx s n.toNat
    (c.state = sFREE ∨ c.state = sUNUSABLE ∨ d.gen ≠ c.gen →
      ∃ t, exec (.doorbellContextRead n) s = .next t ∧ t.tnd.dbq = [] ∧ t.mem = s.mem ∧ t.chk = s.chk ∧
        t.ports = (finishDb d.src stBAD (if c.state = sFREE ∨ c.state = sUNUSABLE then 0x41 else 0x40) s).ports) ∧
    (d.gen = c.gen → d.cmd = 1 → c.state = sIDLE ∨ c.state = sDONE ∨ c.state = sSTOPPED →
      ∃ t, exec (.doorbellContextRead n) s = .next t ∧ t.tnd.dbq = [{ d with reading := true }] ∧ t.tnd.wait = s.tnd.wait ∧
        t.ports = s.ports ∧ t.mem = (storeCtx n.toNat { c.cleared with state := sQUEUED } s).mem)) ∧
  (∀ (s : State) (n : BitVec 18) (w : WaitE), Calm s → s.tnd.wait.find? (fun w => w.stream = n.toNat) = some w → tndReady s w.t = true →
    (∀ d ∈ s.tnd.dbq, d.stream ≠ n.toNat) →
    (∀ k e, resident s n.toNat = some (k, e) → (w.preempted = false ∨ nextWait s w.t = some w ∨ (s.tclu w.t).res.length < 512) →
      (Desc.of e.ctx.dcopy).check = none →
      ∃ t, exec (.streamFillComplete n) s = .next t ∧ t.tnd.wait = s.tnd.wait.filter (fun w => w.stream ≠ n.toNat) ∧
        resident t n.toNat = some (k, { e with ctx := { e.ctx with state := sRUNNING }, dirty := true
                                               run := some { next := e.ctx.cursor, order := s.tnd.order } })) ∧
    (resident s n.toNat = none → w.t < 4 → nextWait s w.t = some w → (s.tclu w.t).res.length < 512 →
      ctxRetired s n.toNat = false → ownMay s {} (ctxAddr n.toNat / 64) = true →
      Claims.ReadsNow s (ctxAddr n.toNat / 64) → Claims.ReadsNow s (ctxAddr n.toNat / 64 + 1) →
      let c := Ctx.of ((readGran s (ctxAddr n.toNat / 64) []).1 ++ (readGran s (ctxAddr n.toNat / 64 + 1) []).1)
      (Desc.of c.dcopy).check = none →
      ∃ t, exec (.streamFillComplete n) s = .next t ∧ t.tnd.wait = s.tnd.wait.filter (fun w => w.stream ≠ n.toNat) ∧
        t.mem = (storeCtx n.toNat { c with state := sRUNNING } s).mem ∧
        resident t n.toNat = some (w.t, { stream := n.toNat, ctx := { c with state := sRUNNING }, dirty := true
                                          run := some { next := c.cursor, order := s.tnd.order } })))

/-- Elements and walks (R188, R191, R192, R215, R238, R242, R256, R259, R260). -/
def Obligations.ElementsIssueAndComplete : Prop :=
  (∀ (s : State) (k : Fin 4) (r : Res) (u : Run) (e : El), Calm s → tndReady s k.val = true → (s.tclu k.val).res = [r] →
    r.ctx.state = sRUNNING → r.run = some u → u.els = [e] → e.st = .want → s.tnd.walks.length < 32 →
    (xlate s r.ctx.asid e.acc.va e.acc.needW false = none → (r.ctx.asid, e.acc.va / 4096) ∉ s.tnd.walks →
      ∃ t, exec (.elementIssue k) s = .next t ∧ t.tnd.walks = s.tnd.walks ++ [(r.ctx.asid, e.acc.va / 4096)] ∧
        (t.tclu k.val).res = [{ r with run := some { u with els := [{ e with st := .walk (e.acc.va / 4096) }] } }] ∧
        t.chans = s.chans ∧ t.mem = s.mem) ∧
    (∀ va m pa, e.acc = .read va m → xlate s r.ctx.asid va false false = some (.ok (.local_ pa)) → r.stream < 2 ^ 18 →
      let c := chanOf pa
      s.cluReady (cluOf c) = true → retiredAt s pa = false → budgetsAdmit s.sec (32 + k.val) r.ctx.cls = true →
      holdsClass s.sec (s.chan c).q r.ctx.cls = false →
      winsOver s c (32 + k.val) r.ctx.cls (portOffers s c ++ tenderOffers s k.val c) = true →
      (s.chan c).q.queue = [] → (s.chan c).q.link = [] → (s.chan c).i.merge = [] →
      ∃ t x, exec (.elementIssue k) s = .next t ∧ (t.chan c).q.queue = [x] ∧ x.src = .tender k.val r.stream e.i ∧ x.op = .read ∧
        x.chunk = pa / 128 ∧ x.need = 1#2 <<< (pa / 64 % 2) ∧ x.cls = r.ctx.cls ∧ x.accepted = s.day.tick ∧ x.entered = s.day.tick ∧
        t.mem = s.mem ∧ tget 0 (t.tclu k.val).turns r.ctx.cls = r.stream ∧ tget 35 t.sec.turn c = 32 + k.val ∧
        t.clk.xbarGated = false ∧
        tget 0 t.sec.out r.ctx.cls = tget 0 s.sec.out r.ctx.cls + 1 ∧ ∀ c', c' ≠ c → t.chan c' = s.chan c')) ∧
  (∀ (s s' : State) (a : BitVec 16) (vpn : Nat), Calm s → (a.toNat, vpn) ∈ s.tnd.walks →
    (∀ x rest r, walkers s a.toNat vpn = x :: rest →
      doWalk (.tender x.1 x.2.1.ctx.cls) a.toNat (vpn * 4096) s = (s', some r) →
      ∃ t, exec (.xlateWalkComplete a vpn) s = .next t ∧ t.tnd.walks = s.tnd.walks.erase (a.toNat, vpn) ∧ t.tnd.tlb = s'.tnd.tlb) ∧
    (walkers s a.toNat vpn = [] →
      exec (.xlateWalkComplete a vpn) s = .next { s with tnd := { s.tnd with walks := s.tnd.walks.erase (a.toNat, vpn) } })) ∧
  (∀ (s : State) (n : BitVec 18) (i c k : Nat) (dn : Done) (r : Res) (u : Run) (e : El), Calm s → doneOf s n.toNat i = some (c, k, dn) →
    dn.how = .performed → dn.e.poisonBits = 0 → dn.e.badRegion = false → dn.e.refused = 0 →
    resident s n.toNat = some (k, r) → r.run = some u → u.els = [e] → e.i = i → e.st = .out → e.ph = .dst →
    (∃ va b p, e.acc = .write va b p) → let d := Desc.of r.ctx.dcopy
    i < d.count →
    ∃ t, exec (.elementApplied n i) s = .next t ∧ (t.chan c).q.done = (s.chan c).q.done.erase dn ∧
      resident t n.toNat = some (k, { r with
        dirty := true, run := some { u with els := [] }
        ctx := r.ctx.applied d i e.skip (if d.op = 8 then !e.skip else true) (e.flags ||| dn.e.flags) }) ∧
      (t.tclu k).elem = (s.tclu k).elem + 1 ∧ (t.tclu k).bytes = (s.tclu k).bytes + e.acc.writes ∧ t.mem = s.mem)

/-- The ends of streams, and contexts (R248, R254, R265, R266, R270, R275, R434). -/
def Obligations.StreamsStopAndEnd : Prop :=
  (∀ (s : State) (n : BitVec 18) (k : Nat) (r : Res) (u : Run), Calm s → resident s n.toNat = some (k, r) → r.run = some u → u.els = [] →
    ctxRetired s n.toNat = false → s.tnd.dbq = [] →
    (r.ctx.state = sSTOPPING → ∃ t, exec (.streamDrainComplete n) s = .next t ∧ t.mem = s.mem ∧
      (∀ f, u.fail = some f → ctxOf t n.toNat = { r.ctx with state := sSTOPPED, cause := f.cause, detail := f.detail }) ∧
      (∀ m, u.fail = none → u.abort = some m →
        ctxOf t n.toNat = { r.ctx with state := sSTOPPED, cause := cABORT, detail := BitVec.ofNat 64 m }) ∧
      (∀ v, u.fail = none → u.abort = none → u.preempt = some v →
        ctxOf t n.toNat = { r.ctx with state := sPREEMPTED, cause := cPREEMPT, detail := BitVec.ofNat 64 (v.1 + v.2 * 2 ^ 18) } ∧
        { stream := n.toNat, t := r.ctx.tcl, cls := r.ctx.cls, preempted := true } ∈ t.tnd.wait)) ∧
    (r.ctx.state = sRUNNING → r.ctx.cursor = (Desc.of r.ctx.dcopy).count →
      ((Desc.of r.ctx.dcopy).op = 6 → u.finDst = true) → ((Desc.of r.ctx.dcopy).res ≠ 0 → u.finRes = true) →
      ∃ t, exec (.finalWritesComplete n) s = .next t ∧ t.mem = s.mem ∧
        ctxOf t n.toNat = { r.ctx with state := sDONE, ahead := 0 })) ∧
  (∀ (s : State) (k : Fin 4) (w : WaitE) (v : Res), nextWait s k.val = some w → 512 ≤ (s.tclu k.val).res.length →
    (∀ r ∈ (s.tclu k.val).res, r.pinned = true) → v ∈ (s.tclu k.val).res → v.ctx.state = sRUNNING → v.ctx.cls < w.cls →
    (∀ r ∈ (s.tclu k.val).res, r.stream ≠ v.stream → r.ctx.state = sSTOPPING ∧ r.run = none) →
    (∀ r ∈ (s.tclu k.val).res, r.stream = v.stream → r = v) →
    exec (.preemption k) s = .next (modRes k.val v.stream (fun r => Res.stopping { r with run := r.run.map (fun u =>
      { u with preempt := some (w.stream, w.cls) }) }) s)) ∧
  (∀ (s : State) (k : Fin 4) (r : Res),
    (s.tclu k.val).res.find? (fun r => !r.pinned && (!r.dirty || ctxRetired s r.stream || ownMay s {} (ctxAddr r.stream / 64))) = some r →
    let s' := s.modTclu k.val (fun u => { u with res := u.res.filter (fun e => e.stream ≠ r.stream) })
    exec (.contextEvict k) s = .next (if r.dirty = true then storeCtx r.stream r.ctx s' else s')) ∧
  (∀ s : State, Calm s → s.tenderPart = true → s.domOn 48 = true → s.tnd.scan = true → clustersSettled s = true → s.kpr.st = .run →
    (∃ t, exec .contextScan s = .next t ∧ t.tnd.scan = false ∧ xlReady t = true ∧ ∀ k < 4, s.domOn (44 + k) = true → tndReady t k = true) ∧
    (∀ n, listedStreams s = [n] → (storedCtx s n).state = sRUNNING ∨ (storedCtx s n).state = sSTOPPING → ctxRetired s n = false →
      s.cluReady (ctxClu n) = true → ∃ t, exec .contextScan s = .next t ∧
        t.mem = (storeCtx n { storedCtx s n with state := sUNUSABLE, cause := cLOST, detail := 0 } s).mem)) ∧
  (∀ s : State, Calm s → s.tenderPart = true → s.domOn 48 = true → s.tnd.scan = false →
    ∃ t, exec .contextWriteComplete s = .next t ∧ t.tnd.written = s.tnd.written ||| s.ready.extractLsb' 0 8 ∧
      (clustersSettled s = true → xlReady t = true))

/-! ### Keeper and Renjan (R300 to R331) -/

/-- How Keeper takes a command (R312, R313, R315 to R318). -/
def Obligations.KeeperTakesCommands : Prop :=
  ∀ (s : State) (m : Mb), ∀ row ∈ Claims.mailboxRows m, Calm s → nextMbx s = some m.val → (s.mbx m.val).cmd = row.2 →
    let x := s.mbx m.val
    exec .keeperTake s = exec row.1 s ∧ ∀ i ∈ [Instr.keeperTake, row.1],
    (∀ st w, formCheck s m.val x = some (st, w) → ∃ t, exec i s = .next t ∧ (t.mbx m.val).st = .done ∧
      (t.mbx m.val).cmd = x.cmd ∧ (t.mbx m.val).tag = x.tag ∧ (t.mbx m.val).status = BitVec.ofNat 8 st ∧
      (t.mbx m.val).seq = x.seq + 1 ∧ (t.mbx m.val).len = BitVec.ofNat 6 w.length ∧ (∀ i < w.length, (t.mbx m.val).q i = w.getD i 0) ∧
      (∀ j, j ≠ m.val → t.mbx j = s.mbx j) ∧ t = { s with kpr := t.kpr, pcie := t.pcie, bcn := t.bcn }) ∧
    (formCheck s m.val x = none → atOnce row.2.toNat = false → ∃ t, exec i s = .next t ∧
      t.mbx m.val = { x with st := .busy, superseded := false, wait := some .boundary } ∧
      t.kpr.staged = s.kpr.staged ++ [{ mb := m.val, req := x }] ∧ (∀ j, j ≠ m.val → t.mbx j = s.mbx j) ∧
      (row.2 = 0x0901 → t.snap.req = true) ∧ (row.2 = 0x0B03 → s.ls.on = true → t.ls.exitStaged = true) ∧
      t = { s with kpr := t.kpr, snap := t.snap, ls := t.ls }) ∧
    (formCheck s m.val x = none → atOnce row.2.toNat = true →
      exec i s = .next (settle s (finishCmd m.val (decideCmd (some m.val) [] x (Claims.taken s m.val)))))

/-- What deciding the commands comes to (R155, R316, R320 to R330). -/
def Obligations.RenjanCommandsDecide : Prop :=
  (∀ (s s' : State) (y : Staged) (st : Nat) (w : List Word32), s.tnd.dbq = [] → s.kpr.staged = [y] → y.dropped = false →
    (cmdWaits s y.req = true → stagedCmds s = s) ∧
    (cmdWaits s y.req = false → decideCmd (some y.mb) [] y.req { s with kpr := { s.kpr with staged := [] } } = (s', some (st, w)) →
      stagedCmds s = respond y.mb st w false s')) ∧
  ∀ (s : State) (m : Option Nat) (x : Mbx), let q := x.q
    (x.cmd = 0x0102 → relayAny s = false → relayTraffic s = false →
      decideCmd m [] x s = ({ s with stackId := (q 0).extractLsb' 0 12 }, some (0, []))) ∧
    (x.cmd = 0x0202 → (decideCmd m [] x s).2 = some (0, []) ∧ (∀ p < 32, (q 0).getLsbD p = true →
        (((decideCmd m [] x s).1.port p).fr.fMgr = true)) ∧
      ∀ p, (q 0).getLsbD p = false → (decideCmd m [] x s).1.port p = s.port p) ∧
    (x.cmd = 0x0203 → (∃ p < 32, (q 0).getLsbD p = true ∧ (s.port p).link.lstate ≠ .active) → decideCmd m [] x s = (s, some (5, []))) ∧
    (x.cmd = 0x0204 → (q 1).getLsbD 0 = true → s.stackId = 0xFFF → decideCmd m [] x s = (s, some (5, []))) ∧
    (x.cmd = 0x0301 → let k := bitsOf (q 0) 0 3
      s.ls.on = false → s.cluReady k = true → (decideCmd m [] x s).2 = none ∧
        ((decideCmd m [] x s).1.clu k).mgrTarget = bitsOf (q 0) 4 2) ∧
    (x.cmd = 0x0302 → (q 0).getLsbD 8 = false → s.ls.on = false → (decideCmd m [] x s).1.cluReady (bitsOf (q 0) 0 3) = false) ∧
    (x.cmd = 0x0401 → s.ready.extractLsb' 0 8 ≠ 0 → (∀ c < 7, bitsOf (q 0) (3 * c) 3 ≤ 5) →
      (liveCounts s).1 < (List.range 7).foldl (fun n c => n + bitsOf (q 0) (3 * c) 3) 1 → decideCmd m [] x s = (s, some (6, []))) ∧
    (x.cmd = 0x0501 → let n := bitsOf (q 0) 0 18
      streamReady s n = true → bitsOf (q 3) 16 3 ≠ 7 → ((q 1).toNat + bitsOf (q 2) 0 16 * 2 ^ 32) % 64 = 0 →
        (ctxOf s n).state ≠ sFREE → decideCmd m [] x s = (s, some (5, []))) ∧
    (x.cmd = 0x0502 → let n := bitsOf (q 0) 0 18
      streamReady s n = true → (ctxOf s n).state ∈ [sFREE, sQUEUED, sRUNNING, sSTOPPING, sPREEMPTED] →
        decideCmd m [] x s = (s, some (5, []))) ∧
    (x.cmd = 0x0509 → let n := bitsOf (q 0) 0 6
      (tget none s.regions n).isSome = true → bitsOf (q 3) 0 25 ≠ 0 → -1074 ≤ ((q 4).extractLsb' 0 12).toInt →
        ((q 4).extractLsb' 0 12).toInt ≤ 1023 →
        (q 1).toNat + bitsOf (q 2) 0 5 * 2 ^ 32 + 4096 * bitsOf (q 3) 0 25 ≤ hvTopOf s → decideCmd m [] x s = (s, some (5, []))) ∧
    (x.cmd = 0x050A → (tget none s.regions (bitsOf (q 0) 0 6)).isSome = true →
      decideCmd m [] x s = ({ s with regions := tset s.regions (bitsOf (q 0) 0 6) none }, some (0, []))) ∧
    (x.cmd = 0x0604 → s.cluReady (cluOf (bitsOf (q 0) 0 5)) = true → q 1 ≠ 0xA55A → decideCmd m [] x s = (s, some (2, []))) ∧
    (x.cmd = 0x0703 → 64 ≤ bitsOf (q 0) 0 16 →
      decideCmd m [] x s = ({ s with lan := { s.lan with grace := bitsOf (q 0) 0 16 } }, some (0, []))) ∧
    (x.cmd = 0x0803 → s.ll.life ≠ 2 →
      decideCmd m [] x s = ({ s with wch := { s.wch with group := bitsOf (q 0) 0 10, en := (q 0).getLsbD 10 } }, some (0, []))) ∧
    (x.cmd = 0x0607 → bitsOf (q 0) 0 8 = 0 → fuseCount (q 0) ≠ 0 → bitsOf (q 0) 8 16 + fuseCount (q 0) ≤ 8 → s.ll.life ≠ 0 →
      decideCmd m [] x s = (s, some (7, [2]))) ∧
    (x.cmd = 0x0A02 → bitsOf (q 0) 0 2 ≠ s.ll.life + 1 → decideCmd m [] x s = (s, some (2, []))) ∧
    (x.cmd = 0x0A03 → decideCmd m [] x s = ({ s with kpr := { s.kpr with resetDue := some .manager } }, some (0, []))) ∧
    (x.cmd = 0x0B01 → bitsOf (q 0) 0 4 = 0 → bitsOf (q 0) 8 8 < 32 → bitsOf (q 0) 16 8 ≠ 0 →
      decideCmd m [] x s = ({ s with flt := { s.flt with inj := some {
        checker := 0, unit := bitsOf (q 0) 8 8, two := (q 0).getLsbD 24, remaining := bitsOf (q 0) 16 8, decided := s.day.tick } } },
        some (0, []))) ∧
    (x.cmd = 0x0B02 → s.flt.pulse = false →
      decideCmd m [] x s = ({ s with flt := { s.flt with drive := (q 0).getLsbD 0, driveHeld := true } }, some (0, []))) ∧
    (x.cmd = 0x0B03 → s.ls.on = false → (decideCmd m [] x s).2 = some (5, [0]))

/-- R303: an uncorrectable error in Keeper's SRAM. -/
def Obligations.SramUncorrectableResetsKeeper : Prop :=
  ∀ (s : State) (m : Fin 16) (w : BitVec 12) (i : Instr), Calm s → keeperOn s = true →
    (i = .keeperCoreSramRead m w .ue ∧ s.kpr.st ≠ .reset) ∨
      (∃ errs, i = .sramScrubRead w errs ∧ w.toNat = s.kpr.scrub ∧ s.kpr.scrubbed < 8 ∧ errs.getD m.val .clean = .ue ∧ (∀ j, j ≠ m.val → errs.getD j .clean = .clean) ∧
        ∀ j < 16, injArmed s 1 j = none) →
    ∃ t, exec i s = .next t ∧ t.kpr.st = .reset ∧ t.kpr.cause = .sramUe ∧ t.kpr.injected = false ∧ t.kpr.sramUe = satInc s.kpr.sramUe ∧
      ((s.kpr.remapOf m.val).length < 8 → w.toNat ∈ t.kpr.remapOf m.val) ∧ t.flt.src.getLsbD 27 = true ∧
      (s.kpr.handling = false → tget 0 t.flt.cnt 2 = satInc (tget 0 s.flt.cnt 2) ∧ t.ports = s.ports ∧ t.chans = s.chans ∧
        t.mem = s.mem ∧ t.chk = s.chk ∧ t.tnd = s.tnd)

/-- R37: pending RT values. -/
def Obligations.PendingValuesOutliveKeeper : Prop :=
  (∀ (s : State) (m : Fin 16) (w : BitVec 12), ∃ t, exec (.keeperCoreSramRead m w .ue) s = .next t ∧ t.staged = s.staged) ∧
  (∀ s : State, ∃ t, exec .watchdog s = .next t ∧ t.staged = s.staged) ∧
  (∀ (s : State) (k : Kpr) (w : BitVec 16), applyStaged { s with kpr := k, ready := w } = { applyStaged s with kpr := k, ready := w }) ∧
  (∀ (s : State) (v : Word32), s.pwr.held = false → s.staged = [(0x140, v)] →
    ∃ t, exec .tickBoundary s = .next t ∧ t.day.scrubChunks = bitsOf v 0 5 ∧ t.day.tsvBistEn = v.getLsbD 8 ∧
      t.day.laneBistEn = v.getLsbD 9) ∧
  (∀ s : State, s.pwr.resetting = true → allAsleep s = true →
    ∃ t, exec .stackResetDomainsOff s = .next t ∧ t.staged = [])

/-- Faults, Keeper's failures, Foghorn and the references (R3, R29, R45, R301, R302, R304, R306, R355 to R366, R462). -/
def Obligations.FaultsAndKeeperFailuresReact : Prop :=
  (∀ (s : State) (src : Fin 56) (inst : BitVec 8) (info : BitVec 64), Calm s → src.val < 48 → inst.toNat < faultInst src.val →
    (s.tenderPart = false → absentSrc src.val inst.toNat = true → exec (.faultEvent src inst info) s = .next s) ∧
    (s.tenderPart = true ∨ absentSrc src.val inst.toNat = false → src.val ∉ [6, 7, 8, 23, 25, 44] → classOf src.val info ≠ .c3 →
    ∃ t, exec (.faultEvent src inst info) s = .next t ∧ t.flt.src = s.flt.src ||| (1#56 <<< src.val) ∧
      t.flt.cnt = tset s.flt.cnt (classOf src.val info).rank (satInc (tget 0 s.flt.cnt (classOf src.val info).rank)) ∧
      (classOf src.val info = .c2 → s.flt.cap = none →
        ∃ c, t.flt.cap = some c ∧ c.src = src.val ∧ c.inst = inst.toNat ∧ c.cls = .c2 ∧ c.ts = s.day.ts) ∧
      t.ports = s.ports ∧ t.chans = s.chans ∧ t.mem = s.mem)) ∧
  (∀ s : State, Calm s → watchdogDue s = true →
    ∃ t, exec .watchdog s = .next t ∧ t.kpr.st = .reset ∧ t.kpr.cause = .watchdog ∧ t.kpr.wdLast = s.day.tick ∧
      t.kpr.wdAny = true ∧ t.flt.src.getLsbD 28 = true ∧
      (s.kpr.wdAny = true → s.day.tick ≤ s.kpr.wdLast + 488282 → s.kpr.handling = false → s.ls.exitStaged = false →
        t.ls.on = true ∧ t.ls.cause = 4)) ∧
  (∀ s : State, Calm s → keeperOn s = true → s.kpr.st = .boot → s.kpr.patchActive = false → s.ll.bootHold = false →
    ∃ t, exec .keeperRun s = .next t ∧ t.kpr.st = .run ∧ t.kpr.runFrom = s.day.tick ∧ t.ready.getLsbD 13 = true ∧ t.mem = s.mem) ∧
  (∀ s : State, s.kpr.st = .run → s.kpr.runFrom + 488282 ≤ s.day.tick →
    exec .lightshipCause4Clear s = .next { s with ls := { s.ls with c4 := false } }) ∧
  (∀ (s : State) (w : BitVec 12), Calm s → s.domOn 1 = true → (∀ j < 16, injArmed s 1 j = none) →
    (w.toNat = s.kpr.scrub → s.kpr.scrubbed < 8 →
      ∃ t, exec (.sramScrubRead w []) s = .next t ∧ t = { s with kpr := t.kpr } ∧ t.kpr.scrub = (w.toNat + 1) % 4096 ∧
        t.kpr.scrubbed = s.kpr.scrubbed + 1 ∧ (∀ j < 16, (j, w.toNat) ∉ t.kpr.suspect)) ∧
    (w.toNat ≠ s.kpr.scrub ∨ 8 ≤ s.kpr.scrubbed → exec (.sramScrubRead w []) s = .next s)) ∧
  (∀ s : State, s.flt.pulse = true → ∃ t, exec .foghornPulseEnd s = .next t ∧ t = { s with flt := t.flt } ∧ t.flt.pulse = false) ∧
  (∀ (s : State) (b : Bool), exec (.fhNLevel b) s = .next { s with flt := { s.flt with extLow := b } }) ∧
  (∀ s : State, ∃ t, exec .refclkReturn s = .next t ∧
    t = { s with clk := { s.clk with refclk := true, frameFrom := s.day.tick, quadFrom := t.clk.quadFrom } } ∧
    ∀ q < 4, s.day.tick ≤ tget 0 t.clk.quadFrom q) ∧
  (∀ s : State, Calm s → s.clk.refclk = true → s.ls.exitStaged = false →
    ∃ t, exec .clkRef s = .next t ∧ t.clk.refclk = false ∧ t.flt.src.getLsbD 39 = true ∧ t.ls.on = true ∧ t.ls.cause = 2) ∧
  (∀ s : State, Calm s → s.clk.mgref = true →
    ∃ t, exec .clkMgref s = .next t ∧ t.clk.mgref = false ∧ t.flt.src.getLsbD 40 = true ∧ t.pcie.linkUp = false ∧ t.pcie.bme = false ∧
      t.mem = s.mem)

/-! ### Lantern and Beacon (R332 to R353, R377 to R394) -/

/-- Lantern and the pins (R146, R326, R345, R348, R378, R379, R384, R385, R387, R426). -/
def Obligations.LanternAndPinsAct : Prop :=
  (∀ (s : State) (r : LanRound), Calm s → s.pwr.held = false → s.day.tick ≠ 0 → s.day.tick % 64 = 0 →
    (s.lan.published = true → s.lan.pubTick ≠ s.day.tick) →
    ∃ t, exec (.lanternPublish r) s = .next t ∧ t.lan.published = true ∧ t.lan.pubTick = s.day.tick ∧
      t.lan.round = s.day.tick / 64 - 1 ∧ t.lan.rounds = s.lan.rounds + 1 ∧ t.lan.due = true ∧ t.ready.getLsbD 15 = true ∧
      (∀ i < 64, t.lan.failDie.getLsbD i = (s.lan.failDie.getLsbD i || !validTemp (r.die.getD i none))) ∧
      ∀ i < 12, t.lan.failBase.getLsbD i = (s.lan.failBase.getLsbD i || !validTemp (r.base.getD i none))) ∧
  (∀ (s : State) (e : Nat), Calm s → s.lan.graceEnd = some e → e ≤ s.day.tick →
    ∃ t, exec .graceEnd s = .next t ∧ t.lan.graceEnd = none ∧ t.lan.enforcing = true ∧ t.lan.level = max 1 (kOf s.lan.dieMax) ∧
      t.sec.k = t.lan.k ∧ t.mem = s.mem ∧ t.chk = s.chk ∧ t.ports = s.ports) ∧
  (∀ (s : State) (o : Ovr) (e : Nat), Calm s → s.lan.ovr = some o → o.ends = some e → e ≤ s.day.tick →
    ∃ t, exec .overrideEnd s = .next t ∧ t.lan.ovr = none ∧ t.sec.k = t.lan.k ∧ t.lan.rate = s.lan.doubled ∧ t.lan.doubled = s.lan.doubled ∧
      t.mem = s.mem ∧ t.chk = s.chk ∧ t.ports = s.ports) ∧
  (∀ (s : State) (d : DieId), Calm s →
    (s.lan.cooled (s.day.tick + 1) d.val = true →
      exec (.refreshRateReturn d) s = .next { s with lan := { s.lan with returning := s.lan.returning ||| (1#16 <<< d.val) } }) ∧
    (s.lan.cooled (s.day.tick + 1) d.val = false → exec (.refreshRateReturn d) s = .next s) ∧
    (s.lan.returning.getLsbD d.val = true → (lanReturn s).1.lan.doubled.getLsbD d.val = false) ∧
    (∀ own, s.lan.ovr = none → (setRates own s).lan.rate = s.lan.doubled ∧
      (s.lan.rate ≠ s.lan.doubled → ∀ c < 32, s.cluReady (cluOf c) = true → ((setRates own s).chan c).q.doubled = s.lan.doubled))) ∧
  (∀ (s : State) (l : List Bool),
    (let p := l.foldl (filterStep 25) (s.lan.trip, s.lan.tripRun)
      ∃ t, exec (.tripN l) s = .next t ∧ t = { s with lan := { s.lan with trip := p.1, tripRun := p.2 }, bcn := t.bcn } ∧
        (p.1 ≠ s.lan.trip → (t.bcn.src 0).active = p.1)) ∧
    (let p := l.foldl (filterStep 25) (s.pwr.srLow, s.pwr.srRun)
      ∃ t, exec (.srN l) s = .next t ∧ t = { s with pwr := { s.pwr with srLow := p.1, srRun := p.2 }, bcn := t.bcn } ∧
        (p.1 ≠ s.pwr.srLow → (t.bcn.src 1).active = p.1 ∧ min ((s.bcn.src 1).edges + 1) 255 ≤ (t.bcn.src 1).edges))) ∧
  (∀ (n k : Nat) (old low : Bool), old ≠ low → k < 25 →
    ((List.replicate n low).foldl (filterStep 25) (old, k)).1 = if 25 ≤ k + n then low else old)

/-- Records and quench (R333, R335, R337, R338, R340, R347). -/
def Obligations.RecordsLeaveAndQuench : Prop :=
  (∀ (s : State) (fast : Bool) (x : Rec) (rest : List Rec), canWrite s fast = true → (fast = false → canWrite s true = false) →
    (s.bcn.ring fast).queue = x :: rest → let r := s.bcn.ring fast
    ∃ t l, exec (.beaconRecordWrite fast) s = .next t ∧ t = { s with bcn := t.bcn, pcie := t.pcie } ∧
      t.bcn.ring fast = { r with queue := rest, head := r.head + 1, written := r.written + 1, lostMark := false } ∧
      t.bcn.ring (!fast) = s.bcn.ring (!fast) ∧
      t.pcie.out = s.pcie.out ++ [.write (r.base + BitVec.ofNat 64 (32 * (r.head.toNat % r.size)))
        (recBytes { x with lostBefore := x.lostBefore || r.lostMark })] ++ l) ∧
  (∀ (s : State) (l : Fin 13), 1024 ≤ (s.bcn.src l.val).count → (s.bcn.src l.val).quenched = false →
    lsrcOf l.val ∉ s.bcn.masked →
    ∃ t, exec (.quench l) s = .next t ∧ t = { s with bcn := t.bcn } ∧ (t.bcn.src l.val).quenched = true ∧
      t.bcn.masked = lsrcOf l.val :: s.bcn.masked)

/-! ### The Light list (R395 to R418) -/

/-- The Light list at work (R398, R401 to R403, R407 to R410, R416). -/
def Obligations.FusesAreSensedAndBurned : Prop :=
  (∀ (s : State) (r : List FuseRead), Calm s → s.pwr.held = false → s.ll.accepted = false → s.ll.hold = 0 →
    let l := (observe (fun b => decide (b = 0)) r s.ll).decide 0
    (l.st 0 = .sealed ∨ l.st 0 = .locked → l.variant = 1 ∨ l.variant = 2 → ∃ t, exec (.bank0Sense r) s = .next t ∧
      t.ll.accepted = true ∧ t.ll.hold = 0 ∧ t.tenderPart = decide (l.variant = 1) ∧ t.ll.life = lifeOf (l.normal 0 7) ∧
      t.ll.st 0 = l.st 0 ∧ t.mem = s.mem) ∧
    (l.st 0 = .blank → ∃ t, exec (.bank0Sense r) s = .next t ∧ t.ll.accepted = false ∧ t.ll.hold = 3 ∧ t = { s with ll := t.ll })) ∧
  (∀ (s : State) (r : List FuseRead), Calm s → s.ll.accepted = true → s.ready.getLsbD 14 = false →
    ∃ t, exec (.bulkSense r) s = .next t ∧ t.ready.getLsbD 14 = true ∧ t.mem = s.mem ∧
      ∀ b, 1 ≤ b → b ≤ 128 → t.ll.st b = (observe (fun b => decide (b ≠ 0)) r s.ll).sense b) ∧
  (∀ s : State, s.kpr.st = .run → s.ready.getLsbD 14 = true → s.ll.pass = false → s.day.tick % 2 ^ 20 = 0 → 0 < s.day.tick →
    exec .resensePassStart s = .next { s with ll := { s.ll with
      pass := true, passStart := s.day.tick, reBank := 1, reWord := 0, reMargin := false } }) ∧
  (∀ (s : State), Calm s → reading s = true → bankSize s.ll.reBank ≤ s.ll.reWord → injArmed s 4 s.ll.reBank = none →
    let b := s.ll.reBank
    ((∀ w < bankSize b, s.ll.normal b w = s.ll.sh b w ∧ s.ll.normal b w = s.ll.marginal b w) →
      (s.ll.st b = .sealed ∨ s.ll.st b = .locked → s.ll.sealNormal b = true) →
      (b ≠ 0 → exec (.resenseBankEnd []) s = .next { s with ll := { s.ll with
        reBank := if b = 128 then 0 else b + 1, reWord := 0, reMargin := false } }) ∧
      (b = 0 → exec (.resenseBankEnd []) s = .next { s with ll := { s.ll with
        pass := false, passes := s.ll.passes + 1, passTicks := s.day.tick - s.ll.passStart, reBank := 1, reWord := 0
        reMargin := false } })) ∧
    (b ≠ 0 → s.ll.st b = .sealed ∨ s.ll.st b = .locked → s.ll.sealNormal b = false → s.ll.sealMargin b = false →
      ∃ t, exec (.resenseBankEnd []) s = .next t ∧ t.ll.st b = .withdrawn ∧ t.flt.src.getLsbD 31 = true)) ∧
  (∀ s : State, Calm s →
    (s.ll.accepted = false ∨ sealValid 0 (s.ll.sh 0) = true → exec .criticalShadowCheck s = .next s) ∧
    (s.ll.accepted = true → sealValid 0 (s.ll.sh 0) = false → s.ls.exitStaged = false →
      ∃ t, exec .criticalShadowCheck s = .next t ∧ t.flt.src.getLsbD 33 = true ∧ t.ls.on = true ∧ t.ls.cause = 2)) ∧
  (∀ (s : State) (u : Burn) (w : Nat) (bits : BitVec 64) (rest : List (Nat × BitVec 64)), Calm s → s.ll.burn = some u →
    u.todo = (w, bits) :: rest →
    ∃ t, exec (.fuseBurnComplete true) s = .next t ∧ t.ll.normal u.bank w = s.ll.normal u.bank w ||| bits ∧
      t.ll.marginal u.bank w &&& bits = bits ∧ t.mem = (if rest = [] ∧ u.kind = .mark then t.mem else s.mem) ∧
      (rest ≠ [] → ∃ u', t.ll.burn = some u' ∧ u'.todo = rest ∧ u'.failed = u.failed) ∧
      (rest = [] → u.kind = .program → u.failed = none → t.ll.burn = none ∧ (t.mbx u.mb).st = .done ∧ (t.mbx u.mb).status = 0))

/-! ### The block as a whole -/

/-- A step of the block (R26, R27, R29, R45; the idle step is the model's choice, log entry 12). -/
def Obligations.StepRunsFrontCommand : Prop :=
  (∀ (s : State) (c : Instr) (rest : List Instr), s.pending = c :: rest → step s = exec c { s with pending := rest }) ∧
  (∀ s : State, s.pending = [] →
    (s.pwr.held = false → s.day.cyc < s.day.len →
      step s = .next { s with
        day := { s.day with cyc := s.day.cyc + 1, ts := s.day.ts + s.day.perCycle }
        clk := if (List.range 32).all (fun c => (s.chan c).q.link.isEmpty && (s.chan c).q.done.isEmpty) = true then { s.clk with xbarGated := true }
          else s.clk }) ∧
    (s.pwr.held = true ∨ s.day.len ≤ s.day.cyc → step s = .next s))

/-- The canonical form of memory is an invariant of every step, and a step takes one command. -/
def Obligations.EveryStepKeepsMemoryForm : Prop :=
  ∀ s t : State, Inv s → step s = .next t → Inv t ∧ t.pending = s.pending.tail

/-- The state right after reset (R28, R62, R71, R306, R312, R357, R362, R384, R421, R427). -/
def Obligations.ResetStateIsAsSpecified : Prop :=
  let s := State.reset
  Inv s ∧ s.mem = [] ∧ s.day.tick = 0 ∧ s.day.ts = 0 ∧ s.ready = 0 ∧ (∀ n, s.domOn n = false) ∧
    (∀ p, (s.port p).link.lstate = .off) ∧ s.stackId = 0xFFF ∧ s.sec.k = 0 ∧ s.lan.doubled = 0xFFFF ∧ s.flt.src = 0 ∧
    s.flt.cap = none ∧ s.flt.drive = false ∧ s.kpr.st = .reset ∧ (∀ m, (s.mbx m).st = .idle) ∧ s.ls.on = false ∧ s.pending = []
end

