-- ==== Sys2Proof/Laws/Tab.lean ====
section
/-! SUPPORT. Sparse tables: what a read answers after a write. They hold of any list, sorted or not. -/

namespace Sys2Proof.Machine

@[simp] theorem tget_tset_same {α : Type} (d : α) (t : List (Nat × α)) (k : Nat) (v : α) :
    tget d (tset t k v) k = v := by
  induction t with
  | nil => simp [tset, tget]
  | cons y t ih =>
    obtain ⟨j, w⟩ := y
    simp only [tset]
    split
    · simp [tget]
    · split
      · simp [tget]
      · simp_all [tget]

theorem tget_tset_ne {α : Type} (d : α) (t : List (Nat × α)) (k j : Nat) (v : α) (h : j ≠ k) :
    tget d (tset t k v) j = tget d t j := by
  induction t with
  | nil => simp [tset, tget, h]
  | cons y t ih =>
    obtain ⟨i, w⟩ := y
    simp only [tset]
    split
    · rename_i hk; subst hk; simp [tget, h]
    · split
      · simp only [tget, h, if_false]
        by_cases hjk : j < k
        · have : j < i := by omega
          have : j ≠ i := by omega
          simp [*]
        · simp [hjk]
      · simp only [tget, ih]

theorem tget_tset {α : Type} (d : α) (t : List (Nat × α)) (k j : Nat) (v : α) :
    tget d (tset t k v) j = if j = k then v else tget d t j := by
  by_cases h : j = k
  · simp [h]
  · simp [h, tget_tset_ne]

@[simp] theorem tset_tset {α : Type} (t : List (Nat × α)) (k : Nat) (v w : α) :
    tset (tset t k v) k w = tset t k w := by
  induction t with
  | nil => simp [tset]
  | cons y t ih =>
    obtain ⟨j, u⟩ := y
    simp only [tset]
    split
    · simp [tset]
    · split
      · simp [tset]
      · simp_all [tset]

@[simp] theorem tget_tmod_same {α : Type} (d : α) (t : List (Nat × α)) (k : Nat) (f : α → α) :
    tget d (tmod d t k f) k = f (tget d t k) := by simp [tmod]

theorem tget_tmod_ne {α : Type} (d : α) (t : List (Nat × α)) (k j : Nat) (f : α → α) (h : j ≠ k) :
    tget d (tmod d t k f) j = tget d t j := by simp [tmod, tget_tset_ne, h]

theorem tget_tmod {α : Type} (d : α) (t : List (Nat × α)) (k j : Nat) (f : α → α) :
    tget d (tmod d t k f) j = if j = k then f (tget d t k) else tget d t j := by
  simp [tmod, tget_tset]

@[simp] theorem tmod_tmod {α : Type} (d : α) (t : List (Nat × α)) (k : Nat) (f g : α → α) :
    tmod d (tmod d t k f) k g = tmod d t k (fun x => g (f x)) := by simp [tmod]

end Sys2Proof.Machine
end

