-- ==== Sys2Proof/Laws/Memory.lean ====
section
/-! SUPPORT. The cells of the dies: every memory operation keeps the canonical form, a read after a write gives the value
written, and a write leaves every other cell alone. -/

namespace Sys2Proof.Machine

/-- The canonical form, cell by cell. -/
theorem cellsWf_cons (k : Nat) (v : BitVec 8) (t : List Host.Cell) :
    cellsWf ((k, v) :: t) = true ↔ v ≠ 0 ∧ (∀ x ∈ t, k < x.1) ∧ cellsWf t = true := by
  induction t generalizing k v with
  | nil => simp [cellsWf]
  | cons y t ih =>
    obtain ⟨j, w⟩ := y
    rw [cellsWf, Bool.and_eq_true, Bool.and_eq_true, ih j w]
    simp only [bne_iff_ne, decide_eq_true_eq, List.mem_cons, forall_eq_or_imp]
    constructor
    · rintro ⟨⟨hv, hj⟩, hw, hlt, ht⟩
      exact ⟨hv, ⟨hj, fun x hx => lt_trans hj (hlt x hx)⟩, hw, hlt, ht⟩
    · rintro ⟨hv, ⟨hj, _⟩, hw, hlt, ht⟩
      exact ⟨⟨hv, hj⟩, hw, hlt, ht⟩

/-- The keys of a table after a write. -/
theorem mem_tset {α : Type} (t : List (Nat × α)) (k : Nat) (v : α) (x : Nat × α) :
    x ∈ tset t k v → x = (k, v) ∨ x ∈ t := by
  induction t with
  | nil => simp [tset]
  | cons y t ih =>
    obtain ⟨j, w⟩ := y
    simp only [tset]
    split
    · intro h; rcases List.mem_cons.1 h with h | h
      · exact .inl h
      · exact .inr (List.mem_cons_of_mem _ h)
    · split
      · intro h; rcases List.mem_cons.1 h with h | h
        · exact .inl h
        · exact .inr h
      · intro h; rcases List.mem_cons.1 h with h | h
        · exact .inr (h ▸ List.mem_cons_self)
        · rcases ih h with h | h
          · exact .inl h
          · exact .inr (List.mem_cons_of_mem _ h)

/-- The cells after an erasure are cells of before. -/
theorem mem_cellErase (t : List Host.Cell) (k : Nat) (x : Host.Cell) : x ∈ cellErase t k → x ∈ t := by
  induction t with
  | nil => simp [cellErase]
  | cons y t ih =>
    obtain ⟨j, w⟩ := y
    simp only [cellErase]
    split
    · exact List.mem_cons_of_mem _
    · split
      · exact id
      · intro h; rcases List.mem_cons.1 h with h | h
        · exact h ▸ List.mem_cons_self
        · exact List.mem_cons_of_mem _ (ih h)

theorem cellsWf_tset (t : List Host.Cell) (k : Nat) (v : BitVec 8) (hv : v ≠ 0) (h : cellsWf t = true) :
    cellsWf (tset t k v) = true := by
  induction t with
  | nil => simpa [tset, cellsWf] using hv
  | cons y t ih =>
    obtain ⟨j, w⟩ := y
    obtain ⟨hw, hlt, ht⟩ := (cellsWf_cons j w t).1 h
    simp only [tset]
    split
    · rename_i hk; subst hk; exact (cellsWf_cons _ _ _).2 ⟨hv, hlt, ht⟩
    · split
      · rename_i hkj
        refine (cellsWf_cons _ _ _).2 ⟨hv, fun x hx => ?_, h⟩
        rcases List.mem_cons.1 hx with hx | hx
        · subst hx; exact hkj
        · exact lt_trans hkj (hlt x hx)
      · refine (cellsWf_cons _ _ _).2 ⟨hw, fun x hx => ?_, ih ht⟩
        rcases mem_tset _ _ _ _ hx with hx | hx
        · subst hx; simp only; omega
        · exact hlt x hx

theorem cellsWf_cellErase (t : List Host.Cell) (k : Nat) (h : cellsWf t = true) : cellsWf (cellErase t k) = true := by
  induction t with
  | nil => simpa [cellErase] using h
  | cons y t ih =>
    obtain ⟨j, w⟩ := y
    obtain ⟨hw, hlt, ht⟩ := (cellsWf_cons j w t).1 h
    simp only [cellErase]
    split
    · exact ht
    · split
      · exact h
      · exact (cellsWf_cons _ _ _).2 ⟨hw, fun x hx => hlt x (mem_cellErase _ _ _ hx), ih ht⟩

/-- A write of one byte keeps the canonical form. -/
theorem cellsWf_cellPut (t : List Host.Cell) (k : Nat) (v : BitVec 8) (h : cellsWf t = true) :
    cellsWf (cellPut t k v) = true := by
  unfold cellPut
  split
  · exact cellsWf_cellErase t k h
  · exact cellsWf_tset t k v ‹_› h

/-- A write of consecutive bytes keeps the canonical form. -/
theorem cellsWf_cellsPut (l : List (BitVec 8)) (t : List Host.Cell) (k : Nat) (h : cellsWf t = true) :
    cellsWf (cellsPut t k l) = true := by
  induction l generalizing t k with
  | nil => exact h
  | cons b l ih => exact ih _ _ (cellsWf_cellPut t k b h)

/-- No cell stands below the first of a list in canonical form. -/
theorem cellGet_below (t : List Host.Cell) (k : Nat) (h : ∀ x ∈ t, k < x.1) : cellGet t k = 0 := by
  cases t with
  | nil => simp [cellGet, tget]
  | cons y t =>
    obtain ⟨j, w⟩ := y
    have : k < j := h (j, w) List.mem_cons_self
    have : k ≠ j := by omega
    simp [cellGet, tget, *]

theorem cellGet_cellErase (t : List Host.Cell) (k j : Nat) (h : cellsWf t = true) :
    cellGet (cellErase t k) j = if j = k then 0 else cellGet t j := by
  induction t with
  | nil => simp [cellErase, cellGet, tget]
  | cons y t ih =>
    obtain ⟨i, w⟩ := y
    obtain ⟨hw, hlt, ht⟩ := (cellsWf_cons i w t).1 h
    simp only [cellErase]
    split
    · rename_i hk; subst hk
      split
      · rename_i hj; subst hj; exact cellGet_below t j hlt
      · rename_i hj
        by_cases hji : j < k
        · rw [cellGet_below t j (fun x hx => lt_trans hji (hlt x hx))]
          simp [cellGet, tget, hj, hji]
        · simp [cellGet, tget, hj, hji]
    · split
      · split
        · rename_i hj; subst hj
          exact cellGet_below _ j (fun x hx => by
            rcases List.mem_cons.1 hx with hx | hx
            · subst hx; assumption
            · exact lt_trans ‹_› (hlt x hx))
        · rfl
      · rename_i hk hki
        by_cases hji : j = i
        · subst hji; simp [cellGet, tget, Ne.symm hk]
        · by_cases hlt' : j < i
          · have : ¬ j = k := by omega
            simp [cellGet, tget, hji, hlt', this]
          · have := ih ht
            simp only [cellGet, tget, hji, hlt', if_false] at this ⊢
            exact this

/-- A read after a write of one byte. -/
theorem cellGet_cellPut (t : List Host.Cell) (k j : Nat) (v : BitVec 8) (h : cellsWf t = true) :
    cellGet (cellPut t k v) j = if j = k then v else cellGet t j := by
  unfold cellPut
  split
  · rename_i hv; subst hv; exact cellGet_cellErase t k j h
  · simp only [cellGet, tget_tset]

/-- A read after a write of consecutive bytes. -/
theorem cellGet_cellsPut (l : List (BitVec 8)) (t : List Host.Cell) (k j : Nat) (h : cellsWf t = true) :
    cellGet (cellsPut t k l) j = if k ≤ j ∧ j < k + l.length then l.getD (j - k) 0 else cellGet t j := by
  induction l generalizing t k with
  | nil => simp [cellsPut]
  | cons b l ih =>
    rw [cellsPut, ih _ _ (cellsWf_cellPut t k b h), cellGet_cellPut _ _ _ _ h]
    by_cases hj : j = k
    · subst hj; simp
    · by_cases h1 : k + 1 ≤ j ∧ j < k + 1 + l.length
      · have h2 : k ≤ j ∧ j < k + (b :: l).length := by simp; omega
        have h3 : j - k = (j - (k + 1)) + 1 := by omega
        rw [if_pos h1, if_pos h2, h3]; simp
      · have h2 : ¬ (k ≤ j ∧ j < k + (b :: l).length) := by simp; omega
        rw [if_neg h1, if_neg h2, if_neg hj]

/-! ### The operations on granules -/

theorem inv_putCells (p : Nat) (data chk : List (BitVec 8)) (s : State) (h : Inv s) : Inv (putCells p data chk s) := by
  simp only [Inv, Memory.wf, Bool.and_eq_true] at h ⊢
  exact ⟨cellsWf_cellsPut _ _ _ h.1, cellsWf_cellsPut _ _ _ h.2⟩

theorem inv_putGran (g : Nat) (v : Option (List (BitVec 8))) (s : State) (h : Inv s) : Inv (putGran g v s) := by
  unfold putGran
  generalize physGran s g :: movePlaces s g = l
  induction l generalizing s with
  | nil => exact h
  | cons p l ih => exact ih _ (inv_putCells p _ _ s h)

/-- The canonical form depends on the two lists of cells alone. -/
theorem inv_congr (s t : State) (hm : t.mem = s.mem) (hc : t.chk = s.chk) (h : Inv s) : Inv t := by
  simpa [Inv, Memory.wf, hm, hc] using h

/-- A change of a channel leaves the cells as they are. -/
theorem inv_modChan (c : Nat) (f : Chan → Chan) (s : State) (h : Inv s) : Inv (s.modChan c f) := inv_congr s _ rfl rfl h

/-- A granule written by a unit of the stack, as a write of its own: whatever the channel's controller notes with it, the form holds. -/
theorem inv_putGran_modChan (g : Nat) (v : Option (List (BitVec 8))) (c : Nat) (f : Chan → Chan) (s : State) (h : Inv s) :
    Inv (putGran g v (s.modChan c f)) :=
  inv_putGran g v _ (inv_modChan c f s h)

theorem inv_reset : Inv State.reset := by decide

/-- What a write of a codeword into the cells of a granule can do: the bytes of the granule are the data, no other byte changes,
and nothing but the cells changes. -/
theorem putCells_spec (p : Nat) (data chk : List (BitVec 8)) (s : State) (h : Inv s) (hd : data.length = 64) :
    (∀ a, (putCells p data chk s).byte a = if a / 64 = p then data.getD (a % 64) 0 else s.byte a) ∧
      putCells p data chk s = { s with mem := (putCells p data chk s).mem, chk := (putCells p data chk s).chk } := by
  simp only [Inv, Memory.wf, Bool.and_eq_true] at h
  refine ⟨fun a => ?_, rfl⟩
  simp only [State.byte, putCells]
  rw [cellGet_cellsPut _ _ _ _ h.1, hd]
  by_cases ha : a / 64 = p
  · have h1 : 64 * p ≤ a ∧ a < 64 * p + 64 := by omega
    have h2 : a - 64 * p = a % 64 := by omega
    rw [if_pos h1, if_pos ha, h2]
  · have h1 : ¬ (64 * p ≤ a ∧ a < 64 * p + 64) := by omega
    rw [if_neg h1, if_neg ha]

/-- What a write of a granule changes beside the cells: nothing. -/
theorem putGran_frame (g : Nat) (v : Option (List (BitVec 8))) (s : State) :
    putGran g v s = { s with mem := (putGran g v s).mem, chk := (putGran g v s).chk } := by
  unfold putGran
  generalize physGran s g :: movePlaces s g = l
  induction l generalizing s with
  | nil => rfl
  | cons p l ih =>
    rw [List.foldl_cons]
    exact ih (putCells p _ _ s)

end Sys2Proof.Machine
end

