-- ==== Sys2Proof/Laws/Settle.lean ====
section
/-! SUPPORT. What the end of a command does: nothing where no event was raised and no readiness changed. -/

namespace Sys2Proof.Machine

theorem port_modPort_same (s : State) (p : Nat) (f : Port → Port) : (s.modPort p f).port p = f (s.port p) := by
  simp [State.port, State.modPort]

theorem port_modPort_ne (s : State) (p q : Nat) (f : Port → Port) (h : q ≠ p) :
    (s.modPort p f).port q = s.port q := by
  simp [State.port, State.modPort, tget_tmod_ne, h]

theorem modPort_modPort (s : State) (p : Nat) (f g : Port → Port) :
    (s.modPort p f).modPort p g = s.modPort p (fun x => g (f x)) := by
  simp [State.modPort]

/-- A change of a port that depends on the port alone is the writing of one value. -/
theorem modPort_eq (s : State) (p : Nat) (f g : Port → Port) (h : f (s.port p) = g (s.port p)) :
    s.modPort p f = s.modPort p g := by
  simp only [State.modPort, tmod, State.port] at *
  rw [h]

/-- The ports' readiness is read from their link states and fences. -/
theorem portReady_congr (s t : State)
    (h : ∀ p, (t.port p).link.lstate = (s.port p).link.lstate ∧ (t.port p).fr.fenced = (s.port p).fr.fenced) :
    portReady t = portReady s := by
  unfold portReady
  congr 1
  funext w p
  rw [(h p).1, (h p).2]

theorem collect_calm (s : State) (h : Calm s) : collect s = s := by
  simp [collect, h.1, h.2]

theorem readyRecords_same (old : BitVec 48) (s : State) (h : readyBits s = old) : readyRecords old s = s := by
  simp [readyRecords, h]

/-- A command that raised nothing and changed no readiness ends as it stands. -/
theorem settle_calm (s0 s : State) (h : Calm s) (hr : s.ready = s0.ready)
    (hp : ∀ p, (s.port p).link.lstate = (s0.port p).link.lstate ∧ (s.port p).fr.fenced = (s0.port p).fr.fenced) :
    settle s0 s = s := by
  have : readyBits s = readyBits s0 := by simp [readyBits, portReady_congr s0 s hp, hr]
  simp [settle, collect_calm s h, hr, readyRecords_same _ s this]

/-- The same, for a command that changed nothing but one port. -/
theorem settle_modPort (s : State) (p : Nat) (f : Port → Port) (h : Calm s)
    (hl : (f (s.port p)).link.lstate = (s.port p).link.lstate) (hf : (f (s.port p)).fr.fenced = (s.port p).fr.fenced) :
    settle s (s.modPort p f) = s.modPort p f := by
  refine settle_calm s _ h rfl (fun q => ?_)
  by_cases hq : q = p
  · subst hq; rw [port_modPort_same]; exact ⟨hl, hf⟩
  · rw [port_modPort_ne _ _ _ _ hq]; exact ⟨rfl, rfl⟩

/-- The same, for a command that changed no port and no readiness. -/
theorem settle_ports (s0 s : State) (h : Calm s) (hr : s.ready = s0.ready) (hp : s.ports = s0.ports) :
    settle s0 s = s :=
  settle_calm s0 s h hr (fun p => by simp [State.port, hp])

end Sys2Proof.Machine
end

