-- ==== Sys2Proof/Laws/State.lean ====
section
/-! SUPPORT. The named updates of the state, field by field, and the reads of its tables after an update. -/

namespace Sys2Proof.Machine

/-! ### `State.modPort` -/

@[simp] theorem State.modPort_day (s : State) (p : Nat) (f : Port → Port) : (s.modPort p f).day = s.day := rfl
@[simp] theorem State.modPort_staged (s : State) (p : Nat) (f : Port → Port) : (s.modPort p f).staged = s.staged := rfl
@[simp] theorem State.modPort_ports (s : State) (p : Nat) (f : Port → Port) : (s.modPort p f).ports = tmod Port.reset s.ports p f := rfl
@[simp] theorem State.modPort_clk (s : State) (p : Nat) (f : Port → Port) : (s.modPort p f).clk = s.clk := rfl
@[simp] theorem State.modPort_clus (s : State) (p : Nat) (f : Port → Port) : (s.modPort p f).clus = s.clus := rfl
@[simp] theorem State.modPort_chans (s : State) (p : Nat) (f : Port → Port) : (s.modPort p f).chans = s.chans := rfl
@[simp] theorem State.modPort_mem (s : State) (p : Nat) (f : Port → Port) : (s.modPort p f).mem = s.mem := rfl
@[simp] theorem State.modPort_chk (s : State) (p : Nat) (f : Port → Port) : (s.modPort p f).chk = s.chk := rfl
@[simp] theorem State.modPort_sec (s : State) (p : Nat) (f : Port → Port) : (s.modPort p f).sec = s.sec := rfl
@[simp] theorem State.modPort_regions (s : State) (p : Nat) (f : Port → Port) : (s.modPort p f).regions = s.regions := rfl
@[simp] theorem State.modPort_stackId (s : State) (p : Nat) (f : Port → Port) : (s.modPort p f).stackId = s.stackId := rfl
@[simp] theorem State.modPort_tenderPart (s : State) (p : Nat) (f : Port → Port) : (s.modPort p f).tenderPart = s.tenderPart := rfl
@[simp] theorem State.modPort_ready (s : State) (p : Nat) (f : Port → Port) : (s.modPort p f).ready = s.ready := rfl
@[simp] theorem State.modPort_bcn (s : State) (p : Nat) (f : Port → Port) : (s.modPort p f).bcn = s.bcn := rfl
@[simp] theorem State.modPort_flt (s : State) (p : Nat) (f : Port → Port) : (s.modPort p f).flt = s.flt := rfl
@[simp] theorem State.modPort_ls (s : State) (p : Nat) (f : Port → Port) : (s.modPort p f).ls = s.ls := rfl
@[simp] theorem State.modPort_pcie (s : State) (p : Nat) (f : Port → Port) : (s.modPort p f).pcie = s.pcie := rfl
@[simp] theorem State.modPort_pwr (s : State) (p : Nat) (f : Port → Port) : (s.modPort p f).pwr = s.pwr := rfl
@[simp] theorem State.modPort_ret (s : State) (p : Nat) (f : Port → Port) : (s.modPort p f).ret = s.ret := rfl
@[simp] theorem State.modPort_snap (s : State) (p : Nat) (f : Port → Port) : (s.modPort p f).snap = s.snap := rfl
@[simp] theorem State.modPort_kpr (s : State) (p : Nat) (f : Port → Port) : (s.modPort p f).kpr = s.kpr := rfl
@[simp] theorem State.modPort_lan (s : State) (p : Nat) (f : Port → Port) : (s.modPort p f).lan = s.lan := rfl
@[simp] theorem State.modPort_ll (s : State) (p : Nat) (f : Port → Port) : (s.modPort p f).ll = s.ll := rfl
@[simp] theorem State.modPort_wch (s : State) (p : Nat) (f : Port → Port) : (s.modPort p f).wch = s.wch := rfl
@[simp] theorem State.modPort_tnd (s : State) (p : Nat) (f : Port → Port) : (s.modPort p f).tnd = s.tnd := rfl
@[simp] theorem State.modPort_rlyTurn (s : State) (p : Nat) (f : Port → Port) : (s.modPort p f).rlyTurn = s.rlyTurn := rfl
@[simp] theorem State.modPort_free (s : State) (p : Nat) (f : Port → Port) : (s.modPort p f).free = s.free := rfl
@[simp] theorem State.modPort_pending (s : State) (p : Nat) (f : Port → Port) : (s.modPort p f).pending = s.pending := rfl

/-! ### `State.modChan` -/

@[simp] theorem State.modChan_day (s : State) (c : Nat) (f : Chan → Chan) : (s.modChan c f).day = s.day := rfl
@[simp] theorem State.modChan_staged (s : State) (c : Nat) (f : Chan → Chan) : (s.modChan c f).staged = s.staged := rfl
@[simp] theorem State.modChan_ports (s : State) (c : Nat) (f : Chan → Chan) : (s.modChan c f).ports = s.ports := rfl
@[simp] theorem State.modChan_clk (s : State) (c : Nat) (f : Chan → Chan) : (s.modChan c f).clk = s.clk := rfl
@[simp] theorem State.modChan_clus (s : State) (c : Nat) (f : Chan → Chan) : (s.modChan c f).clus = s.clus := rfl
@[simp] theorem State.modChan_chans (s : State) (c : Nat) (f : Chan → Chan) : (s.modChan c f).chans = tmod {} s.chans c f := rfl
@[simp] theorem State.modChan_mem (s : State) (c : Nat) (f : Chan → Chan) : (s.modChan c f).mem = s.mem := rfl
@[simp] theorem State.modChan_chk (s : State) (c : Nat) (f : Chan → Chan) : (s.modChan c f).chk = s.chk := rfl
@[simp] theorem State.modChan_sec (s : State) (c : Nat) (f : Chan → Chan) : (s.modChan c f).sec = s.sec := rfl
@[simp] theorem State.modChan_regions (s : State) (c : Nat) (f : Chan → Chan) : (s.modChan c f).regions = s.regions := rfl
@[simp] theorem State.modChan_stackId (s : State) (c : Nat) (f : Chan → Chan) : (s.modChan c f).stackId = s.stackId := rfl
@[simp] theorem State.modChan_tenderPart (s : State) (c : Nat) (f : Chan → Chan) : (s.modChan c f).tenderPart = s.tenderPart := rfl
@[simp] theorem State.modChan_ready (s : State) (c : Nat) (f : Chan → Chan) : (s.modChan c f).ready = s.ready := rfl
@[simp] theorem State.modChan_bcn (s : State) (c : Nat) (f : Chan → Chan) : (s.modChan c f).bcn = s.bcn := rfl
@[simp] theorem State.modChan_flt (s : State) (c : Nat) (f : Chan → Chan) : (s.modChan c f).flt = s.flt := rfl
@[simp] theorem State.modChan_ls (s : State) (c : Nat) (f : Chan → Chan) : (s.modChan c f).ls = s.ls := rfl
@[simp] theorem State.modChan_pcie (s : State) (c : Nat) (f : Chan → Chan) : (s.modChan c f).pcie = s.pcie := rfl
@[simp] theorem State.modChan_pwr (s : State) (c : Nat) (f : Chan → Chan) : (s.modChan c f).pwr = s.pwr := rfl
@[simp] theorem State.modChan_ret (s : State) (c : Nat) (f : Chan → Chan) : (s.modChan c f).ret = s.ret := rfl
@[simp] theorem State.modChan_snap (s : State) (c : Nat) (f : Chan → Chan) : (s.modChan c f).snap = s.snap := rfl
@[simp] theorem State.modChan_kpr (s : State) (c : Nat) (f : Chan → Chan) : (s.modChan c f).kpr = s.kpr := rfl
@[simp] theorem State.modChan_lan (s : State) (c : Nat) (f : Chan → Chan) : (s.modChan c f).lan = s.lan := rfl
@[simp] theorem State.modChan_ll (s : State) (c : Nat) (f : Chan → Chan) : (s.modChan c f).ll = s.ll := rfl
@[simp] theorem State.modChan_wch (s : State) (c : Nat) (f : Chan → Chan) : (s.modChan c f).wch = s.wch := rfl
@[simp] theorem State.modChan_tnd (s : State) (c : Nat) (f : Chan → Chan) : (s.modChan c f).tnd = s.tnd := rfl
@[simp] theorem State.modChan_rlyTurn (s : State) (c : Nat) (f : Chan → Chan) : (s.modChan c f).rlyTurn = s.rlyTurn := rfl
@[simp] theorem State.modChan_free (s : State) (c : Nat) (f : Chan → Chan) : (s.modChan c f).free = s.free := rfl
@[simp] theorem State.modChan_pending (s : State) (c : Nat) (f : Chan → Chan) : (s.modChan c f).pending = s.pending := rfl

/-! ### `State.modClu` -/

@[simp] theorem State.modClu_day (s : State) (k : Nat) (f : Clu → Clu) : (s.modClu k f).day = s.day := rfl
@[simp] theorem State.modClu_staged (s : State) (k : Nat) (f : Clu → Clu) : (s.modClu k f).staged = s.staged := rfl
@[simp] theorem State.modClu_ports (s : State) (k : Nat) (f : Clu → Clu) : (s.modClu k f).ports = s.ports := rfl
@[simp] theorem State.modClu_clk (s : State) (k : Nat) (f : Clu → Clu) : (s.modClu k f).clk = s.clk := rfl
@[simp] theorem State.modClu_clus (s : State) (k : Nat) (f : Clu → Clu) : (s.modClu k f).clus = tmod {} s.clus k f := rfl
@[simp] theorem State.modClu_chans (s : State) (k : Nat) (f : Clu → Clu) : (s.modClu k f).chans = s.chans := rfl
@[simp] theorem State.modClu_mem (s : State) (k : Nat) (f : Clu → Clu) : (s.modClu k f).mem = s.mem := rfl
@[simp] theorem State.modClu_chk (s : State) (k : Nat) (f : Clu → Clu) : (s.modClu k f).chk = s.chk := rfl
@[simp] theorem State.modClu_sec (s : State) (k : Nat) (f : Clu → Clu) : (s.modClu k f).sec = s.sec := rfl
@[simp] theorem State.modClu_regions (s : State) (k : Nat) (f : Clu → Clu) : (s.modClu k f).regions = s.regions := rfl
@[simp] theorem State.modClu_stackId (s : State) (k : Nat) (f : Clu → Clu) : (s.modClu k f).stackId = s.stackId := rfl
@[simp] theorem State.modClu_tenderPart (s : State) (k : Nat) (f : Clu → Clu) : (s.modClu k f).tenderPart = s.tenderPart := rfl
@[simp] theorem State.modClu_ready (s : State) (k : Nat) (f : Clu → Clu) : (s.modClu k f).ready = s.ready := rfl
@[simp] theorem State.modClu_bcn (s : State) (k : Nat) (f : Clu → Clu) : (s.modClu k f).bcn = s.bcn := rfl
@[simp] theorem State.modClu_flt (s : State) (k : Nat) (f : Clu → Clu) : (s.modClu k f).flt = s.flt := rfl
@[simp] theorem State.modClu_ls (s : State) (k : Nat) (f : Clu → Clu) : (s.modClu k f).ls = s.ls := rfl
@[simp] theorem State.modClu_pcie (s : State) (k : Nat) (f : Clu → Clu) : (s.modClu k f).pcie = s.pcie := rfl
@[simp] theorem State.modClu_pwr (s : State) (k : Nat) (f : Clu → Clu) : (s.modClu k f).pwr = s.pwr := rfl
@[simp] theorem State.modClu_ret (s : State) (k : Nat) (f : Clu → Clu) : (s.modClu k f).ret = s.ret := rfl
@[simp] theorem State.modClu_snap (s : State) (k : Nat) (f : Clu → Clu) : (s.modClu k f).snap = s.snap := rfl
@[simp] theorem State.modClu_kpr (s : State) (k : Nat) (f : Clu → Clu) : (s.modClu k f).kpr = s.kpr := rfl
@[simp] theorem State.modClu_lan (s : State) (k : Nat) (f : Clu → Clu) : (s.modClu k f).lan = s.lan := rfl
@[simp] theorem State.modClu_ll (s : State) (k : Nat) (f : Clu → Clu) : (s.modClu k f).ll = s.ll := rfl
@[simp] theorem State.modClu_wch (s : State) (k : Nat) (f : Clu → Clu) : (s.modClu k f).wch = s.wch := rfl
@[simp] theorem State.modClu_tnd (s : State) (k : Nat) (f : Clu → Clu) : (s.modClu k f).tnd = s.tnd := rfl
@[simp] theorem State.modClu_rlyTurn (s : State) (k : Nat) (f : Clu → Clu) : (s.modClu k f).rlyTurn = s.rlyTurn := rfl
@[simp] theorem State.modClu_free (s : State) (k : Nat) (f : Clu → Clu) : (s.modClu k f).free = s.free := rfl
@[simp] theorem State.modClu_pending (s : State) (k : Nat) (f : Clu → Clu) : (s.modClu k f).pending = s.pending := rfl

/-! ### `State.modDay` -/

@[simp] theorem State.modDay_day (s : State) (f : Day → Day) : (s.modDay f).day = f s.day := rfl
@[simp] theorem State.modDay_staged (s : State) (f : Day → Day) : (s.modDay f).staged = s.staged := rfl
@[simp] theorem State.modDay_ports (s : State) (f : Day → Day) : (s.modDay f).ports = s.ports := rfl
@[simp] theorem State.modDay_clk (s : State) (f : Day → Day) : (s.modDay f).clk = s.clk := rfl
@[simp] theorem State.modDay_clus (s : State) (f : Day → Day) : (s.modDay f).clus = s.clus := rfl
@[simp] theorem State.modDay_chans (s : State) (f : Day → Day) : (s.modDay f).chans = s.chans := rfl
@[simp] theorem State.modDay_mem (s : State) (f : Day → Day) : (s.modDay f).mem = s.mem := rfl
@[simp] theorem State.modDay_chk (s : State) (f : Day → Day) : (s.modDay f).chk = s.chk := rfl
@[simp] theorem State.modDay_sec (s : State) (f : Day → Day) : (s.modDay f).sec = s.sec := rfl
@[simp] theorem State.modDay_regions (s : State) (f : Day → Day) : (s.modDay f).regions = s.regions := rfl
@[simp] theorem State.modDay_stackId (s : State) (f : Day → Day) : (s.modDay f).stackId = s.stackId := rfl
@[simp] theorem State.modDay_tenderPart (s : State) (f : Day → Day) : (s.modDay f).tenderPart = s.tenderPart := rfl
@[simp] theorem State.modDay_ready (s : State) (f : Day → Day) : (s.modDay f).ready = s.ready := rfl
@[simp] theorem State.modDay_bcn (s : State) (f : Day → Day) : (s.modDay f).bcn = s.bcn := rfl
@[simp] theorem State.modDay_flt (s : State) (f : Day → Day) : (s.modDay f).flt = s.flt := rfl
@[simp] theorem State.modDay_ls (s : State) (f : Day → Day) : (s.modDay f).ls = s.ls := rfl
@[simp] theorem State.modDay_pcie (s : State) (f : Day → Day) : (s.modDay f).pcie = s.pcie := rfl
@[simp] theorem State.modDay_pwr (s : State) (f : Day → Day) : (s.modDay f).pwr = s.pwr := rfl
@[simp] theorem State.modDay_ret (s : State) (f : Day → Day) : (s.modDay f).ret = s.ret := rfl
@[simp] theorem State.modDay_snap (s : State) (f : Day → Day) : (s.modDay f).snap = s.snap := rfl
@[simp] theorem State.modDay_kpr (s : State) (f : Day → Day) : (s.modDay f).kpr = s.kpr := rfl
@[simp] theorem State.modDay_lan (s : State) (f : Day → Day) : (s.modDay f).lan = s.lan := rfl
@[simp] theorem State.modDay_ll (s : State) (f : Day → Day) : (s.modDay f).ll = s.ll := rfl
@[simp] theorem State.modDay_wch (s : State) (f : Day → Day) : (s.modDay f).wch = s.wch := rfl
@[simp] theorem State.modDay_tnd (s : State) (f : Day → Day) : (s.modDay f).tnd = s.tnd := rfl
@[simp] theorem State.modDay_rlyTurn (s : State) (f : Day → Day) : (s.modDay f).rlyTurn = s.rlyTurn := rfl
@[simp] theorem State.modDay_free (s : State) (f : Day → Day) : (s.modDay f).free = s.free := rfl
@[simp] theorem State.modDay_pending (s : State) (f : Day → Day) : (s.modDay f).pending = s.pending := rfl

/-! ### `State.modSec` -/

@[simp] theorem State.modSec_day (s : State) (f : Sec → Sec) : (s.modSec f).day = s.day := rfl
@[simp] theorem State.modSec_staged (s : State) (f : Sec → Sec) : (s.modSec f).staged = s.staged := rfl
@[simp] theorem State.modSec_ports (s : State) (f : Sec → Sec) : (s.modSec f).ports = s.ports := rfl
@[simp] theorem State.modSec_clk (s : State) (f : Sec → Sec) : (s.modSec f).clk = s.clk := rfl
@[simp] theorem State.modSec_clus (s : State) (f : Sec → Sec) : (s.modSec f).clus = s.clus := rfl
@[simp] theorem State.modSec_chans (s : State) (f : Sec → Sec) : (s.modSec f).chans = s.chans := rfl
@[simp] theorem State.modSec_mem (s : State) (f : Sec → Sec) : (s.modSec f).mem = s.mem := rfl
@[simp] theorem State.modSec_chk (s : State) (f : Sec → Sec) : (s.modSec f).chk = s.chk := rfl
@[simp] theorem State.modSec_sec (s : State) (f : Sec → Sec) : (s.modSec f).sec = f s.sec := rfl
@[simp] theorem State.modSec_regions (s : State) (f : Sec → Sec) : (s.modSec f).regions = s.regions := rfl
@[simp] theorem State.modSec_stackId (s : State) (f : Sec → Sec) : (s.modSec f).stackId = s.stackId := rfl
@[simp] theorem State.modSec_tenderPart (s : State) (f : Sec → Sec) : (s.modSec f).tenderPart = s.tenderPart := rfl
@[simp] theorem State.modSec_ready (s : State) (f : Sec → Sec) : (s.modSec f).ready = s.ready := rfl
@[simp] theorem State.modSec_bcn (s : State) (f : Sec → Sec) : (s.modSec f).bcn = s.bcn := rfl
@[simp] theorem State.modSec_flt (s : State) (f : Sec → Sec) : (s.modSec f).flt = s.flt := rfl
@[simp] theorem State.modSec_ls (s : State) (f : Sec → Sec) : (s.modSec f).ls = s.ls := rfl
@[simp] theorem State.modSec_pcie (s : State) (f : Sec → Sec) : (s.modSec f).pcie = s.pcie := rfl
@[simp] theorem State.modSec_pwr (s : State) (f : Sec → Sec) : (s.modSec f).pwr = s.pwr := rfl
@[simp] theorem State.modSec_ret (s : State) (f : Sec → Sec) : (s.modSec f).ret = s.ret := rfl
@[simp] theorem State.modSec_snap (s : State) (f : Sec → Sec) : (s.modSec f).snap = s.snap := rfl
@[simp] theorem State.modSec_kpr (s : State) (f : Sec → Sec) : (s.modSec f).kpr = s.kpr := rfl
@[simp] theorem State.modSec_lan (s : State) (f : Sec → Sec) : (s.modSec f).lan = s.lan := rfl
@[simp] theorem State.modSec_ll (s : State) (f : Sec → Sec) : (s.modSec f).ll = s.ll := rfl
@[simp] theorem State.modSec_wch (s : State) (f : Sec → Sec) : (s.modSec f).wch = s.wch := rfl
@[simp] theorem State.modSec_tnd (s : State) (f : Sec → Sec) : (s.modSec f).tnd = s.tnd := rfl
@[simp] theorem State.modSec_rlyTurn (s : State) (f : Sec → Sec) : (s.modSec f).rlyTurn = s.rlyTurn := rfl
@[simp] theorem State.modSec_free (s : State) (f : Sec → Sec) : (s.modSec f).free = s.free := rfl
@[simp] theorem State.modSec_pending (s : State) (f : Sec → Sec) : (s.modSec f).pending = s.pending := rfl

/-! ### `State.modFlt` -/

@[simp] theorem State.modFlt_day (s : State) (f : Flt → Flt) : (s.modFlt f).day = s.day := rfl
@[simp] theorem State.modFlt_staged (s : State) (f : Flt → Flt) : (s.modFlt f).staged = s.staged := rfl
@[simp] theorem State.modFlt_ports (s : State) (f : Flt → Flt) : (s.modFlt f).ports = s.ports := rfl
@[simp] theorem State.modFlt_clk (s : State) (f : Flt → Flt) : (s.modFlt f).clk = s.clk := rfl
@[simp] theorem State.modFlt_clus (s : State) (f : Flt → Flt) : (s.modFlt f).clus = s.clus := rfl
@[simp] theorem State.modFlt_chans (s : State) (f : Flt → Flt) : (s.modFlt f).chans = s.chans := rfl
@[simp] theorem State.modFlt_mem (s : State) (f : Flt → Flt) : (s.modFlt f).mem = s.mem := rfl
@[simp] theorem State.modFlt_chk (s : State) (f : Flt → Flt) : (s.modFlt f).chk = s.chk := rfl
@[simp] theorem State.modFlt_sec (s : State) (f : Flt → Flt) : (s.modFlt f).sec = s.sec := rfl
@[simp] theorem State.modFlt_regions (s : State) (f : Flt → Flt) : (s.modFlt f).regions = s.regions := rfl
@[simp] theorem State.modFlt_stackId (s : State) (f : Flt → Flt) : (s.modFlt f).stackId = s.stackId := rfl
@[simp] theorem State.modFlt_tenderPart (s : State) (f : Flt → Flt) : (s.modFlt f).tenderPart = s.tenderPart := rfl
@[simp] theorem State.modFlt_ready (s : State) (f : Flt → Flt) : (s.modFlt f).ready = s.ready := rfl
@[simp] theorem State.modFlt_bcn (s : State) (f : Flt → Flt) : (s.modFlt f).bcn = s.bcn := rfl
@[simp] theorem State.modFlt_flt (s : State) (f : Flt → Flt) : (s.modFlt f).flt = f s.flt := rfl
@[simp] theorem State.modFlt_ls (s : State) (f : Flt → Flt) : (s.modFlt f).ls = s.ls := rfl
@[simp] theorem State.modFlt_pcie (s : State) (f : Flt → Flt) : (s.modFlt f).pcie = s.pcie := rfl
@[simp] theorem State.modFlt_pwr (s : State) (f : Flt → Flt) : (s.modFlt f).pwr = s.pwr := rfl
@[simp] theorem State.modFlt_ret (s : State) (f : Flt → Flt) : (s.modFlt f).ret = s.ret := rfl
@[simp] theorem State.modFlt_snap (s : State) (f : Flt → Flt) : (s.modFlt f).snap = s.snap := rfl
@[simp] theorem State.modFlt_kpr (s : State) (f : Flt → Flt) : (s.modFlt f).kpr = s.kpr := rfl
@[simp] theorem State.modFlt_lan (s : State) (f : Flt → Flt) : (s.modFlt f).lan = s.lan := rfl
@[simp] theorem State.modFlt_ll (s : State) (f : Flt → Flt) : (s.modFlt f).ll = s.ll := rfl
@[simp] theorem State.modFlt_wch (s : State) (f : Flt → Flt) : (s.modFlt f).wch = s.wch := rfl
@[simp] theorem State.modFlt_tnd (s : State) (f : Flt → Flt) : (s.modFlt f).tnd = s.tnd := rfl
@[simp] theorem State.modFlt_rlyTurn (s : State) (f : Flt → Flt) : (s.modFlt f).rlyTurn = s.rlyTurn := rfl
@[simp] theorem State.modFlt_free (s : State) (f : Flt → Flt) : (s.modFlt f).free = s.free := rfl
@[simp] theorem State.modFlt_pending (s : State) (f : Flt → Flt) : (s.modFlt f).pending = s.pending := rfl

/-! ### `State.modBcn` -/

@[simp] theorem State.modBcn_day (s : State) (f : Bcn → Bcn) : (s.modBcn f).day = s.day := rfl
@[simp] theorem State.modBcn_staged (s : State) (f : Bcn → Bcn) : (s.modBcn f).staged = s.staged := rfl
@[simp] theorem State.modBcn_ports (s : State) (f : Bcn → Bcn) : (s.modBcn f).ports = s.ports := rfl
@[simp] theorem State.modBcn_clk (s : State) (f : Bcn → Bcn) : (s.modBcn f).clk = s.clk := rfl
@[simp] theorem State.modBcn_clus (s : State) (f : Bcn → Bcn) : (s.modBcn f).clus = s.clus := rfl
@[simp] theorem State.modBcn_chans (s : State) (f : Bcn → Bcn) : (s.modBcn f).chans = s.chans := rfl
@[simp] theorem State.modBcn_mem (s : State) (f : Bcn → Bcn) : (s.modBcn f).mem = s.mem := rfl
@[simp] theorem State.modBcn_chk (s : State) (f : Bcn → Bcn) : (s.modBcn f).chk = s.chk := rfl
@[simp] theorem State.modBcn_sec (s : State) (f : Bcn → Bcn) : (s.modBcn f).sec = s.sec := rfl
@[simp] theorem State.modBcn_regions (s : State) (f : Bcn → Bcn) : (s.modBcn f).regions = s.regions := rfl
@[simp] theorem State.modBcn_stackId (s : State) (f : Bcn → Bcn) : (s.modBcn f).stackId = s.stackId := rfl
@[simp] theorem State.modBcn_tenderPart (s : State) (f : Bcn → Bcn) : (s.modBcn f).tenderPart = s.tenderPart := rfl
@[simp] theorem State.modBcn_ready (s : State) (f : Bcn → Bcn) : (s.modBcn f).ready = s.ready := rfl
@[simp] theorem State.modBcn_bcn (s : State) (f : Bcn → Bcn) : (s.modBcn f).bcn = f s.bcn := rfl
@[simp] theorem State.modBcn_flt (s : State) (f : Bcn → Bcn) : (s.modBcn f).flt = s.flt := rfl
@[simp] theorem State.modBcn_ls (s : State) (f : Bcn → Bcn) : (s.modBcn f).ls = s.ls := rfl
@[simp] theorem State.modBcn_pcie (s : State) (f : Bcn → Bcn) : (s.modBcn f).pcie = s.pcie := rfl
@[simp] theorem State.modBcn_pwr (s : State) (f : Bcn → Bcn) : (s.modBcn f).pwr = s.pwr := rfl
@[simp] theorem State.modBcn_ret (s : State) (f : Bcn → Bcn) : (s.modBcn f).ret = s.ret := rfl
@[simp] theorem State.modBcn_snap (s : State) (f : Bcn → Bcn) : (s.modBcn f).snap = s.snap := rfl
@[simp] theorem State.modBcn_kpr (s : State) (f : Bcn → Bcn) : (s.modBcn f).kpr = s.kpr := rfl
@[simp] theorem State.modBcn_lan (s : State) (f : Bcn → Bcn) : (s.modBcn f).lan = s.lan := rfl
@[simp] theorem State.modBcn_ll (s : State) (f : Bcn → Bcn) : (s.modBcn f).ll = s.ll := rfl
@[simp] theorem State.modBcn_wch (s : State) (f : Bcn → Bcn) : (s.modBcn f).wch = s.wch := rfl
@[simp] theorem State.modBcn_tnd (s : State) (f : Bcn → Bcn) : (s.modBcn f).tnd = s.tnd := rfl
@[simp] theorem State.modBcn_rlyTurn (s : State) (f : Bcn → Bcn) : (s.modBcn f).rlyTurn = s.rlyTurn := rfl
@[simp] theorem State.modBcn_free (s : State) (f : Bcn → Bcn) : (s.modBcn f).free = s.free := rfl
@[simp] theorem State.modBcn_pending (s : State) (f : Bcn → Bcn) : (s.modBcn f).pending = s.pending := rfl

/-! ### `State.modPcie` -/

@[simp] theorem State.modPcie_day (s : State) (f : Pcie → Pcie) : (s.modPcie f).day = s.day := rfl
@[simp] theorem State.modPcie_staged (s : State) (f : Pcie → Pcie) : (s.modPcie f).staged = s.staged := rfl
@[simp] theorem State.modPcie_ports (s : State) (f : Pcie → Pcie) : (s.modPcie f).ports = s.ports := rfl
@[simp] theorem State.modPcie_clk (s : State) (f : Pcie → Pcie) : (s.modPcie f).clk = s.clk := rfl
@[simp] theorem State.modPcie_clus (s : State) (f : Pcie → Pcie) : (s.modPcie f).clus = s.clus := rfl
@[simp] theorem State.modPcie_chans (s : State) (f : Pcie → Pcie) : (s.modPcie f).chans = s.chans := rfl
@[simp] theorem State.modPcie_mem (s : State) (f : Pcie → Pcie) : (s.modPcie f).mem = s.mem := rfl
@[simp] theorem State.modPcie_chk (s : State) (f : Pcie → Pcie) : (s.modPcie f).chk = s.chk := rfl
@[simp] theorem State.modPcie_sec (s : State) (f : Pcie → Pcie) : (s.modPcie f).sec = s.sec := rfl
@[simp] theorem State.modPcie_regions (s : State) (f : Pcie → Pcie) : (s.modPcie f).regions = s.regions := rfl
@[simp] theorem State.modPcie_stackId (s : State) (f : Pcie → Pcie) : (s.modPcie f).stackId = s.stackId := rfl
@[simp] theorem State.modPcie_tenderPart (s : State) (f : Pcie → Pcie) : (s.modPcie f).tenderPart = s.tenderPart := rfl
@[simp] theorem State.modPcie_ready (s : State) (f : Pcie → Pcie) : (s.modPcie f).ready = s.ready := rfl
@[simp] theorem State.modPcie_bcn (s : State) (f : Pcie → Pcie) : (s.modPcie f).bcn = s.bcn := rfl
@[simp] theorem State.modPcie_flt (s : State) (f : Pcie → Pcie) : (s.modPcie f).flt = s.flt := rfl
@[simp] theorem State.modPcie_ls (s : State) (f : Pcie → Pcie) : (s.modPcie f).ls = s.ls := rfl
@[simp] theorem State.modPcie_pcie (s : State) (f : Pcie → Pcie) : (s.modPcie f).pcie = f s.pcie := rfl
@[simp] theorem State.modPcie_pwr (s : State) (f : Pcie → Pcie) : (s.modPcie f).pwr = s.pwr := rfl
@[simp] theorem State.modPcie_ret (s : State) (f : Pcie → Pcie) : (s.modPcie f).ret = s.ret := rfl
@[simp] theorem State.modPcie_snap (s : State) (f : Pcie → Pcie) : (s.modPcie f).snap = s.snap := rfl
@[simp] theorem State.modPcie_kpr (s : State) (f : Pcie → Pcie) : (s.modPcie f).kpr = s.kpr := rfl
@[simp] theorem State.modPcie_lan (s : State) (f : Pcie → Pcie) : (s.modPcie f).lan = s.lan := rfl
@[simp] theorem State.modPcie_ll (s : State) (f : Pcie → Pcie) : (s.modPcie f).ll = s.ll := rfl
@[simp] theorem State.modPcie_wch (s : State) (f : Pcie → Pcie) : (s.modPcie f).wch = s.wch := rfl
@[simp] theorem State.modPcie_tnd (s : State) (f : Pcie → Pcie) : (s.modPcie f).tnd = s.tnd := rfl
@[simp] theorem State.modPcie_rlyTurn (s : State) (f : Pcie → Pcie) : (s.modPcie f).rlyTurn = s.rlyTurn := rfl
@[simp] theorem State.modPcie_free (s : State) (f : Pcie → Pcie) : (s.modPcie f).free = s.free := rfl
@[simp] theorem State.modPcie_pending (s : State) (f : Pcie → Pcie) : (s.modPcie f).pending = s.pending := rfl

/-! ### `State.modTnd` -/

@[simp] theorem State.modTnd_day (s : State) (f : Tnd → Tnd) : (s.modTnd f).day = s.day := rfl
@[simp] theorem State.modTnd_staged (s : State) (f : Tnd → Tnd) : (s.modTnd f).staged = s.staged := rfl
@[simp] theorem State.modTnd_ports (s : State) (f : Tnd → Tnd) : (s.modTnd f).ports = s.ports := rfl
@[simp] theorem State.modTnd_clk (s : State) (f : Tnd → Tnd) : (s.modTnd f).clk = s.clk := rfl
@[simp] theorem State.modTnd_clus (s : State) (f : Tnd → Tnd) : (s.modTnd f).clus = s.clus := rfl
@[simp] theorem State.modTnd_chans (s : State) (f : Tnd → Tnd) : (s.modTnd f).chans = s.chans := rfl
@[simp] theorem State.modTnd_mem (s : State) (f : Tnd → Tnd) : (s.modTnd f).mem = s.mem := rfl
@[simp] theorem State.modTnd_chk (s : State) (f : Tnd → Tnd) : (s.modTnd f).chk = s.chk := rfl
@[simp] theorem State.modTnd_sec (s : State) (f : Tnd → Tnd) : (s.modTnd f).sec = s.sec := rfl
@[simp] theorem State.modTnd_regions (s : State) (f : Tnd → Tnd) : (s.modTnd f).regions = s.regions := rfl
@[simp] theorem State.modTnd_stackId (s : State) (f : Tnd → Tnd) : (s.modTnd f).stackId = s.stackId := rfl
@[simp] theorem State.modTnd_tenderPart (s : State) (f : Tnd → Tnd) : (s.modTnd f).tenderPart = s.tenderPart := rfl
@[simp] theorem State.modTnd_ready (s : State) (f : Tnd → Tnd) : (s.modTnd f).ready = s.ready := rfl
@[simp] theorem State.modTnd_bcn (s : State) (f : Tnd → Tnd) : (s.modTnd f).bcn = s.bcn := rfl
@[simp] theorem State.modTnd_flt (s : State) (f : Tnd → Tnd) : (s.modTnd f).flt = s.flt := rfl
@[simp] theorem State.modTnd_ls (s : State) (f : Tnd → Tnd) : (s.modTnd f).ls = s.ls := rfl
@[simp] theorem State.modTnd_pcie (s : State) (f : Tnd → Tnd) : (s.modTnd f).pcie = s.pcie := rfl
@[simp] theorem State.modTnd_pwr (s : State) (f : Tnd → Tnd) : (s.modTnd f).pwr = s.pwr := rfl
@[simp] theorem State.modTnd_ret (s : State) (f : Tnd → Tnd) : (s.modTnd f).ret = s.ret := rfl
@[simp] theorem State.modTnd_snap (s : State) (f : Tnd → Tnd) : (s.modTnd f).snap = s.snap := rfl
@[simp] theorem State.modTnd_kpr (s : State) (f : Tnd → Tnd) : (s.modTnd f).kpr = s.kpr := rfl
@[simp] theorem State.modTnd_lan (s : State) (f : Tnd → Tnd) : (s.modTnd f).lan = s.lan := rfl
@[simp] theorem State.modTnd_ll (s : State) (f : Tnd → Tnd) : (s.modTnd f).ll = s.ll := rfl
@[simp] theorem State.modTnd_wch (s : State) (f : Tnd → Tnd) : (s.modTnd f).wch = s.wch := rfl
@[simp] theorem State.modTnd_tnd (s : State) (f : Tnd → Tnd) : (s.modTnd f).tnd = f s.tnd := rfl
@[simp] theorem State.modTnd_rlyTurn (s : State) (f : Tnd → Tnd) : (s.modTnd f).rlyTurn = s.rlyTurn := rfl
@[simp] theorem State.modTnd_free (s : State) (f : Tnd → Tnd) : (s.modTnd f).free = s.free := rfl
@[simp] theorem State.modTnd_pending (s : State) (f : Tnd → Tnd) : (s.modTnd f).pending = s.pending := rfl

/-! ### `State.modKpr` -/

@[simp] theorem State.modKpr_day (s : State) (f : Kpr → Kpr) : (s.modKpr f).day = s.day := rfl
@[simp] theorem State.modKpr_staged (s : State) (f : Kpr → Kpr) : (s.modKpr f).staged = s.staged := rfl
@[simp] theorem State.modKpr_ports (s : State) (f : Kpr → Kpr) : (s.modKpr f).ports = s.ports := rfl
@[simp] theorem State.modKpr_clk (s : State) (f : Kpr → Kpr) : (s.modKpr f).clk = s.clk := rfl
@[simp] theorem State.modKpr_clus (s : State) (f : Kpr → Kpr) : (s.modKpr f).clus = s.clus := rfl
@[simp] theorem State.modKpr_chans (s : State) (f : Kpr → Kpr) : (s.modKpr f).chans = s.chans := rfl
@[simp] theorem State.modKpr_mem (s : State) (f : Kpr → Kpr) : (s.modKpr f).mem = s.mem := rfl
@[simp] theorem State.modKpr_chk (s : State) (f : Kpr → Kpr) : (s.modKpr f).chk = s.chk := rfl
@[simp] theorem State.modKpr_sec (s : State) (f : Kpr → Kpr) : (s.modKpr f).sec = s.sec := rfl
@[simp] theorem State.modKpr_regions (s : State) (f : Kpr → Kpr) : (s.modKpr f).regions = s.regions := rfl
@[simp] theorem State.modKpr_stackId (s : State) (f : Kpr → Kpr) : (s.modKpr f).stackId = s.stackId := rfl
@[simp] theorem State.modKpr_tenderPart (s : State) (f : Kpr → Kpr) : (s.modKpr f).tenderPart = s.tenderPart := rfl
@[simp] theorem State.modKpr_ready (s : State) (f : Kpr → Kpr) : (s.modKpr f).ready = s.ready := rfl
@[simp] theorem State.modKpr_bcn (s : State) (f : Kpr → Kpr) : (s.modKpr f).bcn = s.bcn := rfl
@[simp] theorem State.modKpr_flt (s : State) (f : Kpr → Kpr) : (s.modKpr f).flt = s.flt := rfl
@[simp] theorem State.modKpr_ls (s : State) (f : Kpr → Kpr) : (s.modKpr f).ls = s.ls := rfl
@[simp] theorem State.modKpr_pcie (s : State) (f : Kpr → Kpr) : (s.modKpr f).pcie = s.pcie := rfl
@[simp] theorem State.modKpr_pwr (s : State) (f : Kpr → Kpr) : (s.modKpr f).pwr = s.pwr := rfl
@[simp] theorem State.modKpr_ret (s : State) (f : Kpr → Kpr) : (s.modKpr f).ret = s.ret := rfl
@[simp] theorem State.modKpr_snap (s : State) (f : Kpr → Kpr) : (s.modKpr f).snap = s.snap := rfl
@[simp] theorem State.modKpr_kpr (s : State) (f : Kpr → Kpr) : (s.modKpr f).kpr = f s.kpr := rfl
@[simp] theorem State.modKpr_lan (s : State) (f : Kpr → Kpr) : (s.modKpr f).lan = s.lan := rfl
@[simp] theorem State.modKpr_ll (s : State) (f : Kpr → Kpr) : (s.modKpr f).ll = s.ll := rfl
@[simp] theorem State.modKpr_wch (s : State) (f : Kpr → Kpr) : (s.modKpr f).wch = s.wch := rfl
@[simp] theorem State.modKpr_tnd (s : State) (f : Kpr → Kpr) : (s.modKpr f).tnd = s.tnd := rfl
@[simp] theorem State.modKpr_rlyTurn (s : State) (f : Kpr → Kpr) : (s.modKpr f).rlyTurn = s.rlyTurn := rfl
@[simp] theorem State.modKpr_free (s : State) (f : Kpr → Kpr) : (s.modKpr f).free = s.free := rfl
@[simp] theorem State.modKpr_pending (s : State) (f : Kpr → Kpr) : (s.modKpr f).pending = s.pending := rfl

/-! ### `State.modLl` -/

@[simp] theorem State.modLl_day (s : State) (f : Ll → Ll) : (s.modLl f).day = s.day := rfl
@[simp] theorem State.modLl_staged (s : State) (f : Ll → Ll) : (s.modLl f).staged = s.staged := rfl
@[simp] theorem State.modLl_ports (s : State) (f : Ll → Ll) : (s.modLl f).ports = s.ports := rfl
@[simp] theorem State.modLl_clk (s : State) (f : Ll → Ll) : (s.modLl f).clk = s.clk := rfl
@[simp] theorem State.modLl_clus (s : State) (f : Ll → Ll) : (s.modLl f).clus = s.clus := rfl
@[simp] theorem State.modLl_chans (s : State) (f : Ll → Ll) : (s.modLl f).chans = s.chans := rfl
@[simp] theorem State.modLl_mem (s : State) (f : Ll → Ll) : (s.modLl f).mem = s.mem := rfl
@[simp] theorem State.modLl_chk (s : State) (f : Ll → Ll) : (s.modLl f).chk = s.chk := rfl
@[simp] theorem State.modLl_sec (s : State) (f : Ll → Ll) : (s.modLl f).sec = s.sec := rfl
@[simp] theorem State.modLl_regions (s : State) (f : Ll → Ll) : (s.modLl f).regions = s.regions := rfl
@[simp] theorem State.modLl_stackId (s : State) (f : Ll → Ll) : (s.modLl f).stackId = s.stackId := rfl
@[simp] theorem State.modLl_tenderPart (s : State) (f : Ll → Ll) : (s.modLl f).tenderPart = s.tenderPart := rfl
@[simp] theorem State.modLl_ready (s : State) (f : Ll → Ll) : (s.modLl f).ready = s.ready := rfl
@[simp] theorem State.modLl_bcn (s : State) (f : Ll → Ll) : (s.modLl f).bcn = s.bcn := rfl
@[simp] theorem State.modLl_flt (s : State) (f : Ll → Ll) : (s.modLl f).flt = s.flt := rfl
@[simp] theorem State.modLl_ls (s : State) (f : Ll → Ll) : (s.modLl f).ls = s.ls := rfl
@[simp] theorem State.modLl_pcie (s : State) (f : Ll → Ll) : (s.modLl f).pcie = s.pcie := rfl
@[simp] theorem State.modLl_pwr (s : State) (f : Ll → Ll) : (s.modLl f).pwr = s.pwr := rfl
@[simp] theorem State.modLl_ret (s : State) (f : Ll → Ll) : (s.modLl f).ret = s.ret := rfl
@[simp] theorem State.modLl_snap (s : State) (f : Ll → Ll) : (s.modLl f).snap = s.snap := rfl
@[simp] theorem State.modLl_kpr (s : State) (f : Ll → Ll) : (s.modLl f).kpr = s.kpr := rfl
@[simp] theorem State.modLl_lan (s : State) (f : Ll → Ll) : (s.modLl f).lan = s.lan := rfl
@[simp] theorem State.modLl_ll (s : State) (f : Ll → Ll) : (s.modLl f).ll = f s.ll := rfl
@[simp] theorem State.modLl_wch (s : State) (f : Ll → Ll) : (s.modLl f).wch = s.wch := rfl
@[simp] theorem State.modLl_tnd (s : State) (f : Ll → Ll) : (s.modLl f).tnd = s.tnd := rfl
@[simp] theorem State.modLl_rlyTurn (s : State) (f : Ll → Ll) : (s.modLl f).rlyTurn = s.rlyTurn := rfl
@[simp] theorem State.modLl_free (s : State) (f : Ll → Ll) : (s.modLl f).free = s.free := rfl
@[simp] theorem State.modLl_pending (s : State) (f : Ll → Ll) : (s.modLl f).pending = s.pending := rfl

/-! ### `State.modLan` -/

@[simp] theorem State.modLan_day (s : State) (f : Lan → Lan) : (s.modLan f).day = s.day := rfl
@[simp] theorem State.modLan_staged (s : State) (f : Lan → Lan) : (s.modLan f).staged = s.staged := rfl
@[simp] theorem State.modLan_ports (s : State) (f : Lan → Lan) : (s.modLan f).ports = s.ports := rfl
@[simp] theorem State.modLan_clk (s : State) (f : Lan → Lan) : (s.modLan f).clk = s.clk := rfl
@[simp] theorem State.modLan_clus (s : State) (f : Lan → Lan) : (s.modLan f).clus = s.clus := rfl
@[simp] theorem State.modLan_chans (s : State) (f : Lan → Lan) : (s.modLan f).chans = s.chans := rfl
@[simp] theorem State.modLan_mem (s : State) (f : Lan → Lan) : (s.modLan f).mem = s.mem := rfl
@[simp] theorem State.modLan_chk (s : State) (f : Lan → Lan) : (s.modLan f).chk = s.chk := rfl
@[simp] theorem State.modLan_sec (s : State) (f : Lan → Lan) : (s.modLan f).sec = s.sec := rfl
@[simp] theorem State.modLan_regions (s : State) (f : Lan → Lan) : (s.modLan f).regions = s.regions := rfl
@[simp] theorem State.modLan_stackId (s : State) (f : Lan → Lan) : (s.modLan f).stackId = s.stackId := rfl
@[simp] theorem State.modLan_tenderPart (s : State) (f : Lan → Lan) : (s.modLan f).tenderPart = s.tenderPart := rfl
@[simp] theorem State.modLan_ready (s : State) (f : Lan → Lan) : (s.modLan f).ready = s.ready := rfl
@[simp] theorem State.modLan_bcn (s : State) (f : Lan → Lan) : (s.modLan f).bcn = s.bcn := rfl
@[simp] theorem State.modLan_flt (s : State) (f : Lan → Lan) : (s.modLan f).flt = s.flt := rfl
@[simp] theorem State.modLan_ls (s : State) (f : Lan → Lan) : (s.modLan f).ls = s.ls := rfl
@[simp] theorem State.modLan_pcie (s : State) (f : Lan → Lan) : (s.modLan f).pcie = s.pcie := rfl
@[simp] theorem State.modLan_pwr (s : State) (f : Lan → Lan) : (s.modLan f).pwr = s.pwr := rfl
@[simp] theorem State.modLan_ret (s : State) (f : Lan → Lan) : (s.modLan f).ret = s.ret := rfl
@[simp] theorem State.modLan_snap (s : State) (f : Lan → Lan) : (s.modLan f).snap = s.snap := rfl
@[simp] theorem State.modLan_kpr (s : State) (f : Lan → Lan) : (s.modLan f).kpr = s.kpr := rfl
@[simp] theorem State.modLan_lan (s : State) (f : Lan → Lan) : (s.modLan f).lan = f s.lan := rfl
@[simp] theorem State.modLan_ll (s : State) (f : Lan → Lan) : (s.modLan f).ll = s.ll := rfl
@[simp] theorem State.modLan_wch (s : State) (f : Lan → Lan) : (s.modLan f).wch = s.wch := rfl
@[simp] theorem State.modLan_tnd (s : State) (f : Lan → Lan) : (s.modLan f).tnd = s.tnd := rfl
@[simp] theorem State.modLan_rlyTurn (s : State) (f : Lan → Lan) : (s.modLan f).rlyTurn = s.rlyTurn := rfl
@[simp] theorem State.modLan_free (s : State) (f : Lan → Lan) : (s.modLan f).free = s.free := rfl
@[simp] theorem State.modLan_pending (s : State) (f : Lan → Lan) : (s.modLan f).pending = s.pending := rfl

/-! ### `State.modWch` -/

@[simp] theorem State.modWch_day (s : State) (f : Wch → Wch) : (s.modWch f).day = s.day := rfl
@[simp] theorem State.modWch_staged (s : State) (f : Wch → Wch) : (s.modWch f).staged = s.staged := rfl
@[simp] theorem State.modWch_ports (s : State) (f : Wch → Wch) : (s.modWch f).ports = s.ports := rfl
@[simp] theorem State.modWch_clk (s : State) (f : Wch → Wch) : (s.modWch f).clk = s.clk := rfl
@[simp] theorem State.modWch_clus (s : State) (f : Wch → Wch) : (s.modWch f).clus = s.clus := rfl
@[simp] theorem State.modWch_chans (s : State) (f : Wch → Wch) : (s.modWch f).chans = s.chans := rfl
@[simp] theorem State.modWch_mem (s : State) (f : Wch → Wch) : (s.modWch f).mem = s.mem := rfl
@[simp] theorem State.modWch_chk (s : State) (f : Wch → Wch) : (s.modWch f).chk = s.chk := rfl
@[simp] theorem State.modWch_sec (s : State) (f : Wch → Wch) : (s.modWch f).sec = s.sec := rfl
@[simp] theorem State.modWch_regions (s : State) (f : Wch → Wch) : (s.modWch f).regions = s.regions := rfl
@[simp] theorem State.modWch_stackId (s : State) (f : Wch → Wch) : (s.modWch f).stackId = s.stackId := rfl
@[simp] theorem State.modWch_tenderPart (s : State) (f : Wch → Wch) : (s.modWch f).tenderPart = s.tenderPart := rfl
@[simp] theorem State.modWch_ready (s : State) (f : Wch → Wch) : (s.modWch f).ready = s.ready := rfl
@[simp] theorem State.modWch_bcn (s : State) (f : Wch → Wch) : (s.modWch f).bcn = s.bcn := rfl
@[simp] theorem State.modWch_flt (s : State) (f : Wch → Wch) : (s.modWch f).flt = s.flt := rfl
@[simp] theorem State.modWch_ls (s : State) (f : Wch → Wch) : (s.modWch f).ls = s.ls := rfl
@[simp] theorem State.modWch_pcie (s : State) (f : Wch → Wch) : (s.modWch f).pcie = s.pcie := rfl
@[simp] theorem State.modWch_pwr (s : State) (f : Wch → Wch) : (s.modWch f).pwr = s.pwr := rfl
@[simp] theorem State.modWch_ret (s : State) (f : Wch → Wch) : (s.modWch f).ret = s.ret := rfl
@[simp] theorem State.modWch_snap (s : State) (f : Wch → Wch) : (s.modWch f).snap = s.snap := rfl
@[simp] theorem State.modWch_kpr (s : State) (f : Wch → Wch) : (s.modWch f).kpr = s.kpr := rfl
@[simp] theorem State.modWch_lan (s : State) (f : Wch → Wch) : (s.modWch f).lan = s.lan := rfl
@[simp] theorem State.modWch_ll (s : State) (f : Wch → Wch) : (s.modWch f).ll = s.ll := rfl
@[simp] theorem State.modWch_wch (s : State) (f : Wch → Wch) : (s.modWch f).wch = f s.wch := rfl
@[simp] theorem State.modWch_tnd (s : State) (f : Wch → Wch) : (s.modWch f).tnd = s.tnd := rfl
@[simp] theorem State.modWch_rlyTurn (s : State) (f : Wch → Wch) : (s.modWch f).rlyTurn = s.rlyTurn := rfl
@[simp] theorem State.modWch_free (s : State) (f : Wch → Wch) : (s.modWch f).free = s.free := rfl
@[simp] theorem State.modWch_pending (s : State) (f : Wch → Wch) : (s.modWch f).pending = s.pending := rfl

/-! ### `State.modMbx` -/

@[simp] theorem State.modMbx_day (s : State) (m : Nat) (f : Mbx → Mbx) : (s.modMbx m f).day = s.day := rfl
@[simp] theorem State.modMbx_staged (s : State) (m : Nat) (f : Mbx → Mbx) : (s.modMbx m f).staged = s.staged := rfl
@[simp] theorem State.modMbx_ports (s : State) (m : Nat) (f : Mbx → Mbx) : (s.modMbx m f).ports = s.ports := rfl
@[simp] theorem State.modMbx_clk (s : State) (m : Nat) (f : Mbx → Mbx) : (s.modMbx m f).clk = s.clk := rfl
@[simp] theorem State.modMbx_clus (s : State) (m : Nat) (f : Mbx → Mbx) : (s.modMbx m f).clus = s.clus := rfl
@[simp] theorem State.modMbx_chans (s : State) (m : Nat) (f : Mbx → Mbx) : (s.modMbx m f).chans = s.chans := rfl
@[simp] theorem State.modMbx_mem (s : State) (m : Nat) (f : Mbx → Mbx) : (s.modMbx m f).mem = s.mem := rfl
@[simp] theorem State.modMbx_chk (s : State) (m : Nat) (f : Mbx → Mbx) : (s.modMbx m f).chk = s.chk := rfl
@[simp] theorem State.modMbx_sec (s : State) (m : Nat) (f : Mbx → Mbx) : (s.modMbx m f).sec = s.sec := rfl
@[simp] theorem State.modMbx_regions (s : State) (m : Nat) (f : Mbx → Mbx) : (s.modMbx m f).regions = s.regions := rfl
@[simp] theorem State.modMbx_stackId (s : State) (m : Nat) (f : Mbx → Mbx) : (s.modMbx m f).stackId = s.stackId := rfl
@[simp] theorem State.modMbx_tenderPart (s : State) (m : Nat) (f : Mbx → Mbx) : (s.modMbx m f).tenderPart = s.tenderPart := rfl
@[simp] theorem State.modMbx_ready (s : State) (m : Nat) (f : Mbx → Mbx) : (s.modMbx m f).ready = s.ready := rfl
@[simp] theorem State.modMbx_bcn (s : State) (m : Nat) (f : Mbx → Mbx) : (s.modMbx m f).bcn = s.bcn := rfl
@[simp] theorem State.modMbx_flt (s : State) (m : Nat) (f : Mbx → Mbx) : (s.modMbx m f).flt = s.flt := rfl
@[simp] theorem State.modMbx_ls (s : State) (m : Nat) (f : Mbx → Mbx) : (s.modMbx m f).ls = s.ls := rfl
@[simp] theorem State.modMbx_pcie (s : State) (m : Nat) (f : Mbx → Mbx) : (s.modMbx m f).pcie = s.pcie := rfl
@[simp] theorem State.modMbx_pwr (s : State) (m : Nat) (f : Mbx → Mbx) : (s.modMbx m f).pwr = s.pwr := rfl
@[simp] theorem State.modMbx_ret (s : State) (m : Nat) (f : Mbx → Mbx) : (s.modMbx m f).ret = s.ret := rfl
@[simp] theorem State.modMbx_snap (s : State) (m : Nat) (f : Mbx → Mbx) : (s.modMbx m f).snap = s.snap := rfl
@[simp] theorem State.modMbx_kpr (s : State) (m : Nat) (f : Mbx → Mbx) : (s.modMbx m f).kpr = { s.kpr with mbx := tmod {} s.kpr.mbx m f } := rfl
@[simp] theorem State.modMbx_lan (s : State) (m : Nat) (f : Mbx → Mbx) : (s.modMbx m f).lan = s.lan := rfl
@[simp] theorem State.modMbx_ll (s : State) (m : Nat) (f : Mbx → Mbx) : (s.modMbx m f).ll = s.ll := rfl
@[simp] theorem State.modMbx_wch (s : State) (m : Nat) (f : Mbx → Mbx) : (s.modMbx m f).wch = s.wch := rfl
@[simp] theorem State.modMbx_tnd (s : State) (m : Nat) (f : Mbx → Mbx) : (s.modMbx m f).tnd = s.tnd := rfl
@[simp] theorem State.modMbx_rlyTurn (s : State) (m : Nat) (f : Mbx → Mbx) : (s.modMbx m f).rlyTurn = s.rlyTurn := rfl
@[simp] theorem State.modMbx_free (s : State) (m : Nat) (f : Mbx → Mbx) : (s.modMbx m f).free = s.free := rfl
@[simp] theorem State.modMbx_pending (s : State) (m : Nat) (f : Mbx → Mbx) : (s.modMbx m f).pending = s.pending := rfl

/-! ### Reads of the tables -/

@[simp] theorem State.port_modPort (s : State) (p q : Nat) (f : Port → Port) :
    (s.modPort p f).port q = if q = p then f (s.port p) else s.port q := by simp [State.port, tget_tmod]
@[simp] theorem State.chan_modChan (s : State) (c d : Nat) (f : Chan → Chan) :
    (s.modChan c f).chan d = if d = c then f (s.chan c) else s.chan d := by simp [State.chan, tget_tmod]
@[simp] theorem State.clu_modClu (s : State) (k j : Nat) (f : Clu → Clu) :
    (s.modClu k f).clu j = if j = k then f (s.clu k) else s.clu j := by simp [State.clu, tget_tmod]
@[simp] theorem State.mbx_modMbx (s : State) (m n : Nat) (f : Mbx → Mbx) :
    (s.modMbx m f).mbx n = if n = m then f (s.mbx m) else s.mbx n := by simp [State.mbx, tget_tmod]
@[simp] theorem State.tclu_modTclu (s : State) (t u : Nat) (f : TndClu → TndClu) :
    (s.modTclu t f).tclu u = if u = t then f (s.tclu t) else s.tclu u := by simp [State.tclu, State.modTclu, tget_tmod]
@[simp] theorem Sched.bank_modBank (q : Sched) (b c : Nat) (f : Bank → Bank) :
    (q.modBank b f).bank c = if c = b then f (q.bank b) else q.bank c := by simp [Sched.bank, Sched.modBank, tget_tmod]
@[simp] theorem Sched.slice_modSlice (q : Sched) (d e : Nat) (f : Slice → Slice) :
    (q.modSlice d f).slice e = if e = d then f (q.slice d) else q.slice e := by simp [Sched.slice, Sched.modSlice, tget_tmod]

@[simp] theorem State.modSched_q (s : State) (c : Nat) (f : Sched → Sched) :
    ((s.modSched c f).chan c).q = f (s.chan c).q := by simp [State.modSched]
@[simp] theorem State.modSched_i (s : State) (c d : Nat) (f : Sched → Sched) :
    ((s.modSched c f).chan d).i = (s.chan d).i := by
  simp only [State.modSched, State.chan_modChan]; split <;> simp_all
@[simp] theorem State.modInteg_i (s : State) (c : Nat) (f : Integ → Integ) :
    ((s.modInteg c f).chan c).i = f (s.chan c).i := by simp [State.modInteg]
@[simp] theorem State.modInteg_q (s : State) (c d : Nat) (f : Integ → Integ) :
    ((s.modInteg c f).chan d).q = (s.chan d).q := by
  simp only [State.modInteg, State.chan_modChan]; split <;> simp_all

/-- A change of the scheduler of a channel changes the channels only, and of the integrity unit likewise. -/
theorem State.modSched_frame (s : State) (c : Nat) (f : Sched → Sched) :
    s.modSched c f = { s with chans := (s.modSched c f).chans } := rfl
theorem State.modInteg_frame (s : State) (c : Nat) (f : Integ → Integ) :
    s.modInteg c f = { s with chans := (s.modInteg c f).chans } := rfl

/-- An event raised by a unit changes the line to the collector only. -/
theorem raise_frame (src inst : Nat) (c : Cls) (d : BitVec 64) (s : State) :
    raise src inst c d s = { s with flt := (raise src inst c d s).flt } := rfl
@[simp] theorem raise_line (src inst : Nat) (c : Cls) (d : BitVec 64) (s : State) :
    (raise src inst c d s).flt.line = s.flt.line ++ [{ src := src, inst := inst, cls := c, detail := d }] := rfl

/-- A change of a resident stream changes the Tender clusters only. -/
theorem modRes_frame (t n : Nat) (f : Res → Res) (s : State) : modRes t n f s = { s with tnd := (modRes t n f s).tnd } := rfl

end Sys2Proof.Machine
end

