-- ==== Sys2Proof/Laws/Collect.lean ====
section
/-! SUPPORT. What the collector and the end of a command do with events that lead to no lightship entry: they change the fault
collector and the Beacon unit only. -/

namespace Sys2Proof.Machine

/-- From `s` to `t` only the collector and the Beacon unit changed. -/
abbrev OnlyFlt (s t : State) : Prop := t = { s with flt := t.flt, bcn := t.bcn }

/-- An event that enters no lightship mode: not of class C3 and without a cause of R366. -/
abbrev Quiet (e : FaultEv) : Prop := e.cls ≠ .c3 ∧ e.lsCause = 0

theorem OnlyFlt.refl (s : State) : OnlyFlt s s := rfl

theorem OnlyFlt.trans {s t u : State} (h : OnlyFlt s t) (k : OnlyFlt t u) : OnlyFlt s u := by
  unfold OnlyFlt at *; rw [h] at k; exact k

/-- What holds of both states of a choice holds of the one taken. -/
theorem ite_state {P : State → Prop} {c : Prop} [Decidable c] {a b : State} (ha : P a) (hb : P b) : P (if c then a else b) := by
  split <;> assumption

/-- A record captured or kept waiting changes the Beacon unit only. -/
theorem emit_frame (e : Ev) (s : State) : emit e s = { s with bcn := (emit e s).bcn } := by
  unfold emit
  simp only
  split
  · rfl
  · split <;> rfl

theorem onlyFlt_emit (e : Ev) (s : State) : OnlyFlt s (emit e s) := by
  have h := emit_frame e s
  have hf : (emit e s).flt = s.flt := by rw [h]
  unfold OnlyFlt; rw [hf]; exact h

/-- A Foghorn pulse changes the collector only. -/
theorem onlyFlt_fhPulse (n : Nat) (s : State) : OnlyFlt s (fhPulse n s) := by
  unfold fhPulse; split <;> rfl

@[simp] theorem emit_flt (e : Ev) (s : State) : (emit e s).flt = s.flt := by rw [emit_frame]

/-- READY records change the Beacon unit only. -/
theorem readyRecords_frame (old : BitVec 48) (s : State) : readyRecords old s = { s with bcn := (readyRecords old s).bcn } := by
  unfold readyRecords
  simp only
  split
  · rfl
  · rename_i hno; clear hno
    generalize List.range 48 = l
    generalize (0#32 ++ portReady s ++ (0#16 ++ s.ready)) = pay
    generalize readyBits s = now
    induction l generalizing s with
    | nil => rfl
    | cons i l ih =>
      rw [List.foldl_cons]
      split
      · have h := ih (emit { unit := 0x0F, inst := i, cls := .c0, payload := .value pay } s)
        generalize List.foldl _ _ l = u at h ⊢
        rw [emit_frame] at h
        exact h
      · exact ih s

theorem cause_quiet (e : FaultEv) (h : Quiet e) : (if e.cls == .c3 then 2 else e.lsCause) = 0 := by
  have : (e.cls == Cls.c3) = false := by simpa using h.1
  simp [this, h.2]

/-- A quiet event changes the collector and the Beacon unit only. -/
theorem onlyFlt_collectOne (e : FaultEv) (s : State) (h : Quiet e) : OnlyFlt s (collectOne e s) := by
  have hc : (e.cls == Cls.c3) = false := by simpa using h.1
  unfold collectOne
  simp only [hc, h.2, Bool.and_false, Bool.false_eq_true, if_false, ne_eq, not_true_eq_false]
  have hx : ∀ f : Flt → Flt, ∀ e c, OnlyFlt s (if c = true then emit e (s.modFlt f) else s.modFlt f) := fun f e c =>
    ite_state (OnlyFlt.trans rfl (onlyFlt_emit _ _)) rfl
  exact ite_state ((hx _ _ _).trans (onlyFlt_fhPulse _ _)) (hx _ _ _)

theorem onlyFlt_foldl (l : List FaultEv) (s : State) (h : ∀ e ∈ l, Quiet e) :
    OnlyFlt s (l.foldl (fun s e => collectOne e s) s) := by
  induction l generalizing s with
  | nil => rfl
  | cons e l ih =>
    exact (onlyFlt_collectOne e s (h e List.mem_cons_self)).trans
      (ih _ (fun x hx => h x (List.mem_cons_of_mem _ hx)))

theorem mem_insertBy {α : Type} (le : α → α → Bool) (x y : α) (l : List α) : y ∈ insertBy le x l → y = x ∨ y ∈ l := by
  induction l with
  | nil => simp [insertBy]
  | cons z l ih =>
    unfold insertBy
    split
    · intro h; rcases List.mem_cons.1 h with h | h
      · exact .inl h
      · exact .inr h
    · intro h; rcases List.mem_cons.1 h with h | h
      · exact .inr (h ▸ List.mem_cons_self)
      · rcases ih h with h | h
        · exact .inl h
        · exact .inr (List.mem_cons_of_mem _ h)

theorem mem_sortBy {α : Type} (le : α → α → Bool) (y : α) (l : List α) : y ∈ sortBy le l → y ∈ l := by
  induction l with
  | nil => exact id
  | cons x l ih =>
    intro h
    rcases mem_insertBy le x y (sortBy le l) h with h | h
    · exact h ▸ List.mem_cons_self
    · exact List.mem_cons_of_mem _ (ih h)

@[simp] theorem emit_line (e : Ev) (s : State) : (emit e s).flt.line = s.flt.line := by simp
@[simp] theorem fhPulse_line (n : Nat) (s : State) : (fhPulse n s).flt.line = s.flt.line := by
  unfold fhPulse; split <;> rfl

@[simp] theorem fhPulse_src (n : Nat) (s : State) : (fhPulse n s).flt.src = s.flt.src := by
  unfold fhPulse; split <;> rfl

theorem collectOne_line (e : FaultEv) (s : State) (h : Quiet e) : (collectOne e s).flt.line = s.flt.line := by
  have hc : (e.cls == Cls.c3) = false := by simpa using h.1
  unfold collectOne
  simp only [hc, h.2, Bool.and_false, Bool.false_eq_true, if_false, ne_eq, not_true_eq_false]
  have hx : ∀ f : Flt → Flt, ∀ e c, (f s.flt).line = s.flt.line →
      (if c = true then emit e (s.modFlt f) else s.modFlt f).flt.line = s.flt.line := fun f e c hf =>
    ite_state (P := fun t => t.flt.line = s.flt.line) (by rw [emit_flt]; exact hf) hf
  exact ite_state (P := fun t => t.flt.line = s.flt.line) (by rw [fhPulse_line]; exact hx _ _ _ rfl) (hx _ _ _ rfl)

/-- Quiet events on the line are all taken; only the collector and the Beacon unit change, and the line is empty after. -/
theorem collectLine_quiet (s : State) (h : ∀ e ∈ s.flt.line, Quiet e) :
    OnlyFlt s (collectLine s) ∧ (collectLine s).flt.line = [] := by
  have hq : ∀ e ∈ sortBy lineOrder s.flt.line, Quiet e := fun e he => h e (mem_sortBy _ _ _ he)
  unfold collectLine
  refine ⟨OnlyFlt.trans (t := s.modFlt (fun f => { f with line := [] })) rfl (onlyFlt_foldl _ _ hq), ?_⟩
  generalize sortBy lineOrder s.flt.line = l at hq
  have : (s.modFlt (fun f => { f with line := [] })).flt.line = [] := rfl
  revert this
  generalize s.modFlt (fun f => { f with line := [] }) = t
  intro ht
  induction l generalizing t with
  | nil => exact ht
  | cons e l ih =>
    exact ih (fun x hx => hq x (List.mem_cons_of_mem _ hx)) _
      (by rw [collectOne_line _ _ (hq e List.mem_cons_self)]; exact ht)

/-- The collector after quiet events, where no controller waits to be stopped. -/
theorem collect_quiet (s : State) (hc : s.ls.ctl = false) (h : ∀ e ∈ s.flt.line, Quiet e) :
    OnlyFlt s (collect s) ∧ Calm (collect s) := by
  by_cases hl : s.flt.line = []
  · rw [collect_calm s ⟨hl, hc⟩]; exact ⟨rfl, hl, hc⟩
  · obtain ⟨h1, h2⟩ := collectLine_quiet s h
    have h3 : (collectLine s).ls.ctl = false := by rw [h1]; exact hc
    have hp : collectPass s = collectLine s := by simp [collectPass, hl, h3]
    have hp2 : collectPass (collectLine s) = collectLine s := by simp [collectPass, h2, h3]
    have : collect s = collectLine s := by simp [collect, hl, hp, hp2]
    rw [this]; exact ⟨h1, h2, h3⟩

/-- READY records leave the collector and lightship mode as they are. -/
theorem readyRecords_quiet (old : BitVec 48) (s : State) :
    OnlyFlt s (readyRecords old s) ∧ (Calm s → Calm (readyRecords old s)) := by
  have h := readyRecords_frame old s
  generalize readyRecords old s = t at h
  have hf : t.flt = s.flt := by rw [h]
  have hl : t.ls = s.ls := by rw [h]
  refine ⟨?_, fun hc => ⟨by rw [hf]; exact hc.1, by rw [hl]; exact hc.2⟩⟩
  unfold OnlyFlt
  rw [hf]; exact h

theorem settle_eq (s0 s : State) (hr : (collect s).ready = s0.ready) :
    settle s0 s = readyRecords (readyBits s0) (collect s) := by
  unfold settle
  simp only [hr, if_true]

/-- The end of a command that raised quiet events, and changed no readiness: only the collector and the Beacon unit change. -/
theorem settle_quiet (s0 s : State) (hc : s.ls.ctl = false) (h : ∀ e ∈ s.flt.line, Quiet e) (hr : s.ready = s0.ready) :
    OnlyFlt s (settle s0 s) ∧ Calm (settle s0 s) := by
  obtain ⟨h1, h2⟩ := collect_quiet s hc h
  have h3 : (collect s).ready = s0.ready := by
    have : (collect s).ready = s.ready := by rw [h1]
    rw [this, hr]
  rw [settle_eq s0 s h3]
  obtain ⟨h4, h5⟩ := readyRecords_quiet (readyBits s0) (collect s)
  exact ⟨h1.trans h4, h5 h2⟩

/-- A quiet event sets its bit of the fault word, and the bits that were set stay set. -/
theorem collectOne_src (e : FaultEv) (s : State) (h : Quiet e) : (collectOne e s).flt.src = s.flt.src ||| 1#56 <<< e.src := by
  have hc : (e.cls == Cls.c3) = false := by simpa using h.1
  unfold collectOne
  simp only [hc, h.2, Bool.and_false, Bool.false_eq_true, if_false, ne_eq, not_true_eq_false]
  have hx : ∀ f : Flt → Flt, ∀ v c, (f s.flt).src = s.flt.src ||| 1#56 <<< e.src →
      (if c = true then emit v (s.modFlt f) else s.modFlt f).flt.src = s.flt.src ||| 1#56 <<< e.src := fun f v c hf =>
    ite_state (P := fun t => t.flt.src = s.flt.src ||| 1#56 <<< e.src) (by rw [emit_flt]; exact hf) hf
  exact ite_state (P := fun t => t.flt.src = s.flt.src ||| 1#56 <<< e.src) (by rw [fhPulse_src]; exact hx _ _ _ rfl) (hx _ _ _ rfl)

/-- What changed only the collector and the Beacon unit kept memory's form. -/
theorem inv_onlyFlt {s t : State} (h : OnlyFlt s t) (hi : Inv s) : Inv t :=
  inv_congr s t (by rw [h]) (by rw [h]) hi

end Sys2Proof.Machine
end

