-- ==== Sys2Proof/Tests/Slice0.lean ====
section
/-! SUPPORT. Tests: an ill-formed term for each check of `Instr.wf`; the worked examples of the spec; and, for every obligation,
states and operands that meet the hypotheses of each of its clauses together (the theorems `wit_…`). -/

namespace Sys2Proof.Tests

open Sys2Proof Sys2Proof.Machine

set_option Elab.async false

/-! ### Small states -/

/-- Port 3, which the tests use. -/
def P : PortId := 3

/-- A link that is ACTIVE with signal on every lane. -/
def lk : Link := { lstate := .active, sig := BitVec.allOnes 78 }

/-- Ports 3 and 7 ACTIVE, every unit ready, every domain on, Keeper in RUN, stack identifier 5, tick 77. -/
def base : State := { State.reset with
  ports := [(3, { Port.reset with link := lk }), (7, { Port.reset with link := lk })]
  stackId := 5, ready := 0xFFFF, rlyTurn := 3, day := { tick := 77 }, kpr := { st := .run }
  tnd := { written := 0xFF }
  pcie := { mse := true, linkUp := true, cfgReady := true }
  pwr := { dom := (List.range 50).map (fun n => (n, DomSt.on)), perst := false, started := true } }

/-- The next state that an outcome answers. -/
def nx (o : Host.Outcome State Fault Refusal) : Option State := match o with | .next t => some t | _ => none

/-- A property of the next state that a command answers. -/
def after (i : Instr) (s : State) (f : State → Bool) : Bool := match exec i s with | .next t => f t | _ => false

/-- The state with port 3 changed. -/
def onP (f : Port → Port) : State := base.modPort 3 f

/-- A frame that the ports of `base` expect. -/
def h0 : Hdr := { fseq := 0, ack := 0x3FF }

/-- A request with tag 17 to address `a`. -/
def rq (a : Nat) (m : Nat := 0) (o : Nat := 0) : ReqF :=
  { tag := 17, sect := 0, stack := 5, addr := BitVec.ofNat 37 a, mask := BitVec.ofNat 16 m, operand := BitVec.ofNat 32 o }

/-! ### Well-formedness: one ill-formed term for each check -/

def long : ReqF := { rq 0 with data := List.replicate 129 0 }

theorem test_wf_frame : ∀ i ∈ [Instr.rd64 P h0 long, .rd128 P h0 long, .wr64 P h0 long, .wr128 P h0 long, .wrm P h0 long,
    .atAdd P h0 long, .atSwap P h0 long, .atCas P h0 long, .atAnd P h0 long, .atOr P h0 long, .atXor P h0 long, .atSmax P h0 long,
    .atSmin P h0 long, .atUmax P h0 long, .atUmin P h0 long, .fence P h0 long, .relayed P h0 long,
    .reservedOpcodeRequest P h0 0x03 long], i.wf = false := by decide +kernel
theorem test_wf_bell : ∀ i ∈ [Instr.start P h0 (rq 0), .resume P h0 (rq 0), .abort P h0 (rq 0),
    .doorbellUndefinedCommand P h0 (rq 0 0 0x10000)], i.wf = false := by decide +kernel
theorem test_wf_inner : ∀ i ∈ [Instr.relayed P h0 (rq 0 0 0x50), .raccAdd P h0 (rq 0 0 0x51), .raccMin P h0 (rq 0 0 0x50),
    .raccMax P h0 (rq 0 0 0x53), .raccFw P h0 (rq 0 0 0x52)], i.wf = false := by decide +kernel
/-- A RELAY_RSP of RTAG 17. -/
def rsp0 : RspF := { tag := 17, sect := 0, stack := 7, orig := 5, status := 0, detail := 0 }

theorem test_wf_relayRsp : (Instr.relayRsp P h0 { rsp0 with data := List.replicate 129 0 }).wf = false := by decide +kernel
theorem test_wf_reserved : (Instr.reservedOpcodeRequest P h0 0x12 (rq 0)).wf = false := by decide +kernel
theorem test_wf_lane : ∀ i ∈ [Instr.swapReq P h0 .up 76 0, .mirror P h0 .up 76 0, .switched P h0 .up 76 0, .swapFail P h0 .up 76 0,
    .restoreReq P h0 .up 76 0, .restore P h0 .up 76 0, .restored P h0 .up 76 0, .repair P h0 .up 76 0, .bistResult P h0 .up 76 0,
    .laneCtlDiscard P h0 3 75], i.wf = false := by decide +kernel
theorem test_wf_act : (Instr.act 0 0 24576).wf = false := by decide +kernel
theorem test_wf_granule : ∀ i ∈ [Instr.mergeFillReturn 0 0x60000000 [], .mergeEntryTimeout 0 0x60000000 []], i.wf = false := by
  decide +kernel
theorem test_wf_vpn : (Instr.xlateWalkComplete 0 (2 ^ 36)).wf = false := by decide +kernel
theorem test_wf_scrub : (Instr.sramScrubRead 0 (List.replicate 17 .clean)).wf = false := by decide +kernel
theorem test_wf_sqClear : (Instr.sqClear 0x22 0).wf = false := by decide +kernel
theorem test_wf_lantern : ∀ r ∈ [({ die := List.replicate 65 none, base := [], volt := [] } : LanRound),
    { die := [], base := List.replicate 13 none, volt := [] }, { die := [], base := [], volt := List.replicate 11 0 }],
    (Instr.lanternPublish r).wf = false := by decide +kernel
theorem test_wf_senses : (Instr.bank0Sense [{ bank := 1, word := 0, normal := 0, margin := 0 }]).wf = false ∧
    (Instr.bulkSense [{ bank := 0, word := 0, normal := 0, margin := 0 }]).wf = false := by decide +kernel
theorem test_wf_tsvs : (Instr.clusterStageTsvs 1 [(3, 0, 0)]).wf = false ∧ (Instr.clusterStageTsvs 1 [(4, 324, 0)]).wf = false ∧
    (Instr.tsvBistSlice [16]).wf = false := by decide +kernel
theorem test_wf_bar0 : ∀ w ∈ [({ off := 0x10000, words := [0], be := [0xF] } : Sys2Proof.BusWrite),
    { off := 0, words := [], be := [] }, { off := 0, words := [0, 0], be := [0xF] }], (Instr.bar0Write w).wf = false := by
  decide +kernel
theorem test_wf_bar2 : ∀ i ∈ [Instr.bar2Read 0 0, .bar2Read 0xFFFFF 2, .bar2Write 0 [] [] false, .bar2Write 0 [1] [] false,
    .bar2Write 0xFFFFF [1, 2] [true, true] false], i.wf = false := by decide +kernel

/-! ### Worked examples of the spec -/

/-- The worked decode of R54. -/
theorem test_interleave : let a := 0x0D8A3C1D40
    rowOf a = 13864 ∧ bankOf a = 80 ∧ colOf a = 0 ∧ chanOf a = 24 ∧ cluOf (chanOf a) = 6 ∧ chunkOf a = 0 ∧ granOf a = 1 ∧
      chanOf 0x0D8A3C1E40 = 27 ∧ addrOf 24 80 13864 1 = a := by decide +kernel

/-- The worked example of the sector classes (R198, R202): ticks 30,001, 41,001, 90,001 and 120,004. -/
theorem test_effective_counts : effCompute [0, 0, 0, 2, 0, 3, 0] 6 0 = ([0, 0, 0, 2, 0, 3, 0], 5, 5) ∧
    effCompute [0, 0, 0, 2, 0, 3, 0] 5 0 = ([0, 0, 0, 2, 0, 2, 0], 4, 5) ∧
    effCompute [0, 0, 0, 2, 0, 3, 0] 5 1 = ([0, 0, 0, 1, 0, 1, 0], 4, 10) ∧
    effCompute [0, 0, 0, 2, 0, 3, 0] 6 1 = ([0, 0, 0, 1, 0, 1, 0], 5, 10) := by decide +kernel

/-- A step to a higher frequency raises D_MIN only after T3 (R197, and tick 120,001 of the same example). -/
theorem test_effective_step : (({ stepTick := 2, step := 0, stepFrom := 2, stepTo := 0 } : Clu).effStep = 2) ∧
    (({ stepTick := 4, step := 0, stepFrom := 2, stepTo := 0 } : Clu).effStep = 0) := by decide +kernel

/-- The context of stream 74,565 (R296). -/
theorem test_context_address : ctxAddr 74565 = 0x17FE91A280 := by decide +kernel

/-- The worked example of the fixed-window sum (R230): 0.1 and 2.5 with E = -40, and 1.0e-13, which only sets UNDER. -/
theorem test_fixed_window : let d1 := (applyRacc (-40) .fw .fp64 1 0 (leBytes 8 0x3FB999999999999A) (List.replicate 64 0)).1
    let d2 := (applyRacc (-40) .fw .fp64 1 0 (leBytes 8 0x4004000000000000) d1).1
    leNat (d1.take 16) = 109951162778 ∧ leNat (d2.take 16) = 2858730232218 ∧
      applyRacc (-40) .fw .fp64 1 0 (leBytes 8 0x3D3C25C268497682) d2 = (d2, 8) := by decide +kernel

/-- The ROW word of the worked example of the Light list (R406). -/
theorem test_row_word : parseRep 0x1B628A181 = some (.row 24 80 13864 3) := by decide +kernel

/-- The slice of group 169 in the worked example of R441: positions 40 to 44 travel on spares 3 to 7. -/
theorem test_tsv_slice : sliceOf (base.modInteg 9 (fun i => { i with spareD := [(0, .carries 270), (1, .carries 269), (2, .carries 268)] }))
    169 0 = some ([(0, some 3), (1, some 4), (2, some 5), (3, some 6), (4, some 7)], 5) := by decide +kernel

/-! ### Witnesses: requests -/

/-- A RELAYED request for this stack, and the port that may relay. -/
def relayRq (inner : Nat) (m : Nat := 0) : ReqF := { rq 0 m inner with orig := 7 }
def onRelay : State := onP (fun x => { x with rly := { x.rly with en := true, credit := 4 } })

theorem wit_MemoryRequestQueued : Claims.Expected base P h0 ∧ Claims.Admissible (base.port 3) (rq 128) ∧
    (∀ row ∈ Claims.memoryRows P h0 (rq 128), row.2.1 ≠ 0x06 → Claims.FieldsOk row.2.1 (rq 128)) ∧
    Claims.FieldsOk 0x06 (rq 128 3) ∧ Claims.FieldsOk 0x04 { rq 64 with poison := true } := by decide +kernel

theorem wit_RelayFrameQueued : Claims.Expected onRelay P h0 ∧ Claims.Admissible (onRelay.port 3) (relayRq 0x01) ∧
    Claims.InnerOk (relayRq 0x01) ∧ Claims.InnerOk (Claims.withInner 0x50 (relayRq 0 1)) ∧
    Claims.InnerOk (Claims.withInner 0x53 (relayRq 0 1)) ∧ onRelay.stackId ≠ 0xFFF ∧ (onRelay.port 3).rly.en = true ∧
    onRelay.tenderPart = true := by
  dsimp only [Claims.InnerOk]; repeat' apply And.intro
  all_goals decide +kernel

theorem wit_RefusedRequestAnswered : (Claims.Expected base P h0 ∧ Claims.Sends (base.port 3) ∧
      ((base.port 3).fr.tag 17).outstanding = false ∧ downOpcode 0x03 = false) ∧
    (let s := onP (fun x => { x with fr := { x.fr with fMgr := true } })
     Claims.Expected s P h0 ∧ Claims.Sends (s.port 3) ∧ ((s.port 3).fr.tag 17).outstanding = false ∧
       (s.port 3).fr.fenced = true) := by decide +kernel

/-- Port 3 with an earlier request that is committed. -/
def busy : State := onP (fun x => { x with fr := { x.fr with arr := 4, tags := [(2, { st := .issued, arr := 1 })] } })

theorem wit_FenceWaitsThenCompletes : Claims.Unused (base.port 3) ∧ (Claims.Expected base P h0 ∧ Claims.Sends (base.port 3) ∧
      Claims.Admissible (base.port 3) (rq 0) ∧ (rq 0).poison = false ∧ (rq 0).stack = base.stackId ∧
      budgetsAdmit base.sec 3 0 = true) ∧
    (Claims.Expected busy P h0 ∧ Claims.Admissible (busy.port 3) (rq 0) ∧ tget [] (busy.port 3).fr.cq 0 = [] ∧
      (rq 0).stack = busy.stackId ∧
      ∃ y ∈ (busy.port 3).fr.tags, y.1 ≠ 17 ∧ y.2.arr < (busy.port 3).fr.arr ∧ (busy.port 3).completed y.1 = false) :=
  ⟨⟨by decide +kernel, fun _ => rfl⟩, by decide +kernel⟩

/-! ### Witnesses: doorbells, retry, link frames -/

/-- Stream 9 resident in cluster 2 with state `st`, generation 3, and a run of element 4. -/
def res9 (st : Nat) : Res :=
  { stream := 9
    ctx := { state := st, gen := 3, tcl := 2, cursor := 4, desc := 64, dloaded := true, dcopy := [0x01, 0, 0, 0, 10] }
    run := some { els := [{ i := 4, ph := .src, st := .want, acc := .read 0 8 }] } }
def withRes (r : Res) : State := { base with tnd := { base.tnd with clus := [(2, { res := [r] })] } }
/-- A doorbell for stream 9, generation 3, command `c`. -/
def bell (c : Nat) : ReqF := rq 9 0 (3 + c * 65536)

theorem wit_DoorbellsDecided :
    Claims.Decided (withRes (res9 sIDLE)) P h0 (Claims.withBell 1 (bell 0)) 2 (res9 sIDLE) ∧
    (Claims.Decided (withRes (res9 sSTOPPED)) P h0 (Claims.withBell 2 (bell 0)) 2 (res9 sSTOPPED) ∧
      (res9 sSTOPPED).ctx.cause ≠ cDESC) ∧
    (Claims.Decided (withRes (res9 sRUNNING)) P h0 (Claims.withBell 3 (bell 0)) 2 (res9 sRUNNING) ∧
      (res9 sRUNNING).ctx.cursor ≠ (Desc.of (res9 sRUNNING).ctx.dcopy).count ∧ ((res9 sRUNNING).run.map Run.abort) = some none) ∧
    Claims.Decided (withRes (res9 sSTOPPED)) P h0 (Claims.withBell 9 (bell 9)) 2 (res9 sSTOPPED) := by
  dsimp only [Claims.Decided]; repeat' apply And.intro
  all_goals first | decide +kernel | exact fun _ => rfl

/-- Two unacknowledged frames, the first of which answers tags 17 and 18. -/
def frames : List TxFrame :=
  [{ fseq := 5, body := .rsp 0x84 17 0 5 0 0 0 [18] [], sent := 0 }, { fseq := 6, body := .credits [1], sent := 0 }]
def waiting : State := onP (fun x => { x with
  rty := { x.rty with replay := frames, txNext := 7 }
  fr := { x.fr with tags := [(17, { st := .answered }), (18, { st := .answered }), (19, { st := .issued })] } })

theorem wit_AckFreesFramesAndTags : Calm waiting ∧ receiving (waiting.port 3) = true ∧
    ackCovers (waiting.port 3).rty 5 = some 1 ∧ (waiting.port 3).rty.unsent = [] ∧ (waiting.port 3).rty.nakOwed = false := by
  decide +kernel

/-- The same in NAK_WAIT, with `n` NAKs and timeouts. -/
def nakWait (n : Nat) : State := waiting.modPort 3 (fun x => { x with rty := { x.rty with nakWait := true, naks := n, episodes := n } })

theorem wit_ReplayEpisodeResends : (Calm waiting ∧ receiving (waiting.port 3) = true ∧ Claims.Idles (waiting.port 3) ∧
      (waiting.port 3).rty.replay ≠ [] ∧ ackCovers (waiting.port 3).rty 4 = some 0 ∧ ackCovers (waiting.port 3).rty (5 - 1) = some 0) ∧
    (Calm base ∧ receiving (base.port 3) = true ∧ (base.port 3).rty.replay = [] ∧ (base.port 3).rty.unsent = [] ∧
      (base.port 3).rty.nakOwed = false ∧ ackCovers (base.port 3).rty 0x3FF = some 0 ∧ ackCovers (base.port 3).rty (0 - 1) = some 0) ∧
    ((waiting.port 3).link.lstate = .active ∧ (waiting.port 3).rty.episodes < 4) ∧
    (Calm (nakWait 2) ∧ receiving ((nakWait 2).port 3) = true ∧ Claims.Idles ((nakWait 2).port 3) ∧
      ((nakWait 2).port 3).rty.nakWait = true ∧
      ((nakWait 2).port 3).rty.naks < 4) := by decide +kernel

theorem wit_RetryLimitRetrains : Calm (nakWait 4) ∧ receiving ((nakWait 4).port 3) = true ∧
    ((nakWait 4).port 3).rty.nakWait = true ∧ 4 ≤ ((nakWait 4).port 3).rty.naks ∧ ((nakWait 4).port 3).rty.replay ≠ [] ∧
    4 ≤ ((nakWait 4).port 3).rty.episodes := by decide +kernel

theorem wit_CrcFailureNaks : (Calm base ∧ receiving (base.port 3) = true ∧ Claims.Idles (base.port 3) ∧
      (base.port 3).rty.nakWait = false) ∧
    (Calm (nakWait 2) ∧ receiving ((nakWait 2).port 3) = true ∧ Claims.Idles ((nakWait 2).port 3) ∧
      ((nakWait 2).port 3).rty.nakWait = true) := by decide +kernel

theorem wit_LinkFramesAct : Claims.Expected base P h0 := by decide +kernel

theorem wit_UnexpectedFrameNotAccepted : (∀ n ∈ [768, 767], let h : Hdr := { fseq := BitVec.ofNat 10 n, ack := 0x3FF }
      Claims.headerOf (.wr64 P h (rq 0)) = some (P, h) ∧ Calm base ∧ receiving (base.port 3) = true ∧ injArmed base 2 3 = none ∧
      ackCovers (base.port 3).rty h.ack = some 0 ∧ h.fseq ≠ (base.port 3).rty.rxE ∧ (base.port 3).fr.cq = [] ∧
      ((base.port 3).rty.rxE - h.fseq).toNat = 1024 - n ∧ (base.port 3).rty.nakWait = false ∧ Claims.Idles (base.port 3)) ∧
    ((nakWait 2).port 3).rty.nakWait = true := by decide +kernel

def coals : List Coal := [{ tag := 1, sect := 0, status := 0, detail := 0 }, { tag := 2, sect := 1, status := 0, detail := 0 }]
theorem wit_CoalescedWritesReported : let s := onP (fun x => { x with rty := { x.rty with coal := coals } })
    Claims.Sends (s.port 3) ∧ (s.port 3).rty.coal = coals ∧ ∀ d ∈ coals, d.status = 0 ∧ d.detail = 0 := by decide +kernel

/-! ### Witnesses: commit, response, relay -/

/-- Port 3 with one read of 128 bytes at the head of its class queue, its tag HELD. -/
def headed (r : ReqF) (k : Kind) (o : BitVec 8) : State := onP (fun x => { x with fr := { x.fr with
  arr := 1, tags := [(17, { st := .held, kind := k })], cq := [(0, [{ opc := o, f := r }])] } })

theorem wit_ReadIsCommitted : let s := headed (rq 0x1000) .read 0x02; let ch := chanOf 0x1000
    Calm s ∧ tget [] (s.port 3).fr.cq 0 = [{ opc := 0x02, f := rq 0x1000 }] ∧ (rq 0x1000).stack = s.stackId ∧
    addrCheck s 0x1000 128 = none ∧ (∀ y ∈ (s.port 3).fr.tags, y.2.kind ≠ .fence) ∧ budgetsAdmit s.sec 3 0 = true ∧
    holdsClass s.sec (s.chan ch).q 0 = false ∧ (∀ d < 7, (0#3).toNat < d → headReady s 3 d = none) ∧
    (∀ o ∈ portOffers s ch ++ tenderOffers s 4 ch, o.2 < 0 ∨ (o.2 = 0 ∧ turnKey s ch 3 ≤ turnKey s ch o.1)) ∧
    (s.chan ch).q.queue = [] ∧ (s.chan ch).q.link = [] ∧ (s.chan ch).i.merge = [] := by decide +kernel

theorem wit_WrongStackNotCommitted : let s := headed { rq 0 with stack := 9 } .write 0x05
    Calm s ∧ Claims.Sends (s.port 3) ∧ tget [] (s.port 3).fr.cq 0 = [{ opc := 0x05, f := { rq 0 with stack := 9 } }] ∧
    (9 : StackId) ≠ s.stackId ∧ ((s.port 3).fr.tag 17).st = .held := by decide +kernel

/-- An entry of channel 1 that has read chunk 2 for tag 17 of port 3. -/
def readDone : Entry := { id := 0, src := .port 3 17, cls := 0, chunk := 2, op := .read, need := 0, data := List.replicate 128 1 }

/-- Port 3 with that read committed, its data taken. -/
def answerable : State := (onP (fun x => { x with fr := { x.fr with arr := 1, tags := [(17, { st := .issued, kind := .read })] } })).modSched 1
  (fun q => { q with done := [{ e := readDone, how := .performed }] })

theorem wit_PerformedReadAnswered : let s := answerable
    Calm s ∧ Claims.Sends (s.port 3) ∧ doneTag s 3 17 = some (1, { e := readDone, how := .performed }) ∧
    readDone.poisonBits = 0 ∧ readDone.badRegion = false ∧ ((s.port 3).fr.tag 17).kind = .read ∧ ((s.port 3).fr.tag 17).st = .issued ∧
    (∀ y ∈ (s.port 3).fr.tags, y.2.st = .recover → y.2.holds = false) := by decide +kernel

/-- An element of stream 9 whose read is to be relayed to stack 7. -/
def relayEl9 (st : ElSt) : El := { i := 4, ph := .src, st := st, acc := .read 0x1000 8, pa := 0x1000, stack := 7 }
def relayState (st : ElSt) : State := { (withRes { res9 sRUNNING with run := some { els := [relayEl9 st] } }) with
  ports := onRelay.ports, rlyTurn := 2 }

theorem wit_RelayIsSent : let s := relayState .queued
    Calm s ∧ relayPort s = some 3 ∧ Claims.Sends (s.port 3) ∧ (s.port 3).rly.freeRtag = some 0 ∧
    (relayQueue s).find? (fun q => outstanding s q.1 < 2048 && !relayHeld s q.2.1.stream q.2.2.stack (innerOf q.2.2)) =
      some (2, { res9 sRUNNING with run := some { els := [relayEl9 .queued] } }, relayEl9 .queued) := by decide +kernel

/-- The relayed remote write of element 4 of stream 9, outstanding as RTAG 17. -/
def rtag17 (o : BitVec 8) : RTag := { st := .outstanding, stack := 7, stream := 9, elems := [4], iopc := o }
def elDst : El := { i := 4, ph := .dst, st := .relayed, acc := .write 0x1000 (List.replicate 8 0) false, stack := 7 }
def relayOut (tick : Nat) : State := { (withRes { res9 sRUNNING with run := some { els := [elDst] } }) with
  ports := (onP (fun x => { x with rly := { x.rly with rtags := [(17, rtag17 0x06)] } })).ports
  day := { tick := tick } }

theorem wit_RelayResponseFreesItsTag : (let s := relayOut 77; let g := (s.port 3).rly.rtag 17
      Claims.Expected s P h0 ∧ g.st = .outstanding ∧ s.day.tick ≤ g.sent + max (s.port 3).rly.tmo 64 ∧ rsp0.orig = s.stackId ∧ rsp0.stack = g.stack ∧ g.iopc = 0x06 ∧
      (relayEl s g).map (fun x => x.2.2) = some elDst ∧ elDst.i < (Desc.of (res9 sRUNNING).ctx.dcopy).count ∧ elDst.ph = .dst) ∧
    (Claims.Expected base P h0 ∧ ((base.port 3).rly.rtag 17).st ≠ .outstanding) ∧
    (let s := { relayOut 9000 with tnd := base.tnd }; let g := (s.port 3).rly.rtag 17
      Claims.Expected s P h0 ∧ g.st = .outstanding ∧ g.sent + max (s.port 3).rly.tmo 64 < s.day.tick ∧
      (relayEl s g).isNone = true) := by decide +kernel

theorem wit_RelayTimesOut : let s := relayOut 9000; let g := (s.port 3).rly.rtag 17
    Calm s ∧ g.st = .outstanding ∧ g.sent + max (s.port 3).rly.tmo 64 < s.day.tick ∧ (relayEl s g).isSome = true := by decide +kernel

/-! ### Witnesses: links and lanes -/

theorem wit_OccultingEntersAndLeaves : receiving (base.port 3) = true ∧ (let x := base.port 3;
      Claims.Idles x ∧ x.link.upOccEn = true ∧ x.link.upIdle ≠ 0 ∧
      x.rty.replay = [] ∧ x.rty.coal = [] ∧ x.rty.ackOwed = false ∧ x.rty.nakWait = false ∧ x.lane.swapUp = none ∧
      x.lane.slice = none) ∧
    (let x := (onP (fun x => { x with link := { x.link with upOcc := true }, rty := { x.rty with unsent := [.credits [1]] } })).port 3;
      x.link.lstate = .active ∧ x.link.noClk = false ∧ x.link.upOcc = true ∧ x.rty.nakOwed = false ∧
      x.rty.unsent = [.credits [1]] ∧ UpBody.credits [1] ≠ .idle ∧ x.rty.replay.length < 256) := by
  decide +kernel

/-- Port 3 in TRAIN, its stage `st` over, in attempt `a`. -/
def training (st : Stage) (a : Nat := 0) : State := onP (fun x => { x with
  link := { x.link with lstate := .train, stage := st, stageTicks := st.ticks, attempt := a } })

/-- What the `n` lanes of a group that begins at `b` show in IDENT where physical lane `i` of it carries the word of lane `f i`. -/
def idents (b n : Nat) (f : Nat → Nat) : List (Option (BitVec 16)) :=
  (List.range n).map (fun i => some (trainWord .ident (f (b + i)) 0))
/-- A parameter block of the host, sixteen times on copy 0. -/
def block0 (v : BitVec 8) : List (List (BitVec 64)) := [List.replicate 16 (0x7F7F00#56 ++ v)]

theorem wit_TrainingStagesPass : (∀ st ∈ [Stage.detect, .phase, .adapt, .ident, .deskew, .laneTest, .param],
      Claims.AtEnd ((training st).port 3) st) ∧ 76 ≤ (lanesIn (BitVec.allOnes 78)).length ∧
    (groupOrder (idents 0 64 (63 - ·)) 0 64 = .reversed ∧ groupOrder (idents 64 12 id) 64 12 = .identity ∧
      groupOrder (idents 76 2 id) 76 2 = .identity) ∧
    skewOf [some 3, none, some 27] = 24 ∧
    (let x := (training .laneTest).port 3;
      (chooseMap x.lane.mapDn.rev (lanesFailing x (1#78 <<< 5))).isSome = true) ∧
    (let x := (training .param).port 3; Calm (training .param) ∧ acceptBlock x.lane.outDn (block0 1) = some 0x7F7F0001 ∧
      x.link.noClk = false ∧ x.link.upOcc = false ∧ x.rty.nakOwed = false ∧ x.rty.unsent = [] ∧ x.rty.replay.length < 256) ∧
    { lk with noClk := true }.noClk = true := by decide +kernel

theorem wit_TrainingAttemptFails : (∀ a ∈ [1, 2], ∀ st ∈ [Stage.detect, .phase, .adapt, .ident, .deskew, .laneTest, .param],
      Claims.AtEnd ((training st a).port 3) st ∧ Calm (training st a)) ∧ (lanesIn 0).length < 76 ∧
    groupOrder (idents 76 2 (· + 1)) 76 2 = .other ∧ skewOf [some 3, none, some 28] = 25 ∧
    (let x := (training .laneTest).port 3; chooseMap x.lane.mapDn.rev (lanesFailing x (BitVec.allOnes 78)) = none) ∧
    (let x := (training .param).port 3; acceptBlock x.lane.outDn (block0 2) = none) := by decide +kernel

theorem wit_SignalStartsTraining : (Calm base ∧ (State.reset.port 3).link.lstate ≠ .down) ∧
    (let s := onP (fun x => { x with link := { x.link with lstate := .down } }); let l := (s.port 3).link;
      Calm s ∧ l.lstate ≠ .active ∧ l.lstate ≠ .train ∧ l.dnOcc = false ∧ 1#78 &&& l.sig ≠ 0) ∧
    (let s := onP (fun x => { x with link := { x.link with lstate := .down, sig := 0 } }); let l := (s.port 3).link;
      l.lstate = .down ∧ 76 ≤ (lanesIn (l.sig ||| BitVec.allOnes 78)).length) := by decide +kernel

theorem wit_LaneLossStartsRepair : let x := base.port 3;
    Calm base ∧ Claims.Sends x ∧ x.link.dnOcc = false ∧ x.link.sig.getLsbD 75 = true ∧ 75 ∉ x.lane.outDn ∧
    x.link.sig ≠ 1#78 <<< 75 ∧ x.lane.slice = none ∧ x.lane.swapDn = none ∧ x.lane.waitRepair = [] ∧
    freeSpares x .down = [0, 1] := by decide +kernel

theorem wit_LockDecidesPortPower : (let s := { base with clk := { base.clk with framePll := false } };
      Calm s ∧ s.clk.framePll = false ∧ s.clk.refclk = true ∧ s.clk.frameFrom + 16 ≤ s.day.tick) ∧
    (let s := { base with clk := { base.clk with frameFrom := 62, quadFrom := [(3, 62)] } };
      Calm s ∧ s.day.tick < s.clk.frameFrom + 16 ∧ s.day.tick < tget 0 s.clk.quadFrom 3 + 16) ∧
    (base.domOn (4 + 8 * 3) = true ∧ base.clk.refclk = true ∧ tget 0 base.clk.quadFrom 3 + 16 ≤ base.day.tick) ∧
    (let s := { base with clk := { base.clk with quadPll := 0x8 } }; Calm s ∧ s.clk.quadPll.getLsbD 3 = true) := by decide +kernel

theorem wit_FrameClockLossEntersLightship : let s := { base with clk := { base.clk with framePll := true } };
    Calm s ∧ s.clk.framePll = true ∧ s.ls.on = false ∧ s.ls.exitStaged = false := by decide +kernel

/-- Port 3 whose up lane 75 is carried by spare 1. -/
def carried : State := onP (fun x => { x with lane := { x.lane with
  mapUp := { x.lane.mapUp with s1 := some 75 }, outUp := [75], mapDn := { x.lane.mapDn with s1 := some 75 }, outDn := [75] } })

theorem wit_SwapsBegin : (Claims.Expected base P h0 ∧ Claims.Sends (base.port 3) ∧ (75#7).toNat ≤ 75 ∧
      (let x := Claims.accepted (base.port 3);
       75 ∉ x.lane.outUp ∧ x.lane.mapUp.bad 1 = false ∧ x.lane.mapUp.carry 1 = none ∧ x.lane.swapUp = none ∧
         75 ∉ x.lane.outDn ∧ x.lane.mapDn.bad 1 = false ∧ x.lane.mapDn.carry 1 = none ∧ x.lane.swapDn = none ∧
         x.link.sig.getLsbD (76 + 1) = true ∧ ¬ (x.lane.mapUp.carry 1 = some 75 ∧ x.lane.swapUp = none))) ∧
    (Claims.Expected carried P h0 ∧ Claims.Sends (carried.port 3) ∧
      (let x := Claims.accepted (carried.port 3);
       75 ∈ x.lane.outUp ∧ x.lane.mapUp.carry 1 = some 75 ∧ x.lane.swapUp = none ∧ x.lane.mapDn.carry 1 = some 75 ∧
         x.lane.swapDn = none)) := by decide +kernel

/-- Port 3 with an up swap or restore of lane 75 onto spare 1 in progress. -/
def swapping (k : SwapKind) : State :=
  (if k = .restore then carried else base).modPort 3 (fun x => { x with lane := { x.lane with
    swapUp := some { kind := k, lane := 75, spare := 1, phase := .mirroring } } })
/-- Port 3 with `k` of down lane 75 onto spare 1 at phase `ph`. -/
def swapDown (k : SwapKind) (ph : SwapPhase) : State := onP (fun x => { x with lane := { x.lane with
  swapDn := some { kind := k, lane := 75, spare := 1, phase := ph } } })
/-- Port 3 with a slice that tests position `pos`. -/
def slicing (pos : Nat) : State := onP (fun x => { x with lane := { x.lane with
  slice := some { pos := pos, start := 10, spare := none, inTest := true } } })

theorem wit_SwapsEnd : (∀ k ∈ [SwapKind.swap, .restore], Claims.Expected (swapping k) P h0 ∧
      ((swapping k).port 3).lane.slice = none ∧
      ((swapping k).port 3).lane.swapUp = some { kind := k, lane := 75, spare := 1, phase := .mirroring }) ∧
    (let x := Claims.accepted ((swapping .swap).port 3); 75 ∉ x.lane.outUp ∧ x.lane.mapUp.carry 0 ≠ some 75) ∧
    (let x := Claims.accepted (base.port 3);
      x.lane.swapUp = none ∧ x.lane.mapUp.bad 1 = false ∧ x.lane.mapUp.carry 1 = none ∧ x.lane.mapUp.carry 0 ≠ some 75 ∧
      75 ∉ x.lane.outUp ∧ x.rty.replay = []) ∧
    (Claims.Expected (slicing (78 + 75)) P h0 ∧ ((slicing (78 + 75)).port 3).lane.slice.map LaneSlice.inTest = some true) ∧
    (∀ q ∈ [(SwapKind.swap, SwapPhase.mirroring), (.restore, .mirroring), (.swap, .requested), (.repair, .marker)],
      let x := (swapDown q.1 q.2).port 3;
      x.lane.swapDn = some { kind := q.1, lane := 75, spare := 1, phase := q.2 } ∧ x.lane.slice = none ∧
      x.lane.mapDn.carry 0 ≠ some 75 ∧ 75 ∉ x.lane.outDn ∧ Claims.Sends x ∧ x.lane.waitRepair = []) := by decide +kernel

theorem wit_RepairTimeoutRetrains : let s := swapDown .repair .marker;
    Calm s ∧ repairing (s.port 3) = true ∧ (s.port 3).link.lstate = .active := by decide +kernel

theorem wit_LaneBistSlicesRun : (let s := { base with day := { tick := 64 * 75 } }; let x := s.port 3; let pos := s.day.tick / 64 % 156;
      s.day.tick % 64 = 0 ∧ Claims.Sends x ∧ x.lane.slice = none ∧ s.day.laneBistEn = true ∧ s.pwr.srAct = false ∧
      s.domOn 49 = true ∧ pos < 76 ∧ pos ∉ x.lane.outDn ∧ x.lane.swapDn = none ∧ freeSpares x .down = [0, 1]) ∧
    (let s := { base with day := { tick := 64 }, pwr := { base.pwr with dom := [] } };
      s.day.tick % 64 = 0 ∧ (s.port 3).link.lstate = .active ∧ (s.port 3).lane.slice = none ∧ s.day.laneBistEn = true ∧
      s.pwr.srAct = false ∧ s.domOn 49 = false) ∧
    (let s := { base with day := { tick := 64, laneBistEn := false } };
      s.day.tick % 64 = 0 ∧ (s.port 3).link.lstate = .active ∧ (s.port 3).lane.slice = none ∧ s.day.laneBistEn = false) ∧
    (Calm (slicing 77) ∧ ((slicing 77).port 3).lane.slice = some { pos := 77, start := 10, spare := none, inTest := true } ∧
      10 + 62 ≤ (slicing 77).day.tick) := by decide +kernel

/-! ### Witnesses: registers and the function -/

theorem wit_RegisterWritesWaitForTheirBoundary : base.pcie.mse = true ∧ base.pcie.d3hot = false ∧
    (0x400#32).toNat % 8 = 0 ∧ (0x403#32).toNat % 8 ≠ 0 ∧ (base.port 3).link.lstate ≠ .test ∧
    ((onP (fun x => { x with link := { x.link with lstate := .test } })).port 3).link.lstate = .test := by decide +kernel

theorem wit_StatusClearsAcceptedBySequence : base.pcie.mse = true ∧ base.pcie.d3hot = false := by decide +kernel

theorem wit_BusWritesChecked : (base.pcie.mse = true ∧ base.pcie.d3hot = false) ∧ (readReg base (0x140 / 4 * 4)).isSome = true ∧
    (3#4 ≠ 0 ∧ 3#4 ≠ 0xF) ∧ readReg base (0x0FFC / 4 * 4) = none ∧ State.reset.pcie.mse = false ∧
    ({ off := 0x140, words := [0], be := [0xF], other := true } : Sys2Proof.BusWrite).other = true := by decide +kernel

theorem wit_FunctionStatesChange : (base.pwr.perst = false ∧ base.domOn 2 = true ∧ base.domOn 3 = true) ∧
    (let s := { base with ll := { base.ll with accepted := true } };
      s.pwr.perst = false ∧ s.pwr.held = false ∧ s.ll.accepted = true ∧ s.domOn 2 = true ∧ s.domOn 3 = true) ∧
    (base.pcie.linkUp = true ∧ base.pcie.cfgReady = true ∧ base.pcie.mse = true ∧ base.pcie.d3hot = false ∧
      base.pcie.msixEn = false) ∧
    (let s := { base with pcie := { base.pcie with cfgReady := false } }; s.pcie.linkUp = true ∧ s.pcie.cfgReady = false) := by
  decide +kernel

/-- BAR2 open on the memory of channel 1 and others. -/
def bar2 : State := { base with pcie := { base.pcie with b2En := true, b2Base := 0x100000 } }

theorem wit_Bar2AccessesMemory : (let r := { bar2Req bar2 0xFFFC0 64 with wr := true, data := List.replicate 64 1, be := List.replicate 64 true };
      Calm bar2 ∧ busOk bar2 = true ∧ bar2.pcie.b2 = [] ∧ r.a % 64 = 0 ∧ bar2Row bar2 r = none ∧ bar2May bar2 r = true ∧
      Claims.Empty bar2 (chanOf r.a) ∧ Inv bar2) ∧
    (let r := bar2Req bar2 0xFFFFC 4;
      r.a % 64 + 4 = 64 ∧ bar2Row bar2 r = none ∧ bar2May bar2 r = true ∧ Claims.Empty bar2 (chanOf r.a) ∧
      Claims.Clean bar2 (r.a / 64) ∧ (bar2.chan (chanOf r.a)).i.mergeOf (r.a / 64) = none) ∧
    (Calm base ∧ busOk base = true ∧ base.pcie.b2 = [] ∧ bar2Row base (bar2Req base 0 4) = some 1 ∧ base.pcie.b2En = false ∧
      bar2Row base { bar2Req base 0 1 with wr := true, data := [0], be := [true], poisoned := true } = some 1) ∧
    (Calm State.reset ∧ busOk State.reset = false) := by decide +kernel

/-! ### Witnesses: controllers -/

/-- The state with the slices of channel `c` awake and its clock at 1,000. -/
def awake (s : State) (c : Nat) : State := s.modSched c (fun q =>
  { q with clk := 1000, slices := (List.range 16).map (fun d => (d, { sr := false })) })
/-- Channel 1 awake. -/
def ch1 : State := awake base 1
/-- The same with row 5 of bank 127 open. -/
def open1 : State := ch1.modSched 1 (fun q => q.modBank 127 (fun b => { b with row := some 5 }))

theorem wit_AddressesRoundTrip : (0x17FFFFFFFF#37).toNat < memTop ∧ (0x17FFFFFFC0 < memTop ∧ 0x17FFFFFFC0 % 64 = 0) := by decide +kernel

/-- The same with the refresh and the RFMT of bank 127 owed in this tick. -/
def owed : State := ch1.modSched 1 (fun q => { q with maint := [.refpb 127, .rfmt 127] })
/-- Channel 1 with an alert of die 15. -/
def alerted : State := ch1.modSched 1 (fun q => q.modSlice 15 (fun x => { x with alert := true }))

theorem wit_RowCommandsAct : (Calm ch1 ∧ Claims.Still ch1 1 ∧ sliceOpen ch1 1 (dieOf 127) = true ∧
      ((ch1.chan 1).q.slice 15).sr = false ∧ ((ch1.chan 1).q.bank 127).row = none ∧ ((ch1.chan 1).q.bank 127).raa < 576) ∧
    (Calm open1 ∧ Claims.Still open1 1 ∧ sliceOpen open1 1 (dieOf 127) = true ∧ ((open1.chan 1).q.slice 15).sr = false ∧
      ((open1.chan 1).q.bank 127).row ≠ none) ∧
    (Calm owed ∧ ctrlOn owed 1 = true ∧ Claims.Still owed 1 ∧ doomed (owed.chan 1).i (dieOf 127) = false ∧
      ((owed.chan 1).q.slice 15).sr = false ∧ Maint.refpb 127 ∈ (owed.chan 1).q.maint ∧ Maint.rfmt 127 ∈ (owed.chan 1).q.maint) ∧
    (Maint.refpb 127 ∉ (ch1.chan 1).q.maint ∧ Maint.rfmt 127 ∉ (ch1.chan 1).q.maint) ∧
    (Calm alerted ∧ ctrlOn alerted 1 = true ∧ ((alerted.chan 1).q.slice 15).alert = true) := by decide +kernel

theorem wit_SelfRefreshEntersAndLeaves : (Calm ch1 ∧ ctrlOn ch1 1 = true ∧ Claims.Still ch1 1 ∧ doomed (ch1.chan 1).i 15 = false ∧
      ((ch1.chan 1).q.slice 15).sr = false ∧ (∀ j < 8, ((ch1.chan 1).q.bank (8 * 15 + j)).row = none) ∧
      (ch1.clu (cluOf 1)).inStep = false ∧ (ch1.chan 1).q.queue = []) ∧
    (Calm base ∧ ctrlOn base 1 = true ∧ Claims.Still base 1 ∧ doomed (base.chan 1).i 15 = false ∧ ((base.chan 1).q.slice 15).sr = true ∧
      (base.clu (cluOf 1)).stepTick = 0) ∧
    (let s := ch1.modSched 1 (fun q => { q with emptyTicks := 16 });
     Calm s ∧ ctrlOn s 1 = true ∧ Claims.Still s 1 ∧ (s.clu (cluOf 1)).inStep = false ∧ (s.chan 1).q.queue = [] ∧ (s.chan 1).q.link = [] ∧
      (s.clu (cluOf 1)).srIdle ≠ 0 ∧ (s.clu (cluOf 1)).srIdle ≤ (s.chan 1).q.emptyTicks) ∧
    (ctrlOn open1 1 = true ∧ Claims.Still open1 1 ∧ ((open1.chan 1).q.bank 127).row ≠ none ∧ sliceOpen open1 1 15 = true ∧
      ((open1.chan 1).q.slice 15).sr = false ∧ (open1.chan 1).q.queue = []) := by decide +kernel

/-- An entry of channel 1 for chunk 7 of row 5 of bank 127. -/
def entry (op : AccOp) : Entry := { id := 3, src := .port 3 17, cls := 0, chunk := addrOf 1 127 5 14 / 128, op := op, need := 3 }
def queued1 (s : State) (op : AccOp) : State := s.modSched 1 (fun q => { q with queue := [entry op] })
def wr1 : AccOp := .write false 0xFFFF (List.replicate 128 7)

theorem wit_ColumnCommandsServe : (∀ op ∈ [AccOp.read, wr1], let s := queued1 open1 op; let q := (s.chan 1).q; let g := 2 * (entry op).chunk
      Calm s ∧ ctrlOn s 1 = true ∧ q.queue = [entry op] ∧ q.link = [] ∧ Claims.Still s 1 ∧ (entry op).need = 3 ∧
      (q.bank 127).row = some 5 ∧ sliceOpen s 1 (dieOf 127) = true ∧
      (s.chan 1).i.mergeOf g = none ∧ (s.chan 1).i.mergeOf (g + 1) = none) ∧
    (let s := queued1 open1 .read; let g := 2 * (entry .read).chunk;
      nextCmd 1 s (entry .read) = some (.rdc 127 7) ∧ livesAt s 1 127 5 14 = some g ∧ livesAt s 1 127 5 15 = some (g + 1) ∧
      (entry .read).heldG = 0 ∧ (entry .read).data = [] ∧ Claims.Clean s g ∧ Claims.Clean s (g + 1)) ∧
    (let s := queued1 open1 wr1; let g := 2 * (entry wr1).chunk;
      nextCmd 1 s (entry wr1) = some (.wrc 127 7) ∧ cellsOf s g = (127, 5, 7) ∧ cellsOf s (g + 1) = (127, 5, 7) ∧ Inv s ∧
      movePlaces s g = [] ∧ movePlaces s (g + 1) = [] ∧ physGran s g ≠ physGran s (g + 1)) := by decide +kernel

/-- The conditions of the scheduler's clause. -/
theorem wit_WaitsForAct : let s := queued1 ch1 .read; Calm s ∧ ctrlOn s 1 = true ∧ Claims.Still s 1 ∧
    (s.chan 1).q.queue = [entry .read] ∧ (s.chan 1).q.link = [] ∧ Claims.WaitsForAct s 1 (entry .read) 127 5 :=
  ⟨by decide +kernel, by decide +kernel, by decide +kernel, by decide +kernel, by decide +kernel, by decide +kernel, by decide +kernel,
    by decide +kernel, 0, by decide +kernel⟩

/-- Cluster 2 in tick `n` of a step to step 2. -/
def stepping (n : Nat) : State := base.modClu 2 (fun u => { u with stepTick := n, stepTo := 2 })

theorem wit_FrequencyStepTicks : (∀ n ∈ [1, 3], Calm (stepping n) ∧ ((stepping n).clu 2).stepTick = n ∧ ((stepping n).clu 2).t1Done = false ∧
      ((stepping n).clu 2).t3Done = false ∧ ((stepping n).clu 2).phyBad = false ∧ ∀ j < 4, Claims.Still (stepping n) (4 * 2 + j)) ∧
    ((stepping 2).clu 2).stepTick = 2 ∧
    (let s := awake (stepping 3) 11;
      cluOf 11 = 2 ∧ (s.clu 2).stepTick = 3 ∧ ctrlOn s 11 = true ∧ (s.chan 11).q.awake 15 = true ∧ doomed (s.chan 11).i 15 = false) ∧
    (let s := stepping 4;
      Calm s ∧ (∀ j < 4, Claims.Empty s (4 * 2 + j) ∧ (s.chan (4 * 2 + j)).i.merge = []) ∧ (s.clu 2).stepTick = 4 ∧
      s.domOn (36 + 2) = true ∧ s.ls.on = false ∧
      (∀ j < 4, (s.chan (4 * 2 + j)).q.maint = [] ∧ injArmed s 3 (4 * 2 + j) = none) ∧ ∀ m < 5, (s.mbx m).wait = none) := by decide +kernel

/-- Channel 1 with an ACT of bank 127 in its retry buffer, sent at clock 995. -/
def sentAct : State := ch1.modSched 1 (fun q => { q with
  retry := [{ clk := 995, cmd := .act, die := 15, bank := 127, arg := 5, banks := (List.range 8).map (fun _ => {}) }] })

theorem wit_ClusterFailuresStopTheCluster : (∀ n ∈ [1, 3], Calm (stepping n) ∧ ((stepping n).clu 2).stepTick = n) ∧
    (Calm base ∧ base.domOn (36 + 7) = true ∧ base.ls.on = false) ∧
    (∀ s ∈ [ch1, sentAct], Calm s ∧ ctrlOn s 1 = true ∧ doomed (s.chan 1).i 15 = false ∧ ((s.chan 1).q.slice 15).alertsTick + 1 < 4 ∧
      ((s.chan 1).q.slice 15).alertsRound + 1 < 64) ∧
    erroneous (alertLat (ch1.clu 0).step) (ch1.chan 1).q 15 = none ∧
    ((erroneous (alertLat (sentAct.clu 0).step) (sentAct.chan 1).q 15).map (·.clk) = some 995 ∧ (sentAct.chan 1).q.replay = []) := by
  decide +kernel

/-- Channel 24 with a merge entry on granule 0x0D8A3C1D00 / 64. -/
def gr : Nat := 0x0D8A3C1D00 / 64
def merging (f : Fill) : State := base.modInteg 24 (fun i => { i with merge := [{ gran := gr, born := 0, cover := 0xFF, fill := f }] })

theorem wit_MergeEntriesEnd : (∀ f ∈ [Fill.waiting, .base [] false], let s := merging f;
      Calm s ∧ Claims.Empty s 24 ∧ chanOf (64 * gr) = 24 ∧
      (s.chan 24).i.mergeOf gr = some { gran := gr, born := 0, cover := 0xFF, fill := f } ∧ (∀ x ∈ (s.chan 24).i.merge, x.due = false) ∧
      sliceOpen s 24 (dieOf (bankOf (64 * gr))) = true) ∧
    (let s := merging .waiting;
      injArmed s 0 24 = none ∧ decode (erasedOf (s.chan 24).i) (readGran s gr (granErrs gr [])).1
        (readGran s gr (granErrs gr [])).2 = .clean) ∧
    (let s := (merging (.base [] false)).modClu 6 (fun u => { u with stepTick := 2 });
      Calm s ∧ Claims.Empty s 24 ∧ (s.chan 24).i.mergeOf gr = some { gran := gr, born := 0, cover := 0xFF, fill := .base [] false } ∧
      (∀ x ∈ (s.chan 24).i.merge, x.due = false) ∧ sliceOpen s 24 (dieOf (bankOf (64 * gr))) = false) := by decide +kernel

/-- Every slice of channel 9 awake, and the pointer at group 169. -/
def bist : State := { awake base 9 with wch := { ptr := 169 } }
/-- A suspect that its confirming test awaits. -/
def susp (n : Nat) : Suspect := { ch := 9, tsv := n, spare := some 5, due := 77 }
/-- The last tick of a mooring round, in which channel 24 has the candidates `l`. -/
def roundEnd (l : List Cand) : State := { base.modInteg 24 (fun i => { i with cand := l }) with day := { tick := 127 } }
def cand1 : Cand := { gran := gr, pos := none, tick := 70 }

theorem wit_TestsAndRoundsOfRepair :
    (∀ n ∈ [279, 280], let s := base.modInteg 1 (fun i => { i with suspects := [(n, 76)] });
      testable s.day.tick n (s.chan 1).i = true ∧ (s.clu (cluOf 1)).inStep = false) ∧
    (279 ∉ (base.chan 1).i.pend.data ∧ ∀ x ∈ (base.chan 1).i.pend.cmd, x.1 + 280 ≠ 279) ∧
    (bist.wch.ran = false ∧ bist.wch.paused = false ∧ bist.domOn 49 = true ∧ bist.wch.tsvTest = none ∧
      groupBlocked bist bist.wch.ptr = false ∧
      sliceOf bist 169 0 = some ([(0, some 0), (1, some 1), (2, some 2), (3, some 3), (4, some 4), (5, some 5), (6, some 6), (7, some 7)], 0)) ∧
    (∀ n ∈ [279, 280], let s := { base with wch := { suspects := [susp n] } };
      s.wch.suspects.find? (fun y => y.due ≤ s.day.tick) = some (susp n)) ∧
    (Calm (roundEnd []) ∧ (roundEnd []).day.tick % 64 = 63 ∧ ((roundEnd []).chan 24).i.cand = []) ∧
    (let s := roundEnd [cand1];
      Calm s ∧ s.day.tick % 64 = 63 ∧ (s.chan 24).i.cand = [cand1] ∧ retiredGran (s.chan 24).i gr = false ∧
      rowOf (64 * gr) < spareRow0 s.tenderPart ∧
      moorHit (s.chan 24).i (bankOf (64 * gr)) (rowOf (64 * gr)) (granOf (64 * gr)) = none ∧
      entryFor (s.chan 24).i (bankOf (64 * gr)) (rowOf (64 * gr)) = some 0) ∧
    base.day.tick % 64 ≠ 63 := by decide +kernel

/-! ### Witnesses: time, power, start-up, test port -/

/-- The always-on reset held. -/
def held : State := { base with pwr := { base.pwr with held := true } }

theorem wit_TickAdvancesByOne : base.pwr.held = false ∧ (held.pwr.held = true ∧ Calm held) ∧
    (base.day.servoEn = true ∧ base.kpr.st = .run ∧ base.day.nextPtm ≤ base.day.tick ∧ base.pcie.linkUp = true) ∧
    (base.day.stepEn = true ∧ { base.day with stepEn := false }.stepEn = false) := by decide +kernel

/-- Domain 49 switching on for `n` ticks. -/
def switching (n : Nat) : State := { base with pwr := { base.pwr with dom := [(49, .switching n)] } }
/-- Supplies in their windows, a round published, PERST_N low, bank 0 accepted. -/
def supplied : State := { State.reset with
  ll := { State.reset.ll with accepted := true }
  lan := { published := true, volt := (List.range 10).map (fun m => (m, (window m).1.1)) } }

theorem wit_PowerAndResetsTakeEffect : (∀ n ∈ [0, 2], Calm (switching n) ∧ tget .off (switching n).pwr.dom 49 = .switching n) ∧
    (let s := { State.reset with ls := { on := true, phase := .entered } };
      Calm s ∧ s.ls.on = true ∧ s.ls.phase = .entered ∧ allAsleep s = true ∧ ∀ p < 32, (s.port p).fr.drained = true) ∧
    (base.pwr.held = false ∧ base.pwr.perst = false ∧ Calm base) ∧
    (let s := { State.reset with pwr := { State.reset.pwr with resetting := true } }; s.pwr.resetting = true ∧ allAsleep s = true) ∧
    (supplied.pwr.held = false ∧ supplied.pwr.started = false ∧ supplied.pwr.resetting = false ∧ supplied.ll.accepted = true ∧
      supplied.lan.published = true ∧ supplyOk supplied.lan = true) := by decide +kernel

/-- Cluster 7 in the last tick of stage `g` of its start-up, which its row has ended (`ended`) or not. -/
def starting (g : Stage4) (again ended : Bool := false) : State :=
  base.modClu 7 (fun u => { u with stage := g, stageTicks := g.first - 1, restarted := again, stageEnded := ended })
/-- The four stages. -/
def stages : List Stage4 := [.clock, .repair, .tsvs, .dies]

theorem wit_ClusterStartupStages : base.domOn (36 + 7) = true ∧ base.ls.on = false ∧
    (∀ g ∈ stages, inStage (starting g) 7 g = true ∧ inStage base 7 g = false) ∧
    (∀ g ∈ stages, let u := (starting g false true).clu 7; u.stage = g ∧ u.draining = false ∧ u.stageEnded = true) ∧
    (∀ j < 4, ∀ d < 16, (((starting .dies false true).chan (4 * 7 + j)).q.slice d).alert = false) ∧
    (∀ g ∈ stages, ∀ a ∈ [false, true], Calm (starting g a) ∧ ((starting g a).clu 7).stage = g ∧
      ((starting g a).clu 7).restarted = a) := by decide +kernel

theorem wit_TestAccessPortLoads : (base.ll.life ≠ 0) ∧
    (let s := { base with ll := { base.ll with life := 0 } }; s.ll.life = 0 ∧ ¬ (∀ d ∈ s.pwr.dom, d.2 = .off)) ∧
    (let s := { State.reset with ll := { State.reset.ll with life := 0 } };
      s.ll.life = 0 ∧ (∀ d ∈ s.pwr.dom, d.2 = .off) ∧ 255 < bankSize 128 ∧ bankSize 0 ≤ 255) := by decide +kernel

/-! ### Witnesses: streams -/

/-- A descriptor that passes its check: COUNT 5, SRC 0x1000, DST 0x2000, elements FP64. -/
def dgood : List (BitVec 8) := leBytes 4 1 ++ leBytes 4 5 ++ leBytes 8 0x1000 ++ leBytes 8 0x2000 ++ List.replicate 40 0
/-- Stream 9 with that descriptor. -/
def res9d (st : Nat) (u : Run := {}) : Res := { res9 st with ctx := { (res9 st).ctx with dcopy := dgood }, run := some u }
/-- The same state with page 0 of address space 0 cached with entry `e`. -/
def paged (s : State) (e : BitVec 64) : State := { s with tnd := { s.tnd with tlb := [{ asid := 0, level := 1, vpn := 0, entry := e }] } }
/-- The one doorbell for stream 9. -/
def db9 (reading : Bool) : Db := { src := some (3, 17), stream := 9, gen := 3, cmd := 1, reading := reading }
def belled (s : State) (reading : Bool) : State := { s with tnd := { s.tnd with dbq := [db9 reading] } }
/-- Stream 9 IDLE in memory. -/
def stored (st : Nat) : State := let s := storeCtx 9 (res9d st).ctx base; { base with mem := s.mem, chk := s.chk }
/-- Stream 9 waits for an entry of cluster 2. -/
def wait9 : WaitE := { stream := 9, t := 2, cls := 0, preempted := false }
def waits (s : State) : State := { s with tnd := { s.tnd with wait := [wait9] } }

/-- The two granules of the context of stream 9 can be read. -/
abbrev CtxReads (s : State) : Prop :=
  ctxRetired s 9 = false ∧ ownMay s {} (ctxAddr 9 / 64) = true ∧ Claims.ReadsNow s (ctxAddr 9 / 64) ∧ Claims.ReadsNow s (ctxAddr 9 / 64 + 1)

theorem wit_StreamsBecomeReadyToRun :
    (let s := belled (paged (withRes (res9 sQUEUED)) 0x1007) true;
      Calm s ∧ (s.tnd.dbq = [db9 true]) ∧ resident s 9 = some (2, res9 sQUEUED) ∧ (res9 sQUEUED).ctx.state = sQUEUED ∧
      (leafOf s 0 64).isSome = true ∧
      xlate s 0 64 false true = some (.ok (.local_ 0x1040)) ∧ ownMay s (.tender 2 0) (0x1040 / 64) = true ∧
      retiredAt s 0x1040 = false ∧ Claims.ReadsNow s (0x1040 / 64)) ∧
    (let s := belled (paged (withRes (res9 sQUEUED)) 0x700000000100F) true;
      resident s 9 = some (2, res9 sQUEUED) ∧ (leafOf s 0 64).isSome = true ∧
      xlate s 0 64 false true = some (.error { kind := 9, level := 1 })) := by decide +kernel

theorem wit_StreamsBecomeReadyToRun_bell :
    (let s := belled base false;
      Calm s ∧ xlReady s = true ∧ s.tnd.dbq = [db9 false] ∧ resident s 9 = none ∧ CtxReads s ∧ (storedCtx s 9).state = sFREE) ∧
    (let s := belled (stored sIDLE) false;
      Calm s ∧ xlReady s = true ∧ s.tnd.dbq = [db9 false] ∧ resident s 9 = none ∧ CtxReads s ∧
      (storedCtx s 9).state = sIDLE ∧ (storedCtx s 9).gen = 3 ∧ (db9 false).cmd = 1) := by decide +kernel

theorem wit_StreamsBecomeReadyToRun_fill :
    (let s := waits (withRes (res9d sQUEUED));
      Calm s ∧ s.tnd.wait.find? (fun w => w.stream = 9) = some wait9 ∧ tndReady s 2 = true ∧
      (∀ d ∈ s.tnd.dbq, d.stream ≠ 9) ∧ resident s 9 = some (2, res9d sQUEUED) ∧ wait9.preempted = false ∧ (Desc.of dgood).check = none) ∧
    (let s := waits (stored sQUEUED);
      Calm s ∧ s.tnd.wait.find? (fun w => w.stream = 9) = some wait9 ∧ tndReady s 2 = true ∧ s.tnd.dbq = [] ∧ resident s 9 = none ∧
      nextWait s 2 = some wait9 ∧ (s.tclu 2).res.length < 512 ∧ CtxReads s ∧
      (Desc.of (Ctx.of ((readGran s (ctxAddr 9 / 64) []).1 ++ (readGran s (ctxAddr 9 / 64 + 1) []).1)).dcopy).check = none) := by
  decide +kernel

/-- An element in flight of stream 9. -/
def el (st : ElSt) : El := { i := 4, ph := .src, st := st, acc := .read 64 8 }
def running (e : El) : State := withRes (res9d sRUNNING { next := 5, els := [e] })
/-- The write of element 4, performed by the controller of channel 5. -/
def wrEl : El := { i := 4, ph := .dst, st := .out, acc := .write 0x2020 (List.replicate 8 1) false }
def wrDone : Done := { e := { id := 0, src := .tender 2 9 4, cls := 0, chunk := 0, op := .read, need := 0 }, how := .performed }
/-- Element 4 waits for the walk of page 0 of address space 0. -/
def walking : State := { (running (el (.walk 0))) with tnd := { (running (el (.walk 0))).tnd with walks := [(0, 0)] } }

theorem wit_ElementsIssueAndComplete :
    (let s := running (el .want);
      Calm s ∧ tndReady s 2 = true ∧ (s.tclu 2).res = [res9d sRUNNING { next := 5, els := [el .want] }] ∧
      s.tnd.walks.length < 32 ∧ xlate s 0 64 false false = none ∧ (0, 64 / 4096) ∉ s.tnd.walks) ∧
    (let s := paged (running (el .want)) 0x1007; let c := chanOf 0x1040;
      xlate s 0 64 false false = some (.ok (.local_ 0x1040)) ∧ s.cluReady (cluOf c) = true ∧ retiredAt s 0x1040 = false ∧
      budgetsAdmit s.sec (32 + 2) 0 = true ∧ holdsClass s.sec (s.chan c).q 0 = false ∧
      winsOver s c (32 + 2) 0 (portOffers s c ++ tenderOffers s 2 c) = true ∧ (s.chan c).q.queue = [] ∧
      (s.chan c).q.link = [] ∧ (s.chan c).i.merge = []) ∧
    (Calm walking ∧ (0, 0) ∈ walking.tnd.walks ∧ (walkers walking 0 0).map (·.1) = [2] ∧
      (doWalk (.tender 2 0) 0 0 walking).2 = some (.error { kind := 5, level := 0 })) ∧
    (let s := { base with tnd := { base.tnd with walks := [(0, 0)] } };
      Calm s ∧ (0, 0) ∈ s.tnd.walks ∧ (walkers s 0 0).isEmpty = true) ∧
    (let s := (running wrEl).modSched 5 (fun q => { q with done := [wrDone] });
      Calm s ∧ doneOf s 9 4 = some (5, 2, wrDone) ∧ wrDone.e.poisonBits = 0 ∧ wrDone.e.badRegion = false ∧ wrDone.e.refused = 0 ∧ resident s 9 = some (2, res9d sRUNNING { next := 5, els := [wrEl] }) ∧
      4 < (Desc.of (res9d sRUNNING).ctx.dcopy).count) := by decide +kernel

/-- Stream 9 STOPPING with its run `u` and nothing in flight. -/
def stoppingS (u : Run) : State := withRes (res9d sSTOPPING u)
/-- Stream 9 RUNNING with every element applied. -/
def doneRes : Res := { res9d sRUNNING {} with ctx := { (res9d sRUNNING).ctx with cursor := 5 } }
/-- 512 pinned entries of cluster 2, the last one RUNNING in class 1, and a waiting stream of class 3. -/
def fullClu : List Res := (List.range 511).map (fun n => { stream := n, ctx := { state := sSTOPPING } }) ++
  [{ stream := 511, ctx := { state := sRUNNING, cls := 1 }, run := some {} }]
def crowded : State := { base with tnd := { base.tnd with clus := [(2, { res := fullClu })]
                                                          wait := [{ stream := 600, t := 2, cls := 3, preempted := false }] } }

theorem wit_StreamsStopAndEnd : (∀ u ∈ [({ fail := some { i := 4, cause := cXLATE, detail := 1 } } : Run), { abort := some 3 },
      { preempt := some (600, 3) }], let s := stoppingS u;
      Calm s ∧ resident s 9 = some (2, res9d sSTOPPING u) ∧ u.els = [] ∧ ctxRetired s 9 = false ∧ s.tnd.dbq = []) ∧
    (let s := withRes doneRes;
      Calm s ∧ resident s 9 = some (2, doneRes) ∧ ctxRetired s 9 = false ∧ doneRes.ctx.cursor = (Desc.of doneRes.ctx.dcopy).count ∧
      (Desc.of doneRes.ctx.dcopy).op ≠ 6 ∧ (Desc.of doneRes.ctx.dcopy).res = 0) ∧
    (let s := crowded;
      nextWait s 2 = some { stream := 600, t := 2, cls := 3, preempted := false } ∧ 512 ≤ (s.tclu 2).res.length ∧
      (∀ r ∈ (s.tclu 2).res, r.pinned = true) ∧
      (∀ r ∈ (s.tclu 2).res, r.stream ≠ 511 → r.ctx.state = sSTOPPING ∧ r.run = none) ∧
      (∀ r ∈ (s.tclu 2).res, r.stream = 511 → r = { stream := 511, ctx := { state := sRUNNING, cls := 1 }, run := some {} })) ∧
    (let s := withRes { res9d sDONE with run := none, dirty := true };
      (s.tclu 2).res.find? (fun r => !r.pinned && (!r.dirty || ctxRetired s r.stream || ownMay s {} (ctxAddr r.stream / 64))) =
        some { res9d sDONE with run := none, dirty := true }) := by decide +kernel

theorem wit_StreamsStopAndEnd_scan :
    (let s := { base with tnd := { base.tnd with scan := true } };
      Calm s ∧ s.tenderPart = true ∧ s.domOn 48 = true ∧ s.tnd.scan = true ∧ clustersSettled s = true ∧ s.kpr.st = .run) ∧
    (let s := { stored sRUNNING with tnd := { base.tnd with scan := true } };
      clustersSettled s = true ∧ listedStreams s = [9] ∧ (storedCtx s 9).state = sRUNNING ∧ ctxRetired s 9 = false ∧
      s.cluReady (ctxClu 9) = true) ∧
    (Calm base ∧ base.tenderPart = true ∧ base.domOn 48 = true ∧ base.tnd.scan = false ∧ clustersSettled base = true) := by
  decide +kernel

/-! ### Witnesses: Keeper and Renjan -/

/-- Mailbox 1 PENDING with command `c` and payload `q`; it is the next that Keeper takes. -/
def mailed (c : Nat) (q : List Word32) : State := base.modMbx 1 (fun x => { x with
  cmd := BitVec.ofNat 16 c, st := .pending, tag := 7, len := BitVec.ofNat 6 q.length, data := (List.range q.length).map (fun i => (i, q.getD i 0)) })

theorem wit_KeeperTakesCommands : (∀ x ∈ [(0x0301, [0x15]), (0x0301, []), (0x0402, [])], let s := mailed x.1 x.2;
      Calm s ∧ nextMbx s = some 1 ∧ (s.mbx 1).cmd = BitVec.ofNat 16 x.1) ∧
    (formCheck (mailed 0x0301 []) 1 ((mailed 0x0301 []).mbx 1)).isSome = true ∧
    (formCheck (mailed 0x0301 [0x15]) 1 ((mailed 0x0301 [0x15]).mbx 1) = none ∧ atOnce 0x0301 = false) ∧
    (formCheck (mailed 0x0402 []) 1 ((mailed 0x0402 []).mbx 1) = none ∧ atOnce 0x0402 = true) := by decide +kernel

/-- No cluster of `mailed` is in a step, so no command waits for one. -/
theorem mailed_waits (c : Nat) (q : List Word32) (x : Mbx) : cmdWaits (mailed c q) x = false := by
  have h : ∀ k, ((mailed c q).clu k).inStep = false := fun _ => rfl
  simp [cmdWaits, h]

/-- Every one of the 47 commands can be the next that Keeper takes. -/
theorem wit_KeeperTakesCommands_rows : ∀ row ∈ Claims.mailboxRows 1, let s := mailed row.2.toNat [];
    Calm s ∧ nextMbx s = some 1 ∧ (s.mbx 1).cmd = row.2 := by
  simp only [nextMbx, heldBack, mailed_waits, Bool.and_false, Bool.or_false]
  decide +kernel

/-- A command as its mailbox holds it. -/
def cmd (c : Nat) (q : List Word32) : Mbx := (mailed c q).mbx 1

/-- One staged FOGHORN_DRIVE. -/
def stagedDrive : State := { base with kpr := { base.kpr with staged := [{ mb := 1, req := cmd 0x0B02 [1] }] } }

theorem wit_RenjanCommandsDecide : (stagedDrive.tnd.dbq = [] ∧ stagedDrive.kpr.staged = [{ mb := 1, req := cmd 0x0B02 [1] }] ∧
      cmdWaits stagedDrive (cmd 0x0B02 [1]) = false ∧
      (decideCmd (some 1) [] (cmd 0x0B02 [1]) { stagedDrive with kpr := { stagedDrive.kpr with staged := [] } }).2 = some (0, [])) ∧
    (relayAny base = false ∧ relayTraffic base = false) ∧
    (((cmd 0x0202 [0x80000008]).q 0).getLsbD 31 = true ∧ ((cmd 0x0202 [0x80000008]).q 0).getLsbD 7 = false) ∧
    (((cmd 0x0203 [1]).q 0).getLsbD 0 = true ∧ (base.port 0).link.lstate ≠ .active) ∧
    (((cmd 0x0204 [8, 1]).q 1).getLsbD 0 = true ∧ State.reset.stackId = 0xFFF) ∧
    (bitsOf ((cmd 0x0301 [0x15]).q 0) 0 3 = 5 ∧ base.cluReady 5 = true) ∧
    (((cmd 0x0302 [7]).q 0).getLsbD 8 = false ∧ base.ls.on = false) := by decide +kernel

theorem wit_RenjanCommandsDecide_streams : (let q := (cmd 0x0401 [0xB6D, 0]).q;
      base.ready.extractLsb' 0 8 ≠ 0 ∧ (∀ c < 7, bitsOf (q 0) (3 * c) 3 ≤ 5) ∧
      (liveCounts base).1 < (List.range 7).foldl (fun n c => n + bitsOf (q 0) (3 * c) 3) 1) ∧
    (let s := withRes (res9 sRUNNING); let q := (cmd 0x0501 [9, 64, 0, 0]).q;
      streamReady s (bitsOf (q 0) 0 18) = true ∧ bitsOf (q 3) 16 3 ≠ 7 ∧ ((q 1).toNat + bitsOf (q 2) 0 16 * 2 ^ 32) % 64 = 0 ∧
      (ctxOf s (bitsOf (q 0) 0 18)).state ≠ sFREE) ∧
    (let s := withRes (res9 sRUNNING); let q := (cmd 0x0502 [9]).q;
      streamReady s (bitsOf (q 0) 0 18) = true ∧
      (ctxOf s (bitsOf (q 0) 0 18)).state ∈ [sFREE, sQUEUED, sRUNNING, sSTOPPING, sPREEMPTED]) ∧
    (let s := { base with regions := [(5, some { base := 0, pages := 1, e := 0 })] }; let q := (cmd 0x0509 [5, 0, 2, 16384, 0xFD8]).q;
      (tget none s.regions (bitsOf (q 0) 0 6)).isSome = true ∧ bitsOf (q 3) 0 25 ≠ 0 ∧ -1074 ≤ ((q 4).extractLsb' 0 12).toInt ∧
      ((q 4).extractLsb' 0 12).toInt ≤ 1023 ∧ (q 1).toNat + bitsOf (q 2) 0 5 * 2 ^ 32 + 4096 * bitsOf (q 3) 0 25 ≤ hvTopOf s) := by
  decide +kernel

theorem wit_RenjanCommandsDecide_system :
    (base.cluReady (cluOf (bitsOf ((cmd 0x0604 [31, 1]).q 0) 0 5)) = true ∧ (cmd 0x0604 [31, 1]).q 1 ≠ 0xA55A) ∧
    64 ≤ bitsOf ((cmd 0x0703 [64]).q 0) 0 16 ∧ base.ll.life ≠ 2 ∧
    (let q := (cmd 0x0607 [0x01000000, 1, 0]).q; bitsOf (q 0) 0 8 = 0 ∧ fuseCount (q 0) ≠ 0 ∧ bitsOf (q 0) 8 16 + fuseCount (q 0) ≤ 8 ∧
      base.ll.life ≠ 0) ∧
    bitsOf ((cmd 0x0A02 [1]).q 0) 0 2 ≠ base.ll.life + 1 ∧
    (let q := (cmd 0x0B01 [0x11F00]).q; bitsOf (q 0) 0 4 = 0 ∧ bitsOf (q 0) 8 8 < 32 ∧ bitsOf (q 0) 16 8 ≠ 0) ∧
    base.flt.pulse = false ∧ base.ls.on = false := by decide +kernel

theorem wit_SramUncorrectableResetsKeeper : Calm base ∧ keeperOn base = true ∧ base.kpr.st ≠ .reset ∧
    ((0#12).toNat = base.kpr.scrub ∧ base.kpr.scrubbed < 8) ∧ (([MacroErr.clean, .ue].getD 1 .clean = .ue) ∧ ∀ j < 16, j ≠ 1 → [MacroErr.clean, .ue].getD j .clean = .clean) ∧
    (∀ j < 16, injArmed base 1 j = none) ∧ (base.kpr.remapOf 1).length < 8 ∧ base.kpr.handling = false := by decide +kernel

theorem wit_PendingValuesOutliveKeeper : (let s := { base with staged := [(0x140, 0)] }; s.pwr.held = false ∧ s.staged = [(0x140, 0)]) ∧
    (let s := { State.reset with pwr := { State.reset.pwr with resetting := true }, staged := [(0x140, 0)] };
      s.pwr.resetting = true ∧ allAsleep s = true) := by decide +kernel

/-- Keeper in RUN that has not served its watchdog, whose last failure was in tick 4,000. -/
def unserved : State := { base with
  day := { tick := 5000 }, kpr := { st := .run, served := 77, wdAny := true, wdLast := 4000 }
  ll := { base.ll with shadow := [(1, 0x1000001001)] } }

theorem wit_FaultsAndKeeperFailuresReact : (∀ x ∈ [(9, 31), (11, 0), (28, 0)], x.1 < 48 ∧ x.2 < faultInst x.1 ∧
      x.1 ∉ [6, 7, 8, 23, 25, 44] ∧ classOf x.1 0 ≠ .c3) ∧ base.tenderPart = true ∧
    ({ base with tenderPart := false }.tenderPart = false ∧ absentSrc 8 32 = true ∧ 32 < faultInst 8) ∧
    (Calm unserved ∧ watchdogDue unserved = true ∧ unserved.kpr.wdAny = true ∧ unserved.day.tick ≤ unserved.kpr.wdLast + 488282 ∧
      unserved.kpr.handling = false ∧ unserved.ls.exitStaged = false) ∧
    (let s := { base with kpr := { st := .boot } };
      Calm s ∧ keeperOn s = true ∧ s.kpr.st = .boot ∧ s.kpr.patchActive = false ∧ s.ll.bootHold = false) ∧
    (let s := { base with day := { tick := 488282 } }; s.kpr.st = .run ∧ s.kpr.runFrom + 488282 ≤ s.day.tick) ∧
    (Calm base ∧ base.domOn 1 = true ∧ (∀ j < 16, injArmed base 1 j = none) ∧ (0#12).toNat = base.kpr.scrub ∧ base.kpr.scrubbed < 8 ∧
      (1#12).toNat ≠ base.kpr.scrub) ∧
    ({ base.flt with pulse := true }.pulse = true) ∧
    (base.clk.refclk = true ∧ base.ls.exitStaged = false ∧ base.clk.mgref = true) := by decide +kernel

/-! ### Witnesses: Lantern, Beacon, the Light list, the block -/

/-- A round published, and a die hot in it. -/
def lan0 : Lan := { published := true, pubTick := 64, eff := [(7, some 97)], doubled := 0x0080, rate := 0x0080 }

theorem wit_LanternAndPinsAct : (let s := { base with day := { tick := 128 }, lan := lan0 };
      Calm s ∧ s.pwr.held = false ∧ s.day.tick ≠ 0 ∧ s.day.tick % 64 = 0 ∧ s.lan.pubTick ≠ s.day.tick) ∧
    (let s := { base with lan := { lan0 with req := true, graceEnd := some 70 } }; Calm s ∧ s.lan.graceEnd = some 70 ∧ 70 ≤ s.day.tick) ∧
    (let s := { base with lan := { lan0 with ovr := some { floor := 1, doubled := false, limit := 0, ends := some 70 } } };
      Calm s ∧ s.lan.ovr = some { floor := 1, doubled := false, limit := 0, ends := some 70 } ∧ 70 ≤ s.day.tick) ∧
    (let s := { base with day := { tick := 6143 }, lan := lan0 };
      Calm s ∧ s.lan.cooled (s.day.tick + 1) 7 = true ∧ s.lan.cooled s.day.tick 7 = false) ∧
    (let s := { base with lan := { lan0 with returning := 0x0080 } }; s.lan.returning.getLsbD 7 = true) ∧
    (let s := { base with lan := { lan0 with rate := 0 } }; s.lan.ovr = none ∧ s.lan.rate ≠ s.lan.doubled ∧ s.cluReady (cluOf 31) = true) ∧
    (let p := (List.replicate 25 true).foldl (filterStep 25) (base.lan.trip, base.lan.tripRun); p.1 ≠ base.lan.trip) ∧
    (let p := (List.replicate 25 true).foldl (filterStep 25) (base.pwr.srLow, base.pwr.srRun); p.1 ≠ base.pwr.srLow) := by decide +kernel

/-- A record in the queue of a ring that can write. -/
def rec0 : Rec := { seq := 0, ts := 0, unit := 4, inst := 24, cls := .c1, tick := 77 }
def ringed (fast : Bool) : State :=
  let r : Ring := { base := 0x10000, en := true, queue := [rec0], next := 1 }
  { base with bcn := base.bcn.setRing fast r, pcie := { base.pcie with bme := true } }

theorem wit_RecordsLeaveAndQuench : (canWrite (ringed false) false = true ∧ canWrite (ringed false) true = false ∧
      ((ringed false).bcn.ring false).queue = [rec0]) ∧
    (canWrite (ringed true) true = true ∧ ((ringed true).bcn.ring true).queue = [rec0]) ∧
    (let s := { base with bcn := { base.bcn with lsrc := [(12, { count := 1024 })] } };
      1024 ≤ (s.bcn.src 12).count ∧ (s.bcn.src 12).quenched = false ∧ lsrcOf 12 ∉ s.bcn.masked) := by decide +kernel

/-- A pass that has read every word of bank 9, which is blank. -/
def reSensed (b : Nat) : State := { base with ll := { base.ll with pass := true, reBank := b, reWord := 256, bank := [(0, .locked)] } }
/-- A burn of two words of bank 9. -/
def burn9 (l : List (Nat × BitVec 64)) : Burn := { mb := 1, kind := .program, bank := 9, todo := l }

theorem wit_FusesAreSensedAndBurned : (let s := State.reset; let l := (observe (fun b => decide (b = 0)) [] s.ll).decide 0;
      Calm s ∧ s.pwr.held = false ∧ s.ll.accepted = false ∧ s.ll.hold = 0 ∧ l.st 0 = .locked ∧ l.variant = 1) ∧
    (let s := { State.reset with ll := {} }; ((observe (fun b => decide (b = 0)) [] s.ll).decide 0).st 0 = .blank) ∧
    (let s := { base with ready := 0, ll := { base.ll with accepted := true } };
      Calm s ∧ s.ll.accepted = true ∧ s.ready.getLsbD 14 = false) ∧
    (let s := { base with day := { tick := 2 ^ 20 } };
      s.kpr.st = .run ∧ s.ready.getLsbD 14 = true ∧ s.ll.pass = false ∧ s.day.tick % 2 ^ 20 = 0 ∧ 0 < s.day.tick) := by decide +kernel

theorem wit_FusesAreSensedAndBurned_passes : (∀ b ∈ [9, 128], let s := reSensed b;
      Calm s ∧ reading s = true ∧ bankSize s.ll.reBank ≤ s.ll.reWord ∧ injArmed s 4 s.ll.reBank = none ∧ s.ll.st b = .blank ∧
      ∀ w < 256, s.ll.normal b w = s.ll.sh b w ∧ s.ll.normal b w = s.ll.marginal b w) ∧
    (let s := { reSensed 0 with ll := { (reSensed 0).ll with shadow := [(1, 0x1000001001), (3, 0xFFFFFFFFFFFFFFFF),
        (4, 0xFFFFFFFFFFFFFFFF), (5, 0xFFFFFFFFFFFFFFFF), (7, 0x800005A50D493245)] } };
      reading s = true ∧ bankSize 0 ≤ s.ll.reWord ∧ (∀ w < 8, s.ll.normal 0 w = s.ll.sh 0 w ∧ s.ll.normal 0 w = s.ll.marginal 0 w) ∧
      s.ll.sealNormal 0 = true ∧ sealValid 0 (s.ll.sh 0) = true) ∧
    (let s := { reSensed 9 with ll := { (reSensed 9).ll with bank := [(9, .sealed)] } };
      s.ll.st 9 = .sealed ∧ s.ll.sealNormal 9 = false ∧ s.ll.sealMargin 9 = false) ∧
    (State.reset.ll.accepted = false) ∧
    (let s := { base with ll := { accepted := true } }; Calm s ∧ s.ll.accepted = true ∧ sealValid 0 (s.ll.sh 0) = false ∧
      s.ls.exitStaged = false) ∧
    (∀ l ∈ [[(0, 1#64), (1, 2#64)], [(0, 1#64)]], let s := { base with ll := { base.ll with burn := some (burn9 l) } };
      Calm s ∧ s.ll.burn = some (burn9 l) ∧ l ≠ []) := by decide +kernel

theorem wit_StepRunsFrontCommand : ({ base with pending := [Instr.idcode, .bypass] }.pending = .idcode :: [.bypass]) ∧
    (base.pending = [] ∧ base.pwr.held = false ∧ base.day.cyc < base.day.len) ∧ held.pwr.held = true := by decide +kernel

theorem wit_EveryStepKeepsMemoryForm : Inv (stored sIDLE) ∧
    (nx (step { stored sIDLE with pending := [.idcode] })).isSome = true := by decide +kernel

/-! ### Single steps -/

/-- A step takes the front command: a write of one whole granule through BAR2 reaches its byte and no other. -/
theorem test_bar2_write : (nx (step { bar2 with pending := [.bar2Write 64 (List.replicate 64 0xAB) (List.replicate 64 true) false] })).map
    (fun t => (t.byte 0x100040, t.byte 0x10003F, t.byte 0x100080, t.pending)) = some (0xAB, 0, 0, []) := by decide +kernel

/-- The commit of an RD128 (R112): its channel's queue takes it and its tag is ISSUED. -/
theorem test_read_committed : after (.requestCommit P 0) (headed (rq 0x1000) .read 0x02)
    (fun t => (t.chan (chanOf 0x1000)).q.queue.length == 1 && ((t.port 3).fr.tag 17).st == .issued) = true := by decide +kernel

/-- Atomic operations on their corners (R106). -/
theorem test_atomics : atomicOp 0x16 (-1) 0 0 = 0 ∧ atomicOp 0x17 (-1) 0 0 = -1 ∧ atomicOp 0x18 (-1) 0 0 = -1 ∧
    atomicOp 0x19 (-1) 0 0 = 0 ∧ atomicOp 0x12 5 5 9 = 9 ∧ atomicOp 0x12 5 6 9 = 5 ∧ atomicOp 0x10 (-1) 1 0 = 0 := by decide +kernel

/-- No word spells a command (the table gives no row any bits). -/
theorem test_decode_none : decodeTableWord 32 0x12345678 = none := by decide

end Sys2Proof.Tests
end

section
/-! SUPPORT. Writes to the status registers with SQ bits (R8, R286, R291), and the obligation on them. -/

namespace Sys2Proof.Machine

/-! ### The registers with SQ bits -/

/-- The registers with SQ bits are eleven single ones, two of each port and two of each cluster (R8). -/
theorem isSq_cases {off : Nat} (h : isSq off = true) :
    off ∈ [0x20, 0x124, 0x26C, 0xE04, 0x1028, 0x1428, 0x1044, 0x2008, 0x302C, 0xE004, 0xF048] ∨
      (∃ p < 32, off = 0x801C + 0x100 * p ∨ off = 0x8094 + 0x100 * p) ∨
      ∃ k < 8, off = 0xC010 + 0x200 * k ∨ off = 0xC030 + 0x200 * k := by
  simp only [isSq, Bool.or_eq_true, Bool.and_eq_true, decide_eq_true_eq, List.mem_cons, List.not_mem_nil, or_false] at h ⊢
  rcases h with (h | ⟨⟨hlo, hhi⟩, h⟩) | ⟨⟨hlo, hhi⟩, h⟩
  · exact .inl (by omega)
  · exact .inr (.inl ⟨(off - 0x8000) / 0x100, by omega, by omega⟩)
  · exact .inr (.inr ⟨(off - 0xC000) / 0x200, by omega, by omega⟩)

theorem isSq_aligned {off : Nat} (h : isSq off = true) : off % 4 = 0 := by
  rcases isSq_cases h with h | ⟨p, -, h⟩ | ⟨k, -, h⟩
  · simp only [List.mem_cons, List.not_mem_nil, or_false] at h; omega
  · omega
  · omega

theorem isSq_port {o : Nat} (p : PortId) (ho : o = 0x1C ∨ o = 0x94) : isSq (0x8000 + o + 0x100 * p.val) = true := by
  have hp := p.isLt
  simp only [isSq, Bool.or_eq_true, Bool.and_eq_true, decide_eq_true_eq]
  omega

theorem isSq_clu {o : Nat} (k : CluId) (ho : o = 0x10 ∨ o = 0x30) : isSq (0xC000 + o + 0x200 * k.val) = true := by
  have hk := k.isLt
  simp only [isSq, Bool.or_eq_true, Bool.and_eq_true, decide_eq_true_eq]
  omega

/-! ### Reads of the registers: each is implemented -/

/-- A register of the ports' area reads as its port gives it (R97, R133). -/
theorem readReg_port (s : State) {p o : Nat} (hp : p < 32) (ho : o < 0x100) (h4 : o % 4 = 0) :
    readReg s (0x8000 + o + 0x100 * p) = readPort s p o := by
  have hq : (0x8000 + o + 0x100 * p - 0x8000) / 0x100 = p := by omega
  have hr : (0x8000 + o + 0x100 * p) % 0x100 = o := by omega
  unfold readReg
  rw [hq, hr]
  repeat rw [if_neg (by omega)]
  rw [if_pos (by omega)]

/-- A register of the clusters' area reads as its cluster gives it (R162). -/
theorem readReg_clu (s : State) {k o : Nat} (hk : k < 8) (ho : o < 0x200) (h4 : o % 4 = 0) :
    readReg s (0xC000 + o + 0x200 * k) = readDcc s k o := by
  have hq : (0xC000 + o + 0x200 * k - 0xC000) / 0x200 = k := by omega
  have hr : (0xC000 + o + 0x200 * k) % 0x200 = o := by omega
  unfold readReg
  rw [hq, hr]
  repeat rw [if_neg (by omega)]
  rw [if_pos (by omega)]

theorem readReg_isSq (s : State) {off : Nat} (h : isSq off = true) : (readReg s off).isSome = true := by
  rcases isSq_cases h with h | ⟨p, hp, rfl | rfl⟩ | ⟨k, hk, rfl | rfl⟩
  · simp only [List.mem_cons, List.not_mem_nil, or_false] at h
    rcases h with rfl | rfl | rfl | rfl | rfl | rfl | rfl | rfl | rfl | rfl | rfl <;> rfl
  · exact congrArg _ (readReg_port s (o := 0x1C) hp (by decide) (by decide))
  · exact congrArg _ (readReg_port s (o := 0x94) hp (by decide) (by decide))
  · exact congrArg _ (readReg_clu s (o := 0x10) hk (by decide) (by decide))
  · exact congrArg _ (readReg_clu s (o := 0x30) hk (by decide) (by decide))

/-! ### Writes of the registers -/

/-- No write of a register with SQ bits waits for the boundary as a value does (R8). -/
theorem plainRT_isSq {off : Nat} (h : isSq off = true) : plainRT off = false := by
  simp only [isSq, plainRT, Bool.or_eq_true, Bool.and_eq_true, decide_eq_true_eq, ← Bool.not_eq_true] at h ⊢
  omega

theorem writeReg_isSq (v : Word32) (s : State) {off : Nat} (h : isSq off = true) : writeReg off v s = sqWrite off v s := by
  have hp := plainRT_isSq h
  simp only [isSq, Bool.or_eq_true, Bool.and_eq_true, decide_eq_true_eq] at h
  unfold writeReg
  rw [if_neg (by simp [hp])]
  repeat rw [if_neg (by omega)]

/-- The function answers BAR accesses with Memory Space Enable set outside D3hot (R286). -/
theorem busOk_of_enabled {s : State} (hm : s.pcie.mse = true) (hd : s.pcie.d3hot = false) : busOk s = true := by
  simp [busOk, hm, hd]

/-- A whole-DW write of an implemented register is performed and completes with success (R286). -/
theorem regWrite_accepted {off : Nat} (v : Word32) {s : State} (hb : busOk s = true) (h4 : off % 4 = 0)
    (hr : (readReg s off).isSome = true) :
    regWrite off v s = (writeReg off v s).modPcie (fun c => { c with cpl := .success [] }) := by
  have hoff : off / 4 * 4 = off := by omega
  simp [regWrite, busWrite, hb, hoff, Option.isSome_iff_ne_none.1 hr]

theorem regWrite_isSq {off : Nat} (v : Word32) {s : State} (hb : busOk s = true) (h : isSq off = true) :
    regWrite off v s = (sqWrite off v s).modPcie (fun c => { c with cpl := .success [] }) := by
  rw [regWrite_accepted v hb (isSq_aligned h) (readReg_isSq s h), writeReg_isSq v s h]

/-- The row SQ_CLEAR on a register with SQ bits, named by its offset (R291). -/
theorem exec_sqClear {off : Nat} (v : Word32) {s : State} (hb : busOk s = true) (hlt : off < 2 ^ 16) (h : isSq off = true) :
    exec (.sqClear (BitVec.ofNat 16 off) v) s =
      .next ((sqWrite off v s).modPcie (fun c => { c with cpl := .success [] })) := by
  have hoff : (BitVec.ofNat 16 off).toNat = off := by rw [BitVec.toNat_ofNat, Nat.mod_eq_of_lt hlt]
  calc exec (.sqClear (BitVec.ofNat 16 off) v) s
      = .next (if isSq (BitVec.ofNat 16 off).toNat then regWrite (BitVec.ofNat 16 off).toNat v s else s) := rfl
    _ = _ := by rw [hoff, if_pos h, regWrite_isSq v hb h]

/-- The SQ registers of a port: its link's events and its frames' events (R97, R133). -/
theorem sqWrite_port (v : Word32) (s : State) {p : Nat} (hp : p < 32) :
    sqWrite (0x801C + 0x100 * p) v s =
        s.modPort p (fun x => { x with link := { x.link with levt := x.link.levt.write v } }) ∧
      sqWrite (0x8094 + 0x100 * p) v s =
        s.modPort p (fun x => { x with fr := { x.fr with fevt := x.fr.fevt.write v } }) := by
  obtain ⟨hl, hf⟩ : (0x801C + 0x100 * p - 0x8000) / 0x100 = p ∧ (0x8094 + 0x100 * p - 0x8000) / 0x100 = p := by
    constructor <;> omega
  unfold sqWrite
  rw [hl, hf]
  constructor
  all_goals
    repeat rw [if_neg (by omega)]
    rw [if_pos (by omega)]

/-- The SQ registers of a cluster: its capacity map's and its events' (R60, R162). -/
theorem sqWrite_clu (v : Word32) (s : State) {k : Nat} (hk : k < 8) :
    sqWrite (0xC010 + 0x200 * k) v s = s.modClu k (fun u => { u with cap := u.cap.write v }) ∧
      sqWrite (0xC030 + 0x200 * k) v s = s.modClu k (fun u => { u with evt := u.evt.write v }) := by
  obtain ⟨hc, he⟩ : (0xC010 + 0x200 * k - 0xC000) / 0x200 = k ∧ (0xC030 + 0x200 * k - 0xC000) / 0x200 = k := by
    constructor <;> omega
  unfold sqWrite
  rw [hc, he]
  constructor
  all_goals
    repeat rw [if_neg (by omega)]
    rw [if_pos (by omega)]

/-- Settles O31: on a register with SQ bits every row is `sqWrite` at the register's offset, which for the single registers
evaluates to the update stated. -/
theorem statusClearsAcceptedBySequence : Obligations.StatusClearsAcceptedBySequence := by
  intro s v hm hd
  have hb : busOk s = true := busOk_of_enabled hm hd
  refine ⟨exec_sqClear v hb (by decide) rfl, exec_sqClear v hb (by decide) rfl, exec_sqClear v hb (by decide) rfl,
    exec_sqClear v hb (by decide) rfl, exec_sqClear v hb (by decide) rfl, exec_sqClear v hb (by decide) rfl,
    exec_sqClear v hb (by decide) rfl, exec_sqClear v hb (by decide) rfl, exec_sqClear v hb (by decide) rfl,
    fun p => ?_, fun p => ?_, fun k => ?_, fun k => ?_,
    congrArg _ (regWrite_isSq v hb rfl), congrArg _ (regWrite_isSq v hb rfl)⟩
  · rw [exec_sqClear v hb (by omega) (isSq_port p (.inl rfl)), (sqWrite_port v s p.isLt).1]; rfl
  · rw [exec_sqClear v hb (by omega) (isSq_port p (.inr rfl)), (sqWrite_port v s p.isLt).2]; rfl
  · rw [exec_sqClear v hb (by omega) (isSq_clu k (.inl rfl)), (sqWrite_clu v s k.isLt).1]; rfl
  · rw [exec_sqClear v hb (by omega) (isSq_clu k (.inr rfl)), (sqWrite_clu v s k.isLt).2]; rfl

end Sys2Proof.Machine
end

section
/-! SUPPORT. What the collector captures of the first event of class C2 (R45, R358), and the obligation that takes the internal
timestamp for it. -/

namespace Sys2Proof.Machine

/-! ### The first capture -/

/-- What the collector keeps of the event `e` that reaches it at the time `d` (R45, R358). -/
def captureOf (e : FaultEv) (d : Day) : Cap :=
  { src := e.src, inst := e.inst, cls := e.cls, injected := e.injected, tick := BitVec.ofNat 32 d.tick, ts := d.tsNow
    detail := e.detail, at_ := d.tick }

@[simp] theorem fhPulse_cap (n : Nat) (s : State) : (fhPulse n s).flt.cap = s.flt.cap := by
  unfold fhPulse; split <;> rfl

@[simp] theorem readyRecords_flt (old : BitVec 48) (s : State) : (readyRecords old s).flt = s.flt := by
  rw [readyRecords_frame]

/-- With no capture held, an event of class C2 that is no cause of lightship mode is captured (R358). -/
theorem collectOne_captures_first {e : FaultEv} {s : State} (hc : e.cls = .c2) (hls : e.lsCause = 0) (hn : s.flt.cap = none) :
    (collectOne e s).flt.cap = some (captureOf e s.day) := by
  simp [collectOne, captureOf, hc, hls, hn]
  split <;> simp

/-- The collector with one quiet event on its line takes that event. -/
theorem collect_single {e : FaultEv} {s : State} (hl : s.flt.line = [e]) (hq : Quiet e) (hctl : s.ls.ctl = false) :
    collect s = collectOne e (s.modFlt (fun f => { f with line := [] })) := by
  have hline : collectLine s = collectOne e (s.modFlt (fun f => { f with line := [] })) := by
    simp [collectLine, hl, sortBy, insertBy]
  obtain ⟨hframe, hempty⟩ := collectLine_quiet s (by simpa [hl] using hq)
  have hctl' : (collectLine s).ls.ctl = false := by rw [hframe]; exact hctl
  have hp : collectPass s = collectLine s := by simp [collectPass, hl, hctl']
  have hp' : collectPass (collectLine s) = collectLine s := by simp [collectPass, hempty, hctl']
  rw [← hline]
  simp [collect, hl, hp, hp']

/-- A command that raises one event of class C2 ends with that event captured, where no capture was held. -/
theorem settle_captures_first {s0 s : State} {e : FaultEv} (hl : s.flt.line = [e]) (hc : e.cls = .c2) (hls : e.lsCause = 0)
    (hn : s.flt.cap = none) (hctl : s.ls.ctl = false) (hr : s.ready = s0.ready) :
    (settle s0 s).flt.cap = some (captureOf e s.day) := by
  have hq : Quiet e := ⟨by simp [hc], hls⟩
  have hready : (collect s).ready = s0.ready := by
    rw [(collect_quiet s hctl (by simpa [hl] using hq)).1]; exact hr
  rw [settle_eq s0 s hready, readyRecords_flt, collect_single hl hq hctl]
  exact collectOne_captures_first hc hls hn

/-! ### FAULT_EVENT -/

/-- A source that no unit reacts to raises its event and does nothing else (R356). -/
theorem faultEvent_raises {src inst : Nat} (info : BitVec 64) {s : State} (hs : src < 48) (hi : inst < faultInst src)
    (hp : s.tenderPart = true ∨ absentSrc src inst = false) (hu : src ∉ [6, 7, 8, 23, 25, 44, 47]) :
    faultEvent src inst info s = raise src inst (classOf src info) (eventDetail s src inst info) s := by
  have hfires : src < 48 ∧ inst < faultInst src ∧ (s.tenderPart ∨ !absentSrc src inst) := ⟨hs, hi, by simpa using hp⟩
  simp only [List.mem_cons, List.not_mem_nil, or_false, not_or] at hu
  rw [faultEvent, if_pos hfires, unitReaction]
  simp [hu]

/-- An event of class C2 of a source that no unit reacts to is captured with DAY_TS, in whole nanoseconds (R45, R358). -/
theorem exec_faultEvent_captures_first {s : State} {src : Fin 56} {inst : BitVec 8} {info : BitVec 64} (h : Calm s)
    (hs : src.val < 48) (hi : inst.toNat < faultInst src.val)
    (hp : s.tenderPart = true ∨ absentSrc src.val inst.toNat = false) (hu : src.val ∉ [6, 7, 8, 23, 25, 44, 47])
    (hc : classOf src.val info = .c2) (hn : s.flt.cap = none) :
    ∃ t, exec (.faultEvent src inst info) s = .next t ∧ t.flt.cap = some (captureOf
      { src := src.val, inst := inst.toNat, cls := .c2, detail := eventDetail s src.val inst.toNat info } s.day) := by
  obtain ⟨hline, hctl⟩ := h
  refine ⟨_, rfl, ?_⟩
  rw [faultEvent_raises info hs hi hp hu, hc]
  exact settle_captures_first (s := raise _ _ _ _ s) (by rw [raise_line, hline]; rfl) rfl rfl hn hctl rfl

/-! ### The refutation -/

/-- The stack one cycle of REFCLK, 10 ns, after reset. -/
def afterOneCycle : State := idleCycle State.reset

theorem step_reset : step State.reset = .next afterOneCycle := rfl

/-- Refutes O54: the statement has a capture carry `s.day.ts`, which counts in units of 2^-32 ns, where the collector keeps DAY_TS,
whole nanoseconds (R45). One cycle after reset a failure of domain 0 (source 45) is captured with 10, not 10 · 2^32. -/
theorem not_faultsAndKeeperFailuresReact : ¬ Obligations.FaultsAndKeeperFailuresReact := by
  rintro ⟨hevents, -⟩
  have hcalm : Calm afterOneCycle := by decide
  obtain ⟨t, hexec, -, -, hcap, -⟩ :=
    (hevents afterOneCycle 45 0 0 hcalm (by decide) (by decide)).2 (.inl rfl) (by decide) (by decide)
  obtain ⟨c, hc, -, -, -, hstated⟩ := hcap (by decide) rfl
  obtain ⟨t', hexec', hc'⟩ := exec_faultEvent_captures_first (src := 45) (inst := 0) (info := 0) hcalm (by decide) (by decide)
    (.inl rfl) (by decide) (by decide) rfl
  obtain rfl : t = t' := by rw [hexec] at hexec'; injection hexec'
  rw [hc, Option.some.injEq] at hc'
  have hkept : c.ts = 10 := by rw [hc']; decide
  rw [hkept] at hstated
  exact absurd hstated (by decide)

end Sys2Proof.Machine
end

section
/-! SUPPORT. What the invariant of memory and the queue of commands depend on, and the operations of the units that leave it as it is. -/

namespace Sys2Proof.Machine

/-- The data cells, the check cells and the commands waiting: all that the invariant of memory and the queue depend on. -/
abbrev MemQueue := List Host.Cell × List Host.Cell × List Instr

/-- The cells and the queue of a state. -/
def State.memQueue (s : State) : MemQueue := (s.mem, s.chk, s.pending)

@[simp] theorem memQueue_ite {c : Prop} [Decidable c] (s t : State) :
    (if c then s else t).memQueue = if c then s.memQueue else t.memQueue := apply_ite State.memQueue c s t

/-- A change of any other field. -/
@[simp] theorem memQueue_mk (s : State) (day staged ports clk clus chans sec regions stackId tenderPart ready bcn flt ls pcie pwr ret
    snap kpr lan ll wch tnd rlyTurn free) :
    (State.mk day staged ports clk clus chans s.mem s.chk sec regions stackId tenderPart ready bcn flt ls pcie pwr ret
      snap kpr lan ll wch tnd rlyTurn free s.pending).memQueue = s.memQueue := (rfl)

@[simp] theorem memQueue_foldl {α : Type} {f : State → α → State} (hf : ∀ s x, (f s x).memQueue = s.memQueue) (l : List α) (s : State) :
    (l.foldl f s).memQueue = s.memQueue := by
  induction l generalizing s with
  | nil => rfl
  | cons x l ih => rw [List.foldl_cons, ih, hf]

@[simp] theorem memQueue_foldl_fst {α β : Type} {f : State × β → α → State × β} (hf : ∀ a x, (f a x).1.memQueue = a.1.memQueue)
    (l : List α) (a : State × β) : (l.foldl f a).1.memQueue = a.1.memQueue := by
  induction l generalizing a with
  | nil => rfl
  | cons x l ih => rw [List.foldl_cons, ih, hf]

/-! ### Ops -/

@[simp] theorem memQueue_modPort (s : State) (p : Nat) (f : Port → Port) : (s.modPort p f).memQueue = s.memQueue := by simp [State.modPort]
@[simp] theorem memQueue_modChan (s : State) (c : Nat) (f : Chan → Chan) : (s.modChan c f).memQueue = s.memQueue := by simp [State.modChan]
@[simp] theorem memQueue_modSched (s : State) (c : Nat) (f : Sched → Sched) :
    (s.modSched c f).memQueue = s.memQueue := by simp [State.modSched]
@[simp] theorem memQueue_modInteg (s : State) (c : Nat) (f : Integ → Integ) :
    (s.modInteg c f).memQueue = s.memQueue := by simp [State.modInteg]
@[simp] theorem memQueue_modClu (s : State) (k : Nat) (f : Clu → Clu) : (s.modClu k f).memQueue = s.memQueue := by simp [State.modClu]
@[simp] theorem memQueue_modDay (s : State) (f : Day → Day) : (s.modDay f).memQueue = s.memQueue := by simp [State.modDay]
@[simp] theorem memQueue_modSec (s : State) (f : Sec → Sec) : (s.modSec f).memQueue = s.memQueue := by simp [State.modSec]
@[simp] theorem memQueue_modFlt (s : State) (f : Flt → Flt) : (s.modFlt f).memQueue = s.memQueue := by simp [State.modFlt]
@[simp] theorem memQueue_modBcn (s : State) (f : Bcn → Bcn) : (s.modBcn f).memQueue = s.memQueue := by simp [State.modBcn]
@[simp] theorem memQueue_modPcie (s : State) (f : Pcie → Pcie) : (s.modPcie f).memQueue = s.memQueue := by simp [State.modPcie]
@[simp] theorem memQueue_raise (src inst : Nat) (c : Cls) (detail : BitVec 64) (s : State) :
    (raise src inst c detail s).memQueue = s.memQueue := by simp [raise]
@[simp] theorem memQueue_raiseInj (src inst : Nat) (c : Cls) (detail : BitVec 64) (inj : Bool) (s : State) :
    (raiseInj src inst c detail inj s).memQueue = s.memQueue := by simp [raiseInj]
@[simp] theorem memQueue_takeFree (s : State) : (State.takeFree s).memQueue = s.memQueue := by simp [State.takeFree]

/-! ### Beacon -/

@[simp] theorem memQueue_msi (v : Nat) (s : State) : (msi v s).memQueue = s.memQueue := by simp [msi]
@[simp] theorem memQueue_captureEv (e : Ev) (s : State) : (captureEv e s).memQueue = s.memQueue := by simp [captureEv]
@[simp] theorem memQueue_emit (e : Ev) (s : State) : (emit e s).memQueue = s.memQueue := by simp [emit]

@[simp] theorem memQueue_emitWaiting (s : State) : (emitWaiting s).memQueue = s.memQueue := by
  unfold emitWaiting
  simp only [memQueue_mk]
  exact memQueue_foldl_fst (fun a e => by split <;> simp) _ _

/-! ### Fault -/

@[simp] theorem memQueue_raiseLs (src inst : Nat) (c : Cls) (detail : BitVec 64) (inj : Bool) (cause : Nat) (s : State) :
    (raiseLs src inst c detail inj cause s).memQueue = s.memQueue := by simp [raiseLs]
@[simp] theorem memQueue_allPorts (s : State) (f : Nat → Port → Port) :
    (State.allPorts s f).memQueue = s.memQueue := by simp [State.allPorts]
@[simp] theorem memQueue_fencePort (p : Nat) (c : Cause) (s : State) : (fencePort p c s).memQueue = s.memQueue := by simp [fencePort]
@[simp] theorem memQueue_fhPulse (n : Nat) (s : State) : (fhPulse n s).memQueue = s.memQueue := by simp [fhPulse]
@[simp] theorem memQueue_lsEnter (cause : Nat) (s : State) : (lsEnter cause s).memQueue = s.memQueue := by simp [lsEnter]
@[simp] theorem memQueue_collectOne (e : FaultEv) (s : State) : (collectOne e s).memQueue = s.memQueue := by simp [collectOne]
@[simp] theorem memQueue_collectLine (s : State) : (collectLine s).memQueue = s.memQueue := by simp [collectLine]
@[simp] theorem memQueue_readyRecords (old : BitVec 48) (s : State) : (readyRecords old s).memQueue = s.memQueue := by simp [readyRecords]

/-! ### Sector -/

@[simp] theorem memQueue_refreshHolds (ch : Nat) (s : State) : (refreshHolds ch s).memQueue = s.memQueue := by simp [refreshHolds]
@[simp] theorem memQueue_takeCounts (src c : Nat) (s : State) : (takeCounts src c s).memQueue = s.memQueue := by simp [takeCounts]
@[simp] theorem memQueue_releaseCounts (src c : Nat) (s : State) : (releaseCounts src c s).memQueue = s.memQueue := by simp [releaseCounts]
@[simp] theorem memQueue_recoverRelease (p : Nat) (s : State) : (recoverRelease p s).memQueue = s.memQueue := by simp [recoverRelease]
@[simp] theorem memQueue_takePlace (ch c : Nat) (s : State) : (takePlace ch c s).memQueue = s.memQueue := by simp [takePlace]
@[simp] theorem memQueue_releasePlace (ch c : Nat) (s : State) : (releasePlace ch c s).memQueue = s.memQueue := by simp [releasePlace]

/-! ### Integrity -/

@[simp] theorem memQueue_dccRecord (ch : Nat) (c : Cls) (detail : BitVec 64) (count : Nat) (s : State) :
    (dccRecord ch c detail count s).memQueue = s.memQueue := by simp [dccRecord]
@[simp] theorem memQueue_injUse (s : State) : (injUse s).memQueue = s.memQueue := by simp [injUse]

@[simp] theorem memQueue_countCE (g : Nat) (fix : List (Nat × BitVec 8)) (inj : Bool) (s : State) :
    (countCE g fix inj s).memQueue = s.memQueue := by
  unfold countCE
  dsimp only
  repeat' split
  all_goals simp

/-! ### Bus -/

@[simp] theorem memQueue_busAccess (g : Nat) (rd : Bool) (s : State) : (busAccess g rd s).memQueue = s.memQueue := by simp [busAccess]

/-! ### Queue -/

@[simp] theorem memQueue_ownCommit (s : State) : (ownCommit s).memQueue = s.memQueue := by simp [ownCommit]
@[simp] theorem memQueue_wake (ch : Nat) (s : State) : (wake ch s).memQueue = s.memQueue := by simp [wake]
@[simp] theorem memQueue_ownColumn (g : Nat) (rd : Bool) (s : State) : (ownColumn g rd s).memQueue = s.memQueue := by simp [ownColumn]
@[simp] theorem memQueue_leaveOnce (ch : Nat) (s : State) : (leaveOnce ch s).memQueue = s.memQueue := by simp [leaveOnce]

/-! ### Dram -/

@[simp] theorem memQueue_blockCheck (ch b : Nat) (s : State) : (blockCheck ch b s).memQueue = s.memQueue := by simp [blockCheck]

@[simp] theorem memQueue_columnIssue (ch b col : Nat) (rd : Bool) (errs : List SymErr) (job : Option ScrubJob) (s : State) :
    (columnIssue ch b col rd errs job s).memQueue = s.memQueue := by
  unfold columnIssue
  dsimp only
  split <;> simp

@[simp] theorem memQueue_parityAlert (ch d : Nat) (inj : Bool) (s : State) :
    (parityAlert ch d inj s).memQueue = s.memQueue := by simp [parityAlert]

@[simp] theorem memQueue_raiseDue (ch : Nat) (s : State) : (raiseDue ch s).memQueue = s.memQueue := by
  unfold raiseDue
  split <;> simp

@[simp] theorem memQueue_reissue (ch : Nat) (i : Issued) (s : State) : (reissue ch i s).memQueue = s.memQueue := by
  unfold reissue
  split <;> simp

@[simp] theorem memQueue_scrubTake (ch : Nat) (p : Pick) (s : State) : (scrubTake ch p s).memQueue = s.memQueue := by
  unfold scrubTake
  repeat' split
  all_goals simp

@[simp] theorem memQueue_issue (ch : Nat) (p : Pick) (s : State) : (issue ch p s).memQueue = s.memQueue := by
  unfold issue
  dsimp only
  repeat' split
  all_goals simp

@[simp] theorem memQueue_injectParity (ch : Nat) (c : Cmd) (s : State) : (injectParity ch c s).memQueue = s.memQueue := by
  unfold injectParity
  split <;> simp

@[simp] theorem memQueue_overrunCheck (ch : Nat) (s : State) : (overrunCheck ch s).memQueue = s.memQueue := by simp [overrunCheck]
@[simp] theorem memQueue_prune (ch : Nat) (s : State) : (prune ch s).memQueue = s.memQueue := by simp [prune]

/-! ### Repair -/

@[simp] theorem memQueue_capChanged (ch : Nat) (s : State) : (capChanged ch s).memQueue = s.memQueue := by simp [capChanged]
@[simp] theorem memQueue_dccEvent (ch src : Nat) (c : Cls) (det : BitVec 64) (count : Nat) (s : State) :
    (dccEvent ch src c det count s).memQueue = s.memQueue := by simp [dccEvent]

@[simp] theorem memQueue_tsvReport (ch : Nat) (cmd : Bool) (a : TsvAct) (s : State) : (tsvReport ch cmd a s).memQueue = s.memQueue := by
  unfold tsvReport
  dsimp only
  split <;> simp

@[simp] theorem memQueue_failData (ch t : Nat) (s : State) : (failData ch t s).memQueue = s.memQueue := by simp [failData]
@[simp] theorem memQueue_failCmd (ch n : Nat) (dies : BitVec 16) (s : State) :
    (failCmd ch n dies s).memQueue = s.memQueue := by simp [failCmd]
@[simp] theorem memQueue_tsvFailed (ch t : Nat) (dies : BitVec 16) (s : State) :
    (tsvFailed ch t dies s).memQueue = s.memQueue := by simp [tsvFailed]
@[simp] theorem memQueue_beginMove (ch : Nat) (m : Move) (s : State) : (beginMove ch m s).memQueue = s.memQueue := by simp [beginMove]
@[simp] theorem memQueue_mooringFull (ch g count : Nat) (s : State) :
    (mooringFull ch g count s).memQueue = s.memQueue := by simp [mooringFull]

@[simp] theorem memQueue_markBad (ch b n : Nat) (s : State) : (markBad ch b n s).memQueue = s.memQueue := by
  unfold markBad
  dsimp only
  repeat' split
  all_goals simp

@[simp] theorem memQueue_moorCandidate (ch : Nat) (c : Cand) (s : State) : (moorCandidate ch c s).memQueue = s.memQueue := by
  unfold moorCandidate
  dsimp only
  repeat' split
  all_goals simp

@[simp] theorem memQueue_mooringRound (ch : Nat) (s : State) : (mooringRound ch s).memQueue = s.memQueue := by simp [mooringRound]
@[simp] theorem memQueue_roundBoundary (ch : Nat) (s : State) : (roundBoundary ch s).memQueue = s.memQueue := by simp [roundBoundary]
@[simp] theorem memQueue_finishMove (ch : Nat) (s : State) (m : Move) : (finishMove ch s m).memQueue = s.memQueue := by simp [finishMove]
@[simp] theorem memQueue_finishMoves (ch : Nat) (s : State) : (finishMoves ch s).memQueue = s.memQueue := by simp [finishMoves]
@[simp] theorem memQueue_ceRecord (ch : Nat) (s : State) : (ceRecord ch s).memQueue = s.memQueue := by simp [ceRecord]

/-! ### Collect -/

@[simp] theorem memQueue_chanSleep (doubled : Bool) (ch : Nat) (s : State) :
    (chanSleep doubled ch s).memQueue = s.memQueue := by simp [chanSleep]
@[simp] theorem memQueue_chanHalt (doubled : Bool) (ch : Nat) (s : State) :
    (chanHalt doubled ch s).memQueue = s.memQueue := by simp [chanHalt]
@[simp] theorem memQueue_capTrack (old : BitVec 16) (s : State) : (capTrack old s).memQueue = s.memQueue := by simp [capTrack]

/-! ### Request -/

@[simp] theorem memQueue_addLate (c : Nat) (s : State) : (addLate c s).memQueue = s.memQueue := by simp [addLate]
@[simp] theorem memQueue_freeTag (p t sent : Nat) (s : State) : (freeTag p t sent s).memQueue = s.memQueue := by simp [freeTag]

@[simp] theorem memQueue_freeFrame (p : Nat) (f : TxFrame) (s : State) : (freeFrame p f s).memQueue = s.memQueue := by
  unfold freeFrame
  split <;> simp

@[simp] theorem memQueue_ackFrames (p k : Nat) (s : State) : (ackFrames p k s).memQueue = s.memQueue := by simp [ackFrames]
@[simp] theorem memQueue_pumpPort (p : Nat) (s : State) : (pumpPort p s).memQueue = s.memQueue := by simp [pumpPort]
@[simp] theorem memQueue_galFrame (p : Nat) (c : Cls) (s : State) : (galFrame p c s).memQueue = s.memQueue := by simp [galFrame]
@[simp] theorem memQueue_galLinkEv (p : Nat) (c : Cls) (s : State) : (galLinkEv p c s).memQueue = s.memQueue := by simp [galLinkEv]
@[simp] theorem memQueue_protocolError (p : Nat) (opc : BitVec 8) (tag : Tag) (retrain : Bool) (s : State) :
    (protocolError p opc tag retrain s).memQueue = s.memQueue := by simp [protocolError]
@[simp] theorem memQueue_replayEpisode (p k : Nat) (s : State) : (replayEpisode p k s).memQueue = s.memQueue := by simp [replayEpisode]
@[simp] theorem memQueue_retryLimit (p : Nat) (s : State) : (retryLimit p s).memQueue = s.memQueue := by simp [retryLimit]
@[simp] theorem memQueue_enterNak (p : Nat) (s : State) : (enterNak p s).memQueue = s.memQueue := by simp [enterNak]
@[simp] theorem memQueue_reportCrc (p : Nat) (inj : Bool) (s : State) : (reportCrc p inj s).memQueue = s.memQueue := by simp [reportCrc]
@[simp] theorem memQueue_crcFail (p : Nat) (inj : Bool) (s : State) : (crcFail p inj s).memQueue = s.memQueue := by simp [crcFail]
@[simp] theorem memQueue_countDown (p : Nat) (s : State) : (countDown p s).memQueue = s.memQueue := by simp [countDown]

@[simp] theorem memQueue_useAck (p : Nat) (a : Fseq) (opc : BitVec 8) (tag : Tag) (s : State) :
    (useAck p a opc tag s).1.memQueue = s.memQueue := by
  unfold useAck; split <;> simp

@[simp] theorem memQueue_rxSeq (p : Nat) (h : Hdr) (opc : BitVec 8) (tag : Tag) (act : State → State) (s : State)
    (hact : ∀ t, (act t).memQueue = t.memQueue) : (rxSeq p h opc tag act s).memQueue = s.memQueue := by
  unfold rxSeq
  simp [hact]

@[simp] theorem memQueue_rxIdle (p : Nat) (a : Fseq) (s : State) : (rxIdle p a s).memQueue = s.memQueue := by simp [rxIdle]

@[simp] theorem memQueue_rxNak (p : Nat) (a e : Fseq) (s : State) : (rxNak p a e s).memQueue = s.memQueue := by
  unfold rxNak
  dsimp only
  repeat' split
  all_goals simp

@[simp] theorem memQueue_recvRequest (p : Nat) (o : BitVec 8) (r : ReqF) (s : State) : (recvRequest p o r s).memQueue = s.memQueue := by
  unfold recvRequest
  dsimp only
  repeat' split
  all_goals simp

/-! ### Lanes -/

@[simp] theorem memQueue_linkFault (p : Nat) (c : Cls) (s : State) : (linkFault p c s).memQueue = s.memQueue := by simp [linkFault]

@[simp] theorem memQueue_sliceDone (p : Nat) (errors : Nat) (s : State) : (sliceDone p errors s).memQueue = s.memQueue := by
  unfold sliceDone
  split <;> simp

@[simp] theorem memQueue_bistFail (p : Nat) (s : State) : (bistFail p s).memQueue = s.memQueue := by simp [bistFail]
@[simp] theorem memQueue_skipAtStart (p pos : Nat) (s : State) : (skipAtStart p pos s).memQueue = s.memQueue := by simp [skipAtStart]
@[simp] theorem memQueue_sendLane (p action : Nat) (d : Dir) (lane : Nat) (k : Spare) (s : State) :
    (sendLane p action d lane k s).memQueue = s.memQueue := by simp [sendLane]
@[simp] theorem memQueue_setSwap (p : Nat) (d : Dir) (w : Option Swap) (s : State) :
    (setSwap p d w s).memQueue = s.memQueue := by simp [setSwap]

@[simp] theorem memQueue_beginSlice (p pos : Nat) (s : State) : (beginSlice p pos s).memQueue = s.memQueue := by
  unfold beginSlice
  dsimp only
  repeat' split
  all_goals simp

@[simp] theorem memQueue_setBistWait (p : Nat) (w : Option Nat) (s : State) :
    (setBistWait p w s).memQueue = s.memQueue := by simp [setBistWait]

@[simp] theorem memQueue_laneBistSlice (p : Nat) (s : State) : (laneBistSlice p s).memQueue = s.memQueue := by
  unfold laneBistSlice
  dsimp only
  repeat' split
  all_goals simp

@[simp] theorem memQueue_laneBistRestore (p errors : Nat) (s : State) : (laneBistRestore p errors s).memQueue = s.memQueue := by
  unfold laneBistRestore
  dsimp only
  repeat' split
  all_goals simp

@[simp] theorem memQueue_sliceSwapped (p : Nat) (d : Dir) (lane : Nat) (s : State) :
    (sliceSwapped p d lane s).memQueue = s.memQueue := by simp [sliceSwapped]

@[simp] theorem memQueue_sliceAbandon (p : Nat) (d : Dir) (lane : Nat) (s : State) : (sliceAbandon p d lane s).memQueue = s.memQueue := by
  unfold sliceAbandon
  split <;> simp

@[simp] theorem memQueue_sliceRestored (p : Nat) (d : Dir) (lane : Nat) (s : State) : (sliceRestored p d lane s).memQueue = s.memQueue := by
  unfold sliceRestored
  split <;> simp

@[simp] theorem memQueue_swapMatch (p : Nat) (s : State) : (swapMatch p s).memQueue = s.memQueue := by
  unfold swapMatch
  repeat' split
  all_goals simp

@[simp] theorem memQueue_swapAbandon (p : Nat) (d : Dir) (s : State) : (swapAbandon p d s).memQueue = s.memQueue := by
  unfold swapAbandon
  split <;> simp

@[simp] theorem memQueue_swapNoMatch (p : Nat) (s : State) : (swapNoMatch p s).memQueue = s.memQueue := by
  unfold swapNoMatch
  split <;> simp

@[simp] theorem memQueue_swapUnanswered (p : Nat) (s : State) : (swapUnanswered p s).memQueue = s.memQueue := by
  unfold swapUnanswered
  split <;> simp

@[simp] theorem memQueue_rxSwapReq (p : Nat) (restore : Bool) (d : Dir) (lane : Nat) (k : Spare) (s : State) :
    (rxSwapReq p restore d lane k s).memQueue = s.memQueue := by simp [rxSwapReq]

@[simp] theorem memQueue_rxMirror (p : Nat) (restore : Bool) (d : Dir) (lane : Nat) (k : Spare) (s : State) :
    (rxMirror p restore d lane k s).memQueue = s.memQueue := by
  unfold rxMirror
  dsimp only
  split
  · simp
  · split <;> simp

@[simp] theorem memQueue_rxSwitched (p : Nat) (restore : Bool) (d : Dir) (lane : Nat) (k : Spare) (s : State) :
    (rxSwitched p restore d lane k s).memQueue = s.memQueue := by
  unfold rxSwitched
  split <;> simp

@[simp] theorem memQueue_rxSwapFail (p : Nat) (d : Dir) (lane : Nat) (k : Spare) (s : State) :
    (rxSwapFail p d lane k s).memQueue = s.memQueue := by
  unfold rxSwapFail
  split <;> simp

@[simp] theorem memQueue_rxRepair (p : Nat) (d : Dir) (lane : Nat) (k : Spare) (s : State) :
    (rxRepair p d lane k s).memQueue = s.memQueue := by simp [rxRepair]
@[simp] theorem memQueue_rxBistResult (p : Nat) (d : Dir) (lane errors : Nat) (s : State) :
    (rxBistResult p d lane errors s).memQueue = s.memQueue := by simp [rxBistResult]

@[simp] theorem memQueue_startRepair (p lane : Nat) (s : State) : (startRepair p lane s).memQueue = s.memQueue := by
  unfold startRepair
  split <;> simp

@[simp] theorem memQueue_retrainFor (p cause : Nat) (s : State) : (retrainFor p cause s).memQueue = s.memQueue := by simp [retrainFor]

@[simp] theorem memQueue_swapMeets (p : Nat) (lost : BitVec 78) (s : State) : (swapMeets p lost s).memQueue = s.memQueue := by
  unfold swapMeets
  split <;> simp

@[simp] theorem memQueue_losLanes (p : Nat) (lost : BitVec 78) (s : State) : (losLanes p lost s).memQueue = s.memQueue := by
  unfold losLanes
  extract_lets x0 sl0 test hit s1 moved s2 x spareLane needs s3 waiting s4
  have h1 : s1.memQueue = s.memQueue := by unfold s1; split <;> rfl
  have h3 : s3.memQueue = s.memQueue := by
    have hmark : s3.memQueue = s2.memQueue := memQueue_foldl (fun t k => by split <;> rfl) _ _
    rw [hmark, memQueue_swapMeets, h1]
  clear_value waiting
  have h4 : s4.memQueue = s.memQueue := by
    unfold s4
    split
    · exact (memQueue_modPort _ _ _).trans h3
    · split
      · rw [memQueue_startRepair, memQueue_modPort, h3]
      · exact h3
  repeat' split
  all_goals simp [h3, h4]

@[simp] theorem memQueue_losAll (p : Nat) (s : State) : (losAll p s).memQueue = s.memQueue := by simp [losAll]

@[simp] theorem memQueue_lossOfSignal (p : Nat) (lanes : BitVec 78) (s : State) : (lossOfSignal p lanes s).memQueue = s.memQueue := by
  unfold lossOfSignal
  dsimp only
  split
  · simp
  · split <;> simp

@[simp] theorem memQueue_signalReturn (p : Nat) (lanes : BitVec 78) (s : State) :
    (signalReturn p lanes s).memQueue = s.memQueue := by simp [signalReturn]
@[simp] theorem memQueue_portOn (p : Nat) (s : State) : (portOn p s).memQueue = s.memQueue := by simp [portOn]

@[simp] theorem memQueue_pllLock (w : Pll) (s : State) : (pllLock w s).memQueue = s.memQueue := by
  unfold pllLock
  split <;> simp

@[simp] theorem memQueue_lossOfLock (q : Nat) (s : State) : (lossOfLock q s).memQueue = s.memQueue := by simp [lossOfLock]
@[simp] theorem memQueue_frameLossOfLock (s : State) : (frameLossOfLock s).memQueue = s.memQueue := by simp [frameLossOfLock]

@[simp] theorem memQueue_repairMarker (p valid : Nat) (s : State) : (repairMarker p valid s).memQueue = s.memQueue := by
  unfold repairMarker
  dsimp only
  repeat' split
  all_goals simp

@[simp] theorem memQueue_repairTimeout (p : Nat) (s : State) : (repairTimeout p s).memQueue = s.memQueue := by simp [repairTimeout]
@[simp] theorem memQueue_stageEnd (p : Nat) (st : Stage) (good hostLag : Bool) (f g : Port → Port) (s : State) :
    (stageEnd p st good hostLag f g s).memQueue = s.memQueue := by simp [stageEnd]
@[simp] theorem memQueue_trainDetect (p : Nat) (sig : BitVec 78) (lag : Bool) (s : State) :
    (trainDetect p sig lag s).memQueue = s.memQueue := by simp [trainDetect]
@[simp] theorem memQueue_trainPhase (p : Nat) (locked : BitVec 78) (lag : Bool) (s : State) :
    (trainPhase p locked lag s).memQueue = s.memQueue := by simp [trainPhase]
@[simp] theorem memQueue_trainAdapt (p : Nat) (settled lag : Bool) (s : State) :
    (trainAdapt p settled lag s).memQueue = s.memQueue := by simp [trainAdapt]
@[simp] theorem memQueue_trainIdent (p : Nat) (data ctl spare : List (Option (BitVec 16))) (lag : Bool) (s : State) :
    (trainIdent p data ctl spare lag s).memQueue = s.memQueue := by simp [trainIdent]
@[simp] theorem memQueue_trainDeskew (p : Nat) (offs : List (Option Nat)) (lag : Bool) (s : State) :
    (trainDeskew p offs lag s).memQueue = s.memQueue := by simp [trainDeskew]
@[simp] theorem memQueue_trainLanetest (p : Nat) (failing : BitVec 78) (lag : Bool) (s : State) :
    (trainLanetest p failing lag s).memQueue = s.memQueue := by simp [trainLanetest]
@[simp] theorem memQueue_trainParam (p : Nat) (copies : List (List (BitVec 64))) (lag : Bool) (s : State) :
    (trainParam p copies lag s).memQueue = s.memQueue := by simp [trainParam]
@[simp] theorem memQueue_occultEntry (p : Nat) (s : State) : (occultEntry p s).memQueue = s.memQueue := by simp [occultEntry]
@[simp] theorem memQueue_occultExit (p : Nat) (s : State) : (occultExit p s).memQueue = s.memQueue := by simp [occultExit]
@[simp] theorem memQueue_occultBlock (p : Nat) (s : State) : (occultBlock p s).memQueue = s.memQueue := by simp [occultBlock]
@[simp] theorem memQueue_wakeBurst (p : Nat) (s : State) : (wakeBurst p s).memQueue = s.memQueue := by simp [wakeBurst]

/-! ### Context -/

@[simp] theorem memQueue_modTnd (s : State) (f : Tnd → Tnd) : (s.modTnd f).memQueue = s.memQueue := by simp [State.modTnd]
@[simp] theorem memQueue_modTclu (s : State) (t : Nat) (f : TndClu → TndClu) :
    (s.modTclu t f).memQueue = s.memQueue := by simp [State.modTclu]
@[simp] theorem memQueue_modRes (t n : Nat) (f : Res → Res) (s : State) : (modRes t n f s).memQueue = s.memQueue := by simp [modRes]
@[simp] theorem memQueue_addWait (n : Nat) (c : Ctx) (pre : Bool) (s : State) :
    (addWait n c pre s).memQueue = s.memQueue := by simp [addWait]
@[simp] theorem memQueue_dropWait (n : Nat) (s : State) : (dropWait n s).memQueue = s.memQueue := by simp [dropWait]
@[simp] theorem memQueue_stopRecord (n : Nat) (c : Ctx) (s : State) : (stopRecord n c s).memQueue = s.memQueue := by simp [stopRecord]

/-! ### Xlate -/

@[simp] theorem memQueue_tlbAdd (asid level va : Nat) (e : BitVec 64) (s : State) :
    (tlbAdd asid level va e s).memQueue = s.memQueue := by simp [tlbAdd]
@[simp] theorem memQueue_tlbDrop (asid : Option Nat) (lo hi : Nat) (s : State) :
    (tlbDrop asid lo hi s).memQueue = s.memQueue := by simp [tlbDrop]

/-! ### Stream -/

@[simp] theorem memQueue_finishDb (src : Option (Nat × Nat)) (st d : Nat) (s : State) : (finishDb src st d s).memQueue = s.memQueue := by
  unfold finishDb
  split <;> simp

@[simp] theorem memQueue_dropReads (n : Nat) (s : State) : (dropReads n s).memQueue = s.memQueue := by simp [dropReads]
@[simp] theorem memQueue_startRun (t n : Nat) (s : State) : (startRun t n s).memQueue = s.memQueue := by simp [startRun]

@[simp] theorem memQueue_preemption (t : Nat) (s : State) : (preemption t s).memQueue = s.memQueue := by
  unfold preemption
  dsimp only
  repeat' split
  all_goals simp

@[simp] theorem memQueue_unitsReady (s : State) : (unitsReady s).memQueue = s.memQueue := by simp [unitsReady]
@[simp] theorem memQueue_loseCache (t : Nat) (s : State) : (loseCache t s).memQueue = s.memQueue := by simp [loseCache]

@[simp] theorem memQueue_loseContext (n : Nat) (s : State) : (loseContext n s).memQueue = s.memQueue := by
  unfold loseContext
  split <;> simp

/-! ### Arbiter -/

@[simp] theorem memQueue_took (ch src : Nat) (s : State) : (took ch src s).memQueue = s.memQueue := by simp [took]

/-! ### Element -/

@[simp] theorem memQueue_elApplied (t n : Nat) (e : El) (skip : Bool) (flags : BitVec 6) (s : State) :
    (elApplied t n e skip flags s).memQueue = s.memQueue := by
  unfold elApplied
  split <;> simp

@[simp] theorem memQueue_elFail (t n : Nat) (e : El) (cause : Nat) (detail : BitVec 64) (s : State) :
    (elFail t n e cause detail s).memQueue = s.memQueue := by simp [elFail]
@[simp] theorem memQueue_elNext (t n : Nat) (e : El) (s : State) : (elNext t n e s).memQueue = s.memQueue := by simp [elNext]

@[simp] theorem memQueue_afterSource (t n : Nat) (d : Desc) (e : El) (s : State) : (afterSource t n d e s).memQueue = s.memQueue := by
  unfold afterSource
  dsimp only
  repeat' split
  all_goals simp

@[simp] theorem memQueue_afterIndex (t n : Nat) (d : Desc) (e : El) (b : List (BitVec 8)) (s : State) :
    (afterIndex t n d e b s).memQueue = s.memQueue := by simp [afterIndex]

@[simp] theorem memQueue_elPoison (t n : Nat) (d : Desc) (e : El) (s : State) : (elPoison t n d e s).memQueue = s.memQueue := by
  unfold elPoison
  split <;> simp

@[simp] theorem memQueue_elDone (t n : Nat) (d : Desc) (e : El) (b : List (BitVec 8)) (fl : BitVec 6) (s : State) :
    (elDone t n d e b fl s).memQueue = s.memQueue := by
  unfold elDone
  dsimp only
  split
  · simp
  · split <;> simp

@[simp] theorem memQueue_elEnds (t n : Nat) (r : Res) (d : Desc) (e : El) (f : Entry) (s : State) :
    (elEnds t n r d e f s).memQueue = s.memQueue := by
  unfold elEnds
  repeat' split
  all_goals simp

@[simp] theorem memQueue_elementApplied (n k : Nat) (s : State) : (elementApplied n k s).memQueue = s.memQueue := by
  unfold elementApplied
  dsimp only
  repeat' split
  all_goals simp

/-! ### Commit -/

@[simp] theorem memQueue_popHead (p c : Nat) (s : State) : (popHead p c s).memQueue = s.memQueue := by simp [popHead]
@[simp] theorem memQueue_issueTag (p t c stepping : Nat) (s : State) :
    (issueTag p t c stepping s).memQueue = s.memQueue := by simp [issueTag]

@[simp] theorem memQueue_requestPerformed (p t : Nat) (s : State) : (requestPerformed p t s).memQueue = s.memQueue := by
  unfold requestPerformed
  split <;> simp

@[simp] theorem memQueue_nakResend (p : Nat) (s : State) : (nakResend p s).memQueue = s.memQueue := by simp [nakResend]
@[simp] theorem memQueue_replayTimeout (p : Nat) (s : State) : (replayTimeout p s).memQueue = s.memQueue := by simp [replayTimeout]

/-! ### Relay -/

@[simp] theorem memQueue_relaySend (p : Nat) (s : State) : (relaySend p s).memQueue = s.memQueue := by
  unfold relaySend
  repeat' split
  all_goals simp

@[simp] theorem memQueue_relayFail (t n : Nat) (d : Desc) (e : El) (doubt : Bool) (cause : Nat) (detail : BitVec 64) (s : State) :
    (relayFail t n d e doubt cause detail s).memQueue = s.memQueue := by simp [relayFail]

@[simp] theorem memQueue_relayOutcome (g : RTag) (status detail : Nat) (data : List (BitVec 8)) (s : State) :
    (relayOutcome g status detail data s).memQueue = s.memQueue := by
  unfold relayOutcome
  dsimp only
  repeat' split
  all_goals simp

@[simp] theorem memQueue_relayTimeout (p t : Nat) (s : State) : (relayTimeout p t s).memQueue = s.memQueue := by
  unfold relayTimeout
  dsimp only
  split
  · simp
  · split <;> simp

@[simp] theorem memQueue_relaysDue (s : State) : (relaysDue s).memQueue = s.memQueue := by simp [relaysDue]

@[simp] theorem memQueue_rxRelayRsp (p : Nat) (r : RspF) (s : State) : (rxRelayRsp p r s).memQueue = s.memQueue := by
  unfold rxRelayRsp
  dsimp only
  split <;> simp

@[simp] theorem memQueue_rxRlyCredit (p n : Nat) (s : State) : (rxRlyCredit p n s).memQueue = s.memQueue := by simp [rxRlyCredit]

/-! ### Ctrl -/

@[simp] theorem memQueue_stopClock (k : Nat) (s : State) : (stopClock k s).memQueue = s.memQueue := by simp [stopClock]
@[simp] theorem memQueue_mrrCmd (ch d : Nat) (ok : Bool) (s : State) : (mrrCmd ch d ok s).memQueue = s.memQueue := by simp [mrrCmd]
@[simp] theorem memQueue_cluRecord (k : Nat) (s : State) : (cluRecord k s).memQueue = s.memQueue := by simp [cluRecord]
@[simp] theorem memQueue_stepT2 (k : Nat) (locked : Bool) (s : State) : (stepT2 k locked s).memQueue = s.memQueue := by simp [stepT2]
@[simp] theorem memQueue_tsvLoopback (ch t : Nat) (fails : Bool) (dies : BitVec 16) (s : State) :
    (tsvLoopback ch t fails dies s).memQueue = s.memQueue := by simp [tsvLoopback]

/-! ### Regs -/

@[simp] theorem memQueue_takeSnap (s : State) : (takeSnap s).memQueue = s.memQueue := by simp [takeSnap]

/-! ### Writes -/

@[simp] theorem memQueue_sqWrite (off : Nat) (v : Word32) (s : State) : (sqWrite off v s).memQueue = s.memQueue := by simp [sqWrite]
@[simp] theorem memQueue_modMbx (s : State) (m : Nat) (f : Mbx → Mbx) : (s.modMbx m f).memQueue = s.memQueue := by simp [State.modMbx]
@[simp] theorem memQueue_tailWrite (fast : Bool) (v : Word32) (s : State) :
    (tailWrite fast v s).memQueue = s.memQueue := by simp [tailWrite]
@[simp] theorem memQueue_ringWrite (fast : Bool) (off o : Nat) (v : Word32) (s : State) :
    (ringWrite fast off o v s).memQueue = s.memQueue := by simp [ringWrite]
@[simp] theorem memQueue_maskWrite (u w : Nat) (v : Word32) (s : State) : (maskWrite u w v s).memQueue = s.memQueue := by simp [maskWrite]
@[simp] theorem memQueue_linkCtlWrite (off : Nat) (v : Word32) (s : State) :
    (linkCtlWrite off v s).memQueue = s.memQueue := by simp [linkCtlWrite]
@[simp] theorem memQueue_pgWrite (off : Nat) (v : Word32) (s : State) : (pgWrite off v s).memQueue = s.memQueue := by simp [pgWrite]
@[simp] theorem memQueue_rateWrite (off : Nat) (v : Word32) (s : State) : (rateWrite off v s).memQueue = s.memQueue := by simp [rateWrite]
@[simp] theorem memQueue_writeReg (off : Nat) (v : Word32) (s : State) : (writeReg off v s).memQueue = s.memQueue := by simp [writeReg]
@[simp] theorem memQueue_busLog (e : BusErr) (st : Cpl) (wr bar2 : Bool) (off be : Nat) (s : State) :
    (busLog e st wr bar2 off be s).memQueue = s.memQueue := by simp [busLog]
@[simp] theorem memQueue_busRefuse (wr bar2 : Bool) (off be : Nat) (s : State) :
    (busRefuse wr bar2 off be s).memQueue = s.memQueue := by simp [busRefuse]
@[simp] theorem memQueue_busWrite (w : Sys2Proof.BusWrite) (s : State) : (busWrite w s).memQueue = s.memQueue := by simp [busWrite]
@[simp] theorem memQueue_regWrite (off : Nat) (v : Word32) (s : State) : (regWrite off v s).memQueue = s.memQueue := by simp [regWrite]
@[simp] theorem memQueue_ringCtl (fast : Bool) (v : Word32) (s : State) : (ringCtl fast v s).memQueue = s.memQueue := by simp [ringCtl]

@[simp] theorem memQueue_applyPg (st : List (Nat × Word32)) (p : Nat) (s : State) : (applyPg st p s).memQueue = s.memQueue := by
  unfold applyPg
  split <;> simp

@[simp] theorem memQueue_applyCredits (st : List (Nat × Word32)) (p : Nat) (s : State) :
    (applyCredits st p s).memQueue = s.memQueue := by simp [applyCredits]

/-! ### Rows -/

@[simp] theorem memQueue_recordWrite (fast : Bool) (s : State) : (recordWrite fast s).memQueue = s.memQueue := by
  unfold recordWrite
  dsimp only
  split
  · simp
  · split <;> simp

@[simp] theorem memQueue_writeRest (fuel : Nat) (s : State) : (writeRest fuel s).memQueue = s.memQueue := by
  induction fuel generalizing s with
  | zero => rfl
  | succ fuel ih => simp [writeRest, ih]

@[simp] theorem memQueue_dmaTick (s : State) : (dmaTick s).memQueue = s.memQueue := by simp [dmaTick]
@[simp] theorem memQueue_quench (l : Nat) (s : State) : (quench l s).memQueue = s.memQueue := by simp [quench]

/-! ### Mgmt -/

@[simp] theorem memQueue_functionReset (s : State) : (functionReset s).memQueue = s.memQueue := by simp [functionReset]

@[simp] theorem memQueue_xbarTender (t n : Nat) (s : State) : (xbarTender t n s).memQueue = s.memQueue := by
  unfold xbarTender
  repeat' split
  all_goals simp

@[simp] theorem memQueue_foghornRule (s : State) : (foghornRule s).memQueue = s.memQueue := by simp [foghornRule]

@[simp] theorem memQueue_pulseEnd (s : State) : (pulseEnd s).memQueue = s.memQueue := by
  unfold pulseEnd
  dsimp only
  repeat' split
  all_goals simp

/-! ### Lantern -/

@[simp] theorem memQueue_modLan (s : State) (f : Lan → Lan) : (s.modLan f).memQueue = s.memQueue := by simp [State.modLan]
@[simp] theorem memQueue_lanRec (inst : Nat) (pay : BitVec 96) (s : State) : (lanRec inst pay s).memQueue = s.memQueue := by simp [lanRec]
@[simp] theorem memQueue_lanEvt (b : Nat) (s : State) : (lanEvt b s).memQueue = s.memQueue := by simp [lanEvt]
@[simp] theorem memQueue_lanLevel (l : Nat) (on : Bool) (pay : BitVec 96) (s : State) :
    (lanLevel l on pay s).memQueue = s.memQueue := by simp [lanLevel]
@[simp] theorem memQueue_effRecompute (s : State) : (effRecompute s).memQueue = s.memQueue := by simp [effRecompute]
@[simp] theorem memQueue_setLevel (first : Bool) (s : State) : (setLevel first s).memQueue = s.memQueue := by simp [setLevel]
@[simp] theorem memQueue_setThr (s : State) : (setThr s).memQueue = s.memQueue := by simp [setThr]
@[simp] theorem memQueue_setRates (own : BitVec 16) (s : State) : (setRates own s).memQueue = s.memQueue := by simp [setRates]
@[simp] theorem memQueue_setLimits (s : State) : (setLimits s).memQueue = s.memQueue := by simp [setLimits]
@[simp] theorem memQueue_lanApply (first : Bool) (own : BitVec 16) (s : State) :
    (lanApply first own s).memQueue = s.memQueue := by simp [lanApply]

@[simp] theorem memQueue_lanAct (s : State) : (lanAct s).1.memQueue = s.memQueue := by
  unfold lanAct
  split
  · rfl
  · simp

@[simp] theorem memQueue_lanReturn (s : State) : (lanReturn s).1.memQueue = s.memQueue := by simp [lanReturn]
@[simp] theorem memQueue_lanLate (s : State) : (lanLate s).1.memQueue = s.memQueue := by simp [lanLate]
@[simp] theorem memQueue_throttleBoundary (s : State) : (throttleBoundary s).memQueue = s.memQueue := by simp [throttleBoundary]
@[simp] theorem memQueue_dieReport (old : Lan) (s : State) (d : Nat) : (dieReport old s d).memQueue = s.memQueue := by simp [dieReport]
@[simp] theorem memQueue_critReport (old : Lan) (s : State) : (critReport old s).memQueue = s.memQueue := by simp [critReport]
@[simp] theorem memQueue_voltStep (s : State) (m : Nat) : (voltStep s m).memQueue = s.memQueue := by simp [voltStep]
@[simp] theorem memQueue_publish (r : Sys2Proof.LanRound) (s : State) : (publish r s).memQueue = s.memQueue := by simp [publish]

@[simp] theorem memQueue_graceEnd (s : State) : (graceEnd s).memQueue = s.memQueue := by
  unfold graceEnd
  split <;> simp

@[simp] theorem memQueue_overrideEnd (s : State) : (overrideEnd s).memQueue = s.memQueue := by
  unfold overrideEnd
  split
  · simp
  · split <;> simp

@[simp] theorem memQueue_rateReturn (d : Nat) (s : State) : (rateReturn d s).memQueue = s.memQueue := by simp [rateReturn]
@[simp] theorem memQueue_tripSample (s : State) (low : Bool) : (tripSample s low).memQueue = s.memQueue := by simp [tripSample]
@[simp] theorem memQueue_srSample (s : State) (low : Bool) : (srSample s low).memQueue = s.memQueue := by simp [srSample]

/-! ### Keeper -/

@[simp] theorem memQueue_modKpr (s : State) (f : Kpr → Kpr) : (s.modKpr f).memQueue = s.memQueue := by simp [State.modKpr]
@[simp] theorem memQueue_modLl (s : State) (f : Ll → Ll) : (s.modLl f).memQueue = s.memQueue := by simp [State.modLl]
@[simp] theorem memQueue_respond (m status : Nat) (data : List Word32) (superseded : Bool) (s : State) :
    (respond m status data superseded s).memQueue = s.memQueue := by simp [respond]
@[simp] theorem memQueue_dropMbx (c : KCause) (s : State) (m : Nat) : (dropMbx c s m).memQueue = s.memQueue := by simp [dropMbx]
@[simp] theorem memQueue_keeperReset (c : KCause) (inj : Bool) (s : State) :
    (keeperReset c inj s).memQueue = s.memQueue := by simp [keeperReset]

@[simp] theorem memQueue_sramRead (m w : Nat) (e : Sys2Proof.MacroErr) (inj : Bool) (s : State) :
    (sramRead m w e inj s).memQueue = s.memQueue := by
  unfold sramRead
  split <;> simp

@[simp] theorem memQueue_scrubRead (w : Nat) (errs : List Sys2Proof.MacroErr) (s : State) (m : Nat) :
    (scrubRead w errs s m).memQueue = s.memQueue := by
  unfold scrubRead
  split <;> simp

@[simp] theorem memQueue_sramScrub (w : Nat) (errs : List Sys2Proof.MacroErr) (s : State) :
    (sramScrub w errs s).memQueue = s.memQueue := by simp [sramScrub]
@[simp] theorem memQueue_sramScrubRest (s : State) : (sramScrubRest s).memQueue = s.memQueue := by simp [sramScrubRest]
@[simp] theorem memQueue_watchdog (s : State) : (watchdog s).memQueue = s.memQueue := by simp [watchdog]

/-! ### Light -/

@[simp] theorem memQueue_llReport (inst src : Nat) (c : Cls) (b : Nat) (words : List Nat) (rows : Nat) (inj : Bool) (s : State) :
    (llReport inst src c b words rows inj s).memQueue = s.memQueue := by simp [llReport]
@[simp] theorem memQueue_llEvt (k : Nat) (s : State) : (llEvt k s).memQueue = s.memQueue := by simp [llEvt]
@[simp] theorem memQueue_markWeak (b : Nat) (s : State) : (markWeak b s).memQueue = s.memQueue := by simp [markWeak]
@[simp] theorem memQueue_bank0Sense (reads : List Sys2Proof.FuseRead) (s : State) :
    (bank0Sense reads s).memQueue = s.memQueue := by simp [bank0Sense]
@[simp] theorem memQueue_bulkSense (reads : List Sys2Proof.FuseRead) (s : State) :
    (bulkSense reads s).memQueue = s.memQueue := by simp [bulkSense]
@[simp] theorem memQueue_passStart (s : State) : (passStart s).memQueue = s.memQueue := by simp [passStart]

@[simp] theorem memQueue_moorRows (rows : List (Nat × Nat × Nat)) (s : State) : (moorRows rows s).1.memQueue = s.memQueue := by
  unfold moorRows
  simp only []
  rw [memQueue_foldl (fun s ch => by split <;> simp), memQueue_foldl_fst (fun a x => by split <;> simp)]

@[simp] theorem memQueue_withdraw (b : Nat) (drift : List Nat) (s : State) :
    (withdraw b drift s).memQueue = s.memQueue := by simp [withdraw]

@[simp] theorem memQueue_resenseEnd (reads : List Sys2Proof.FuseRead) (s : State) : (resenseEnd reads s).memQueue = s.memQueue := by
  unfold resenseEnd
  dsimp only
  repeat' split
  all_goals simp

@[simp] theorem memQueue_shadowCheck (s : State) : (shadowCheck s).memQueue = s.memQueue := by simp [shadowCheck]
@[simp] theorem memQueue_activateRow (s : State) (x : Nat × Nat × Nat) : (activateRow s x).memQueue = s.memQueue := by simp [activateRow]

@[simp] theorem memQueue_burnEnd (u : Burn) (s : State) : (burnEnd u s).memQueue = s.memQueue := by
  unfold burnEnd
  dsimp only
  repeat' split
  all_goals simp

@[simp] theorem memQueue_burnComplete (ok : Bool) (s : State) : (burnComplete ok s).memQueue = s.memQueue := by
  unfold burnComplete
  split
  · simp
  · split <;> simp

/-! ### Power -/

@[simp] theorem memQueue_quadDown (p : Nat) (s : State) : (quadDown p s).memQueue = s.memQueue := by simp [quadDown]
@[simp] theorem memQueue_portDown (p : Nat) (s : State) : (portDown p s).memQueue = s.memQueue := by simp [portDown]
@[simp] theorem memQueue_portUp (p : Nat) (s : State) : (portUp p s).memQueue = s.memQueue := by simp [portUp]
@[simp] theorem memQueue_cluDown (k : Nat) (s : State) : (cluDown k s).memQueue = s.memQueue := by simp [cluDown]
@[simp] theorem memQueue_cluUp (k : Nat) (s : State) :
    (cluUp k s).memQueue = s.memQueue := memQueue_foldl (fun s j => by dsimp only; split <;> simp) _ _
@[simp] theorem memQueue_xlateDown (s : State) :
    (xlateDown s).memQueue = s.memQueue := (memQueue_foldl (fun s d => by split <;> simp) _ _).trans (rfl)
@[simp] theorem memQueue_domDown (n : Nat) (s : State) : (domDown n s).memQueue = s.memQueue := by simp [domDown]
@[simp] theorem memQueue_domUp (n : Nat) (s : State) : (domUp n s).memQueue = s.memQueue := by simp [domUp]

@[simp] theorem memQueue_powerGood (n : Nat) (s : State) : (powerGood n s).memQueue = s.memQueue := by
  unfold powerGood
  split <;> simp

@[simp] theorem memQueue_powerBad (n : Nat) (s : State) : (powerBad n s).memQueue = s.memQueue := by
  unfold powerBad
  split <;> simp

@[simp] theorem memQueue_domsDown (a b : Nat) (s : State) : (domsDown a b s).memQueue = s.memQueue := by simp [domsDown]
@[simp] theorem memQueue_lightshipDark (s : State) : (lightshipDark s).memQueue = s.memQueue := by simp [lightshipDark]
@[simp] theorem memQueue_lightshipLeave (s : State) : (lightshipLeave s).memQueue = s.memQueue := by simp [lightshipLeave]
@[simp] theorem memQueue_startUp (s : State) : (startUp s).memQueue = s.memQueue := by simp [startUp]
@[simp] theorem memQueue_nextStage (k : Nat) (g : Stage4) (s : State) : (nextStage k g s).memQueue = s.memQueue := by simp [nextStage]
@[simp] theorem memQueue_stageDone (k : Nat) (g : Stage4) (f : State → State) (s : State) (hf : ∀ t, (f t).memQueue = t.memQueue) :
    (stageDone k g f s).memQueue = s.memQueue := by simp [stageDone, hf]
@[simp] theorem memQueue_stageClock (k : Nat) (s : State) : (stageClock k s).memQueue = s.memQueue := by simp [stageClock]

@[simp] theorem memQueue_loadRepair (s : State) (r : Rep) : (loadRepair s r).memQueue = s.memQueue := by
  unfold loadRepair
  split <;> simp

@[simp] theorem memQueue_loadRepairs (k : Nat) (s : State) : (loadRepairs k s).memQueue = s.memQueue := by simp [loadRepairs]
@[simp] theorem memQueue_stageRepair (k : Nat) (s : State) : (stageRepair k s).memQueue = s.memQueue := by simp [stageRepair]
@[simp] theorem memQueue_stageTsvs (k : Nat) (failing : List (Nat × Nat × BitVec 16)) (s : State) :
    (stageTsvs k failing s).memQueue = s.memQueue := by simp [stageTsvs]
@[simp] theorem memQueue_invalidAct (k : Nat) (s : State) : (invalidAct k s).memQueue = s.memQueue := by simp [invalidAct]
@[simp] theorem memQueue_stageDies (k : Nat) (s : State) : (stageDies k s).memQueue = s.memQueue := by simp [stageDies]

@[simp] theorem memQueue_stageFail (k : Nat) (s : State) : (stageFail k s).memQueue = s.memQueue := by
  unfold stageFail
  dsimp only
  split
  · simp
  · split <;> simp

/-! ### Test -/

@[simp] theorem memQueue_modWch (s : State) (f : Wch → Wch) : (s.modWch f).memQueue = s.memQueue := by simp [State.modWch]
@[simp] theorem memQueue_skipGroup (g : Nat) (s : State) : (skipGroup g s).memQueue = s.memQueue := by simp [skipGroup]
@[simp] theorem memQueue_sliceFails (before : Option TsvTest) (g : Nat) (l : List (Nat × Option Nat)) (failing : List Nat) (s : State) :
    (sliceFails before g l failing s).memQueue = s.memQueue := by simp [sliceFails]

@[simp] theorem memQueue_pointerSlice (failing : List Nat) (s : State) : (pointerSlice failing s).memQueue = s.memQueue := by
  unfold pointerSlice
  dsimp only
  repeat' split
  all_goals simp

@[simp] theorem memQueue_testSlice (failing : List Nat) (s : State) : (testSlice failing s).memQueue = s.memQueue := by
  unfold testSlice
  dsimp only
  repeat' split
  all_goals simp

@[simp] theorem memQueue_tsvSlices (failing : List Nat) (s : State) : (tsvSlices failing s).memQueue = s.memQueue := by simp [tsvSlices]

@[simp] theorem memQueue_confirmTest (fails : Option (BitVec 16)) (s : State) : (confirmTest fails s).memQueue = s.memQueue := by
  unfold confirmTest
  split
  · simp
  · split <;> simp

@[simp] theorem memQueue_wchEnd (s : State) : (wchEnd s).memQueue = s.memQueue := by simp [wchEnd]
@[simp] theorem memQueue_lanePassEnd (s : State) : (lanePassEnd s).memQueue = s.memQueue := by simp [lanePassEnd]
@[simp] theorem memQueue_testDomain (s : State) : (testDomain s).memQueue = s.memQueue := by simp [testDomain]
@[simp] theorem memQueue_tapLoad (code : BitVec 8) (s : State) : (tapLoad code s).memQueue = s.memQueue := by simp [tapLoad]
@[simp] theorem memQueue_tapIntrude (code : BitVec 8) (s : State) : (tapIntrude code s).memQueue = s.memQueue := by simp [tapIntrude]

/-! ### Renjan -/

@[simp] theorem memQueue_done_ (s : State) (d : List Word32) : (done_ s d).1.memQueue = s.memQueue := by simp [done_]
@[simp] theorem memQueue_refuse (s : State) (st : Nat) (d : List Word32) : (refuse s st d).1.memQueue = s.memQueue := by simp [refuse]

@[simp] theorem memQueue_waitFor (m : Option Nat) (w : Wait) (s : State) : (waitFor m w s).1.memQueue = s.memQueue := by
  unfold waitFor
  split <;> simp

@[simp] theorem memQueue_rIdentGet (s : State) : (rIdentGet s).1.memQueue = s.memQueue := by simp [rIdentGet]

@[simp] theorem memQueue_rStackIdSet (x : Mbx) (s : State) : (rStackIdSet x s).1.memQueue = s.memQueue := by
  unfold rStackIdSet
  split <;> simp

@[simp] theorem memQueue_wantDom (s : State) (n : Nat) : (wantDom s n).memQueue = s.memQueue := by simp [wantDom]

@[simp] theorem memQueue_rPortPower (m : Option Nat) (later : List (Nat × Nat)) (x : Mbx) (s : State) :
    (rPortPower m later x s).1.memQueue = s.memQueue := by
  unfold rPortPower
  dsimp only
  repeat' split
  all_goals simp

@[simp] theorem memQueue_rPortFence (later : List (Nat × Nat)) (x : Mbx) (s : State) :
    (rPortFence later x s).1.memQueue = s.memQueue := by simp [rPortFence]
@[simp] theorem memQueue_unfence (f : Frames → Frames) (p : Nat) (s : State) : (unfence f p s).memQueue = s.memQueue := by simp [unfence]

@[simp] theorem memQueue_rPortUnfence (later : List (Nat × Nat)) (x : Mbx) (s : State) :
    (rPortUnfence later x s).1.memQueue = s.memQueue := by
  unfold rPortUnfence
  dsimp only
  split <;> simp

@[simp] theorem memQueue_rRelaySet (x : Mbx) (s : State) : (rRelaySet x s).1.memQueue = s.memQueue := by
  unfold rRelaySet
  dsimp only
  split <;> simp

@[simp] theorem memQueue_rZombieRelease (x : Mbx) (s : State) : (rZombieRelease x s).1.memQueue = s.memQueue := by simp [rZombieRelease]

@[simp] theorem memQueue_rClusterStep (m : Option Nat) (x : Mbx) (s : State) : (rClusterStep m x s).1.memQueue = s.memQueue := by
  unfold rClusterStep
  dsimp only
  split <;> simp

@[simp] theorem memQueue_rClusterPower (m : Option Nat) (later : List (Nat × Nat)) (x : Mbx) (s : State) :
    (rClusterPower m later x s).1.memQueue = s.memQueue := by
  unfold rClusterPower
  dsimp only
  repeat' split
  all_goals simp

@[simp] theorem memQueue_rSectAdmit (x : Mbx) (s : State) : (rSectAdmit x s).1.memQueue = s.memQueue := by
  unfold rSectAdmit
  dsimp only
  repeat' split
  all_goals simp

@[simp] theorem memQueue_rSectQuery (s : State) : (rSectQuery s).1.memQueue = s.memQueue := by simp [rSectQuery]
@[simp] theorem memQueue_dropResident (n : Nat) (s : State) : (dropResident n s).memQueue = s.memQueue := by simp [dropResident]

@[simp] theorem memQueue_rStreamQuery (x : Mbx) (s : State) : (rStreamQuery x s).1.memQueue = s.memQueue := by
  unfold rStreamQuery
  dsimp only
  split <;> simp

@[simp] theorem memQueue_invalidate (m : Option Nat) (asid : Option Nat) (lo hi : Nat) (s : State) :
    (invalidate m asid lo hi s).1.memQueue = s.memQueue := by simp [invalidate]

@[simp] theorem memQueue_rXlateInval (m : Option Nat) (x : Mbx) (s : State) : (rXlateInval m x s).1.memQueue = s.memQueue := by
  unfold rXlateInval
  dsimp only
  repeat' split
  all_goals simp

@[simp] theorem memQueue_rFwRegionSet (x : Mbx) (s : State) : (rFwRegionSet x s).1.memQueue = s.memQueue := by
  unfold rFwRegionSet
  dsimp only
  split
  · simp
  · split <;> simp

@[simp] theorem memQueue_rFwRegionClear (x : Mbx) (s : State) : (rFwRegionClear x s).1.memQueue = s.memQueue := by
  unfold rFwRegionClear
  dsimp only
  split <;> simp

@[simp] theorem memQueue_rMooringLoad (m : Option Nat) (x : Mbx) (s : State) : (rMooringLoad m x s).1.memQueue = s.memQueue := by
  unfold rMooringLoad
  dsimp only
  repeat' split
  all_goals simp

@[simp] theorem memQueue_rMooringFree (m : Option Nat) (x : Mbx) (s : State) : (rMooringFree m x s).1.memQueue = s.memQueue := by
  unfold rMooringFree
  dsimp only
  split
  · simp
  · split <;> simp

@[simp] theorem memQueue_rMooringRead (x : Mbx) (s : State) : (rMooringRead x s).1.memQueue = s.memQueue := by
  unfold rMooringRead
  dsimp only
  split <;> simp

@[simp] theorem memQueue_rIntegrityGet (x : Mbx) (s : State) : (rIntegrityGet x s).1.memQueue = s.memQueue := by
  unfold rIntegrityGet
  dsimp only
  split <;> simp

@[simp] theorem memQueue_rFuseRead (x : Mbx) (s : State) : (rFuseRead x s).1.memQueue = s.memQueue := by
  unfold rFuseRead
  dsimp only
  split <;> simp

@[simp] theorem memQueue_beginBurn (m : Option Nat) (k : BurnKind) (b : Nat) (todo : List (Nat × BitVec 64)) (word : Nat) (s : State) :
    (beginBurn m k b todo word s).1.memQueue = s.memQueue := by
  unfold beginBurn
  split <;> simp

@[simp] theorem memQueue_rFuseProgram (m : Option Nat) (x : Mbx) (s : State) : (rFuseProgram m x s).1.memQueue = s.memQueue := by
  unfold rFuseProgram
  dsimp only
  repeat' split
  all_goals simp

@[simp] theorem memQueue_rFuseSeal (m : Option Nat) (x : Mbx) (s : State) : (rFuseSeal m x s).1.memQueue = s.memQueue := by
  unfold rFuseSeal
  dsimp only
  repeat' split
  all_goals simp

@[simp] theorem memQueue_rFuseLock (m : Option Nat) (x : Mbx) (s : State) : (rFuseLock m x s).1.memQueue = s.memQueue := by
  unfold rFuseLock
  dsimp only
  repeat' split
  all_goals simp

@[simp] theorem memQueue_rFuseReburn (m : Option Nat) (x : Mbx) (s : State) : (rFuseReburn m x s).1.memQueue = s.memQueue := by
  unfold rFuseReburn
  dsimp only
  split
  · simp
  · split <;> simp

@[simp] theorem memQueue_rLifecycleAdvance (m : Option Nat) (x : Mbx) (s : State) : (rLifecycleAdvance m x s).1.memQueue = s.memQueue := by
  unfold rLifecycleAdvance
  dsimp only
  split
  · simp
  · split <;> simp

@[simp] theorem memQueue_rSensorRestore (x : Mbx) (s : State) : (rSensorRestore x s).1.memQueue = s.memQueue := by
  unfold rSensorRestore
  dsimp only
  split <;> simp

@[simp] theorem memQueue_rLanOverride (x : Mbx) (s : State) : (rLanOverride x s).1.memQueue = s.memQueue := by
  unfold rLanOverride
  dsimp only
  split
  · simp
  · split <;> simp

@[simp] theorem memQueue_rLanConfig (x : Mbx) (s : State) : (rLanConfig x s).1.memQueue = s.memQueue := by
  unfold rLanConfig
  dsimp only
  split <;> simp

@[simp] theorem memQueue_rLanRead (s : State) : (rLanRead s).1.memQueue = s.memQueue := by simp [rLanRead]
@[simp] theorem memQueue_rBistStatus (s : State) : (rBistStatus s).1.memQueue = s.memQueue := by simp [rBistStatus]

@[simp] theorem memQueue_rTsvTest (m : Option Nat) (x : Mbx) (s : State) : (rTsvTest m x s).1.memQueue = s.memQueue := by
  unfold rTsvTest
  dsimp only
  split <;> simp

@[simp] theorem memQueue_rWatchSelect (x : Mbx) (s : State) : (rWatchSelect x s).1.memQueue = s.memQueue := by
  unfold rWatchSelect
  dsimp only
  split <;> simp

@[simp] theorem memQueue_rLogRead (x : Mbx) (s : State) : (rLogRead x s).1.memQueue = s.memQueue := by
  unfold rLogRead
  dsimp only
  split <;> simp

@[simp] theorem memQueue_rKeeperReset (s : State) : (rKeeperReset s).1.memQueue = s.memQueue := by simp [rKeeperReset]

@[simp] theorem memQueue_rFaultInject (x : Mbx) (s : State) : (rFaultInject x s).1.memQueue = s.memQueue := by
  unfold rFaultInject
  dsimp only
  repeat' split
  all_goals simp

@[simp] theorem memQueue_rFoghornDrive (x : Mbx) (s : State) : (rFoghornDrive x s).1.memQueue = s.memQueue := by
  unfold rFoghornDrive
  split <;> simp

@[simp] theorem memQueue_rLightshipExit (s : State) : (rLightshipExit s).1.memQueue = s.memQueue := by
  unfold rLightshipExit
  dsimp only
  split <;> simp

@[simp] theorem memQueue_waitEffect (m : Nat) (w : Wait) (s : State) : (waitEffect m w s).memQueue = s.memQueue := by
  unfold waitEffect
  split <;> simp

@[simp] theorem memQueue_finishWaits (s : State) : (finishWaits s).memQueue = s.memQueue := by
  refine memQueue_foldl (fun s m => ?_) _ _
  dsimp only
  repeat' split
  all_goals simp

@[simp] theorem memQueue_answerStep (k : Nat) (s : State) : (answerStep k s).memQueue = s.memQueue := by
  refine memQueue_foldl (fun s m => ?_) _ _
  repeat' split
  all_goals simp

/-! ### Tick -/

@[simp] theorem memQueue_gateXbar (s : State) : (gateXbar s).memQueue = s.memQueue := by simp [gateXbar]
theorem memQueue_finishCmd (m : Nat) (d : Decision) : (finishCmd m d).memQueue = d.1.memQueue := by
  unfold finishCmd; split <;> simp
@[simp] theorem memQueue_idleCycle (s : State) : (idleCycle s).memQueue = s.memQueue := by simp [idleCycle]
@[simp] theorem memQueue_setRate (r : Nat) (s : State) : (setRate r s).memQueue = s.memQueue := by simp [setRate]
@[simp] theorem memQueue_ptmCorrect (o : Int) (s : State) : (ptmCorrect o s).memQueue = s.memQueue := by simp [ptmCorrect]

@[simp] theorem memQueue_ptmDialogue (offset : Option Int) (s : State) : (ptmDialogue offset s).memQueue = s.memQueue := by
  unfold ptmDialogue
  dsimp only
  split
  · simp
  · split <;> simp

@[simp] theorem memQueue_patternTick (s : State) : (patternTick s).memQueue = s.memQueue := by simp [patternTick]
@[simp] theorem memQueue_senseTick (s : State) : (senseTick s).memQueue = s.memQueue := by simp [senseTick]
@[simp] theorem memQueue_lateBoundary (s : State) : (lateBoundary s).memQueue = s.memQueue := by simp [lateBoundary]
@[simp] theorem memQueue_faultBoundary (s : State) : (faultBoundary s).memQueue = s.memQueue := by simp [faultBoundary]
@[simp] theorem memQueue_sqBoundary (s : State) : (sqBoundary s).memQueue = s.memQueue := by simp [sqBoundary]
@[simp] theorem memQueue_ptmRecord (done : Bool) (s : State) : (ptmRecord done s).memQueue = s.memQueue := by simp [ptmRecord]
@[simp] theorem memQueue_budgetBoundary (s : State) : (budgetBoundary s).memQueue = s.memQueue := by simp [budgetBoundary]
@[simp] theorem memQueue_pinBoundary (was : Bool) (s : State) : (pinBoundary was s).memQueue = s.memQueue := by simp [pinBoundary]
@[simp] theorem memQueue_portBoundary (s : State) : (portBoundary s).memQueue = s.memQueue := by simp [portBoundary]
@[simp] theorem memQueue_stepStart (k to_ : Nat) (s : State) : (stepStart k to_ s).memQueue = s.memQueue := by simp [stepStart]
@[simp] theorem memQueue_stepMaybe (k : Nat) (s : State) : (stepMaybe k s).memQueue = s.memQueue := by simp [stepMaybe]
@[simp] theorem memQueue_windowBegin (ch : Nat) (s : State) : (windowBegin ch s).memQueue = s.memQueue := by simp [windowBegin]

@[simp] theorem memQueue_keeperBoundary (s : State) : (keeperBoundary s).memQueue = s.memQueue := by
  unfold keeperBoundary
  dsimp only
  repeat' split
  all_goals simp

@[simp] theorem memQueue_powerBoundary (s : State) : (powerBoundary s).memQueue = s.memQueue := by simp [powerBoundary]
@[simp] theorem memQueue_lsAfter (s : State) : (lsAfter s).memQueue = s.memQueue := by simp [lsAfter]

/-! ### Step -/

@[simp] theorem memQueue_withFetchWord (s : State) (nbits w : Nat) : (State.withFetchWord s nbits w).memQueue = s.memQueue := (rfl)

end Sys2Proof.Machine
end

section
/-! SUPPORT. The operations that write cells keep the canonical form of memory, and no operation touches the queue of commands. -/

namespace Sys2Proof.Machine

/-- From `a` to `b` the two lists of cells have kept their canonical form, and the queue is the same. -/
def KeepsForm (a b : MemQueue) : Prop :=
  (cellsWf a.1 = true → cellsWf b.1 = true) ∧ (cellsWf a.2.1 = true → cellsWf b.2.1 = true) ∧ b.2.2 = a.2.2

theorem KeepsForm.inv {s t : State} (h : KeepsForm s.memQueue t.memQueue) (hi : Inv s) : Inv t := by
  obtain ⟨hmem, hchk, -⟩ := h
  simp only [Inv, Memory.wf, Bool.and_eq_true] at hi ⊢
  exact ⟨hmem hi.1, hchk hi.2⟩

theorem KeepsForm.pending {s t : State} (h : KeepsForm s.memQueue t.memQueue) : t.pending = s.pending := h.2.2

@[simp] theorem keepsForm_rfl (a : MemQueue) : KeepsForm a a := ⟨id, id, rfl⟩

@[simp] theorem keepsForm_ite {c : Prop} [Decidable c] (a b d : MemQueue) :
    KeepsForm a (if c then b else d) ↔ if c then KeepsForm a b else KeepsForm a d := by
  split <;> rfl

variable {a₀ : MemQueue}

@[simp] theorem keepsForm_foldl {α : Type} {f : State → α → State}
    (hf : ∀ s x, KeepsForm a₀ s.memQueue → KeepsForm a₀ (f s x).memQueue) (l : List α) {s : State} (hk : KeepsForm a₀ s.memQueue) :
    KeepsForm a₀ (l.foldl f s).memQueue := by
  induction l generalizing s with
  | nil => exact hk
  | cons x l ih => exact ih (hf s x hk)

@[simp] theorem keepsForm_foldl_fst {α β : Type} {f : State × β → α → State × β}
    (hf : ∀ u x, KeepsForm a₀ u.1.memQueue → KeepsForm a₀ (f u x).1.memQueue) (l : List α) {u : State × β}
    (hk : KeepsForm a₀ u.1.memQueue) : KeepsForm a₀ (l.foldl f u).1.memQueue := by
  induction l generalizing u with
  | nil => exact hk
  | cons x l ih => exact ih (hf u x hk)

@[simp] theorem keepsForm_putCells (p : Nat) (data chk : List (BitVec 8)) {s : State} (hk : KeepsForm a₀ s.memQueue) :
    KeepsForm a₀ (putCells p data chk s).memQueue := by
  obtain ⟨hmem, hchk, hq⟩ := hk
  exact ⟨fun w => cellsWf_cellsPut _ _ _ (hmem w), fun w => cellsWf_cellsPut _ _ _ (hchk w), hq⟩

/-! ### Memory -/

@[simp] theorem keepsForm_putGran (g : Nat) (v : Option (List (BitVec 8))) {s : State} (hk : KeepsForm a₀ s.memQueue) :
    KeepsForm a₀ (putGran g v s).memQueue := by simp +contextual [putGran, hk]

/-! ### Integrity -/

@[simp] theorem keepsForm_countUE (g : Nat) (inj : Bool) {s : State} (hk : KeepsForm a₀ s.memQueue) :
    KeepsForm a₀ (countUE g inj s).memQueue := by simp [countUE, hk]

@[simp] theorem keepsForm_decodeGran (g : Nat) (errs : List (Nat × BitVec 8)) (fill : Bool) {s : State} (hk : KeepsForm a₀ s.memQueue) :
    KeepsForm a₀ (decodeGran g errs fill s).1.memQueue := by
  unfold decodeGran
  dsimp only
  repeat' split
  all_goals simp [hk]

/-! ### Queue -/

@[simp] theorem keepsForm_ownWrite (g : Nat) (v : Option (List (BitVec 8))) {s : State} (hk : KeepsForm a₀ s.memQueue) :
    KeepsForm a₀ (ownWrite g v s).memQueue := by simp [ownWrite, hk]

@[simp] theorem keepsForm_mergeClose (ch : Nat) (m : MergeE) {s : State} (hk : KeepsForm a₀ s.memQueue) :
    KeepsForm a₀ (mergeClose ch m s).memQueue := by
  unfold mergeClose
  dsimp only
  split <;> simp [hk]

@[simp] theorem keepsForm_mergeEnd (ch : Nat) (m : MergeE) {s : State} (hk : KeepsForm a₀ s.memQueue) :
    KeepsForm a₀ (mergeEnd ch m s).memQueue := by simp [mergeEnd, hk]

@[simp] theorem keepsForm_mergeRoom (ch : Nat) {s : State} (hk : KeepsForm a₀ s.memQueue) : KeepsForm a₀ (mergeRoom ch s).memQueue := by
  unfold mergeRoom
  dsimp only
  split <;> simp [hk]

@[simp] theorem keepsForm_settleGran (fuel : Nat) (ch g : Nat) {s : State} (hk : KeepsForm a₀ s.memQueue) :
    KeepsForm a₀ (settleGran fuel ch g s).memQueue := by
  induction fuel generalizing s with
  | zero => exact hk
  | succ fuel ih =>
    unfold settleGran
    dsimp only
    repeat' split
    all_goals simp [hk, ih]

@[simp] theorem keepsForm_settleRoom (fuel : Nat) (ch : Nat) {s : State} (hk : KeepsForm a₀ s.memQueue) :
    KeepsForm a₀ (settleRoom fuel ch s).memQueue := by
  induction fuel generalizing s with
  | zero => exact hk
  | succ fuel ih =>
    unfold settleRoom
    split
    · exact hk
    · dsimp only
      split <;> simp [hk, ih]

@[simp] theorem keepsForm_settleOn (ch g : Nat) {s : State} (hk : KeepsForm a₀ s.memQueue) :
    KeepsForm a₀ (settleOn ch g s).memQueue := by simp [settleOn, hk]
@[simp] theorem keepsForm_settleChunk (ch chunk : Nat) {s : State} (hk : KeepsForm a₀ s.memQueue) :
    KeepsForm a₀ (settleChunk ch chunk s).memQueue := by simp [settleChunk, hk]
@[simp] theorem keepsForm_settleAll (ch : Nat) {s : State} (hk : KeepsForm a₀ s.memQueue) :
    KeepsForm a₀ (settleAll ch s).memQueue := by simp +contextual [settleAll, hk]
@[simp] theorem keepsForm_enqueue (ch : Nat) (e : Entry) {s : State} (hk : KeepsForm a₀ s.memQueue) :
    KeepsForm a₀ (enqueue ch e s).memQueue := by simp [enqueue, hk]

@[simp] theorem keepsForm_admitLink (fuel : Nat) (ch : Nat) {s : State} (hk : KeepsForm a₀ s.memQueue) :
    KeepsForm a₀ (admitLink fuel ch s).memQueue := by
  induction fuel generalizing s with
  | zero => exact hk
  | succ fuel ih =>
    unfold admitLink
    split
    · exact hk
    · exact ih (keepsForm_enqueue _ _ (by simpa using hk))

@[simp] theorem keepsForm_leaveLoop (fuel : Nat) (ch : Nat) {s : State} (hk : KeepsForm a₀ s.memQueue) :
    KeepsForm a₀ (leaveLoop fuel ch s).memQueue := by
  induction fuel generalizing s with
  | zero => exact hk
  | succ fuel ih =>
    unfold leaveLoop
    dsimp only
    split
    · exact ih (keepsForm_admitLink _ _ (by simpa using hk))
    · simpa using hk

@[simp] theorem keepsForm_leaveQueue (ch : Nat) {s : State} (hk : KeepsForm a₀ s.memQueue) :
    KeepsForm a₀ (leaveQueue ch s).memQueue := by simp [leaveQueue, hk]
@[simp] theorem keepsForm_arrive (ch : Nat) (e : Entry) {s : State} (hk : KeepsForm a₀ s.memQueue) :
    KeepsForm a₀ (arrive ch e s).memQueue := by simp [arrive, hk]
@[simp] theorem keepsForm_endRequests (ch : Nat) (how : Fin_) (keep : Entry → Bool) {s : State} (hk : KeepsForm a₀ s.memQueue) :
    KeepsForm a₀ (endRequests ch how keep s).memQueue := by simp [endRequests, hk]

@[simp] theorem keepsForm_closeDue (ch : Nat) {s : State} (hk : KeepsForm a₀ s.memQueue) : KeepsForm a₀ (closeDue ch s).memQueue := by
  unfold closeDue
  dsimp only
  split
  · exact hk
  · exact keepsForm_leaveQueue _ (keepsForm_foldl (fun t m ht => keepsForm_settleOn _ _ (keepsForm_mergeClose _ _ ht)) _ hk)

@[simp] theorem keepsForm_fillReturn (ch g : Nat) (errs : List (Nat × BitVec 8)) {s : State} (hk : KeepsForm a₀ s.memQueue) :
    KeepsForm a₀ (fillReturn ch g errs s).memQueue := by
  unfold fillReturn
  split
  · exact hk
  · split
    · exact hk
    · extract_lets r s1 fill s2 waits s3
      have h2 : KeepsForm a₀ s2.memQueue := by simp [s2, s1, r, hk]
      have h3 : KeepsForm a₀ s3.memQueue := by
        unfold s3
        split
        · exact keepsForm_foldl (fun t e ht => by split <;> simp [ht]) _ h2
        · exact h2
      exact keepsForm_leaveQueue _ (keepsForm_closeDue _ (keepsForm_settleOn _ _ h3))

@[simp] theorem keepsForm_mergeFlush (ch : Nat) {s : State} (hk : KeepsForm a₀ s.memQueue) :
    KeepsForm a₀ (mergeFlush ch s).memQueue := by simp +contextual [mergeFlush, hk]

/-! ### Dram -/

@[simp] theorem keepsForm_scrubGran (again : Bool) (g : Nat) (errs : List (Nat × BitVec 8)) {s : State} (hk : KeepsForm a₀ s.memQueue) :
    KeepsForm a₀ (scrubGran again g errs s).memQueue := by
  unfold scrubGran
  dsimp only
  split <;> simp [hk]

@[simp] theorem keepsForm_copyGran (g dst : Nat) (errs : List (Nat × BitVec 8)) {s : State} (hk : KeepsForm a₀ s.memQueue) :
    KeepsForm a₀ (copyGran g dst errs s).memQueue := by
  unfold copyGran
  dsimp only
  split <;> simp [hk]

@[simp] theorem keepsForm_moveGran (ch g n : Nat) (errs : List (Nat × BitVec 8)) {s : State} (hk : KeepsForm a₀ s.memQueue) :
    KeepsForm a₀ (moveGran ch g n errs s).memQueue := by
  unfold moveGran
  dsimp only
  split <;> simp [hk]

@[simp] theorem keepsForm_scrubLand (ch : Nat) (j : ScrubJob) (errs : List SymErr) {s : State} (hk : KeepsForm a₀ s.memQueue) :
    KeepsForm a₀ (scrubLand ch j errs s).memQueue := by
  unfold scrubLand
  cases j with
  | rewrite g d =>
    dsimp only
    split
    · rw [memQueue_modInteg]; exact keepsForm_putGran _ _ hk
    · exact hk
  | visit g => exact keepsForm_scrubGran _ _ _ hk
  | reread g => exact keepsForm_scrubGran _ _ _ hk
  | move g n => exact keepsForm_moveGran _ _ _ _ hk
  | pointer p => exact keepsForm_foldl (fun t i ht => by split <;> simp [ht]) _ hk

theorem keepsForm_drainTo (pa : Nat) (v : Word64) {s t : State} {n : Nat}
    (hk : KeepsForm a₀ s.memQueue) (hd : drainTo pa v s = some (t, n)) :
    KeepsForm a₀ t.memQueue := by
  unfold drainTo at hd
  extract_lets ch g b s1 r at hd
  have h1 : KeepsForm a₀ s1.memQueue := by
    unfold s1
    split
    · split <;> simp [hk]
    · exact hk
  have hr : KeepsForm a₀ r.1.memQueue := keepsForm_decodeGran _ _ _ (by simpa using h1)
  split at hd
  · cases hd; exact hk
  · split at hd
    · cases hd
    · split at hd
      · split at hd
        · obtain ⟨rfl, -⟩ := Prod.mk.inj (Option.some.inj hd)
          dsimp only
          split <;> simp [h1]
        · obtain ⟨rfl, -⟩ := Prod.mk.inj (Option.some.inj hd)
          exact h1
        · cases hd
      · split at hd
        · obtain ⟨rfl, -⟩ := Prod.mk.inj (Option.some.inj hd)
          exact keepsForm_ownWrite _ _ hr
        · obtain ⟨rfl, -⟩ := Prod.mk.inj (Option.some.inj hd)
          exact hr

@[simp] theorem keepsForm_takeData (ch : Nat) (r : State × GranRes) (g : Nat) (e : Entry) {s : State}
    (hk : KeepsForm a₀ s.memQueue) (hr : KeepsForm a₀ r.1.memQueue) : KeepsForm a₀ (takeData ch r g e s).memQueue := by
  unfold takeData
  dsimp only
  split
  · split
    · rw [memQueue_modSched]; exact hr
    · split
      · exact hk
      · rw [memQueue_modSched]; exact keepsForm_drainTo _ _ hr ‹_›
      · rw [memQueue_modSched]; exact keepsForm_drainTo _ _ hr ‹_›
  · rw [memQueue_modSched]; exact hr

@[simp] theorem keepsForm_serveGran (ch chunk g : Nat) (errs : List (Nat × BitVec 8)) {s : State} (hk : KeepsForm a₀ s.memQueue) :
    KeepsForm a₀ (serveGran ch chunk g errs s).memQueue := by
  unfold serveGran
  split
  · exact hk
  · split
    · exact hk
    · split
      · exact hk
      · exact keepsForm_takeData _ _ _ _ hk (keepsForm_decodeGran _ _ _ hk)

@[simp] theorem keepsForm_writePart (ch : Nat) (e : Entry) (g : Nat) {s : State} (hk : KeepsForm a₀ s.memQueue) :
    KeepsForm a₀ (writePart ch e g s).1.memQueue := by
  unfold writePart
  split <;> simp [hk]

@[simp] theorem keepsForm_landOne (ch : Nat) {s : State} (f : Flight) (hk : KeepsForm a₀ s.memQueue) :
    KeepsForm a₀ (landOne ch s f).memQueue := by
  unfold landOne
  extract_lets s1
  have h1 : KeepsForm a₀ s1.memQueue := by simp [s1, hk]
  split
  · exact h1
  · split
    · exact keepsForm_scrubLand _ _ _ h1
    · split
      · refine keepsForm_foldl (fun t i ht => ?_) _ h1
        split
        · exact keepsForm_leaveQueue _ (keepsForm_settleOn _ _ (keepsForm_serveGran _ _ _ _ ht))
        · exact ht
      · split
        · exact h1
        · refine keepsForm_leaveQueue _ (keepsForm_settleChunk _ _ ?_)
          rw [memQueue_modSched]
          exact keepsForm_foldl_fst (fun u g hu => keepsForm_writePart _ _ _ hu) _ h1

@[simp] theorem keepsForm_land (ch : Nat) {s : State} (hk : KeepsForm a₀ s.memQueue) :
    KeepsForm a₀ (land ch s).memQueue := by simp +contextual [land, hk]
@[simp] theorem keepsForm_landAll (ch : Nat) {s : State} (hk : KeepsForm a₀ s.memQueue) :
    KeepsForm a₀ (landAll ch s).memQueue := by simp [landAll, hk]

@[simp] theorem keepsForm_schedClock (ch : Nat) {s : State} (hk : KeepsForm a₀ s.memQueue) : KeepsForm a₀ (schedClock ch s).memQueue := by
  unfold schedClock
  extract_lets u s1 s2 s3 q i cs isCol go s4 next
  have h1 : KeepsForm a₀ s1.memQueue := by simp [s1, hk]
  have h3 : KeepsForm a₀ s3.memQueue := by simp [s3, s2, h1]
  have hgo : ∀ (p : Option Pick) (t : State), (go p t).memQueue = t.memQueue := fun p t => by
    unfold go; split <;> simp
  rw [memQueue_overrunCheck, hgo, hgo]
  exact h3

@[simp] theorem keepsForm_recover (fuel : Nat) (ch : Nat) {s : State} (hk : KeepsForm a₀ s.memQueue) :
    KeepsForm a₀ (recover ch fuel s).memQueue := by
  induction fuel generalizing s with
  | zero => exact hk
  | succ fuel ih =>
    unfold recover
    dsimp only
    repeat' split
    all_goals simp [hk, ih]

@[simp] theorem keepsForm_maintNow (ch : Nat) (p : Pick) {s : State} (hk : KeepsForm a₀ s.memQueue) :
    KeepsForm a₀ (maintNow ch p s).memQueue := by
  unfold maintNow
  split <;> simp [hk]

@[simp] theorem keepsForm_maintRest (fuel : Nat) (ch : Nat) {s : State} (hk : KeepsForm a₀ s.memQueue) :
    KeepsForm a₀ (maintRest ch fuel s).memQueue := by
  induction fuel generalizing s with
  | zero => exact hk
  | succ fuel ih =>
    unfold maintRest
    dsimp only
    have hr : KeepsForm a₀ (overrunCheck ch (recover ch 80 s)).memQueue := by simp [hk]
    split
    · exact ih (keepsForm_maintNow _ _ hr)
    · exact keepsForm_landAll _ hr

@[simp] theorem keepsForm_columnNow (ch g : Nat) (rd : Bool) {s : State} (hk : KeepsForm a₀ s.memQueue) :
    KeepsForm a₀ (columnNow ch g rd s).memQueue := by
  unfold columnNow
  dsimp only
  split <;> simp [hk]

@[simp] theorem keepsForm_drainGran (fuel : Nat) (ch g : Nat) {s : State} (hk : KeepsForm a₀ s.memQueue) :
    KeepsForm a₀ (drainGran fuel ch g s).memQueue := by
  induction fuel generalizing s with
  | zero => exact hk
  | succ fuel ih =>
    unfold drainGran
    split
    · exact hk
    · split
      · exact hk
      · refine ih ?_
        repeat' split
        all_goals simp [hk]

@[simp] theorem keepsForm_drainOn (ch g : Nat) {s : State} (hk : KeepsForm a₀ s.memQueue) :
    KeepsForm a₀ (drainOn ch g s).memQueue := keepsForm_drainGran _ _ _ (keepsForm_recover _ _ (keepsForm_landAll _ hk))

/-! ### Repair -/

@[simp] theorem keepsForm_retire (ch : Nat) (slices : BitVec 16) (chan : Bool) {s : State} (hk : KeepsForm a₀ s.memQueue) :
    KeepsForm a₀ (retire ch slices chan s).memQueue := by
  unfold retire
  dsimp only
  split
  · simp [hk]
  · split <;> simp [hk]

@[simp] theorem keepsForm_applyPend (ch : Nat) {s : State} (hk : KeepsForm a₀ s.memQueue) :
    KeepsForm a₀ (applyPend ch s).memQueue := by simp [applyPend, hk]

/-! ### Collect -/

@[simp] theorem keepsForm_stopChannel (doubled : Bool) (ch : Nat) {s : State} (hk : KeepsForm a₀ s.memQueue) :
    KeepsForm a₀ (stopChannel doubled ch s).memQueue := by
  unfold stopChannel
  rw [memQueue_chanHalt]
  exact keepsForm_endRequests _ _ _ (keepsForm_mergeFlush _ (keepsForm_recover _ _ hk))

@[simp] theorem keepsForm_lsControllers {s : State} (hk : KeepsForm a₀ s.memQueue) :
    KeepsForm a₀ (lsControllers s).memQueue := by simp +contextual [lsControllers, hk]
@[simp] theorem keepsForm_collectPass {s : State} (hk : KeepsForm a₀ s.memQueue) :
    KeepsForm a₀ (collectPass s).memQueue := by simp [collectPass, hk]

@[simp] theorem keepsForm_collect {s : State} (hk : KeepsForm a₀ s.memQueue) : KeepsForm a₀ (collect s).memQueue := by
  unfold collect
  split
  · exact hk
  · exact keepsForm_collectPass (keepsForm_collectPass (keepsForm_collectPass hk))

/-! ### Request -/

@[simp] theorem keepsForm_settle (s0 : State) {s : State} (hk : KeepsForm a₀ s.memQueue) : KeepsForm a₀ (settle s0 s).memQueue := by
  unfold settle
  dsimp only
  rw [memQueue_readyRecords]
  split <;> simp [hk]

@[simp] theorem keepsForm_rxRequest (p : Nat) (h : Hdr) (o : BitVec 8) (r : ReqF) {s : State} (hk : KeepsForm a₀ s.memQueue) :
    KeepsForm a₀ (rxRequest p h o r s).memQueue := by
  unfold rxRequest
  refine keepsForm_settle _ ?_
  rwa [memQueue_rxSeq]
  exact fun t => memQueue_recvRequest _ _ _ _

/-! ### Lanes -/

@[simp] theorem keepsForm_rxLane (p : Nat) (h : Hdr) (lane : BitVec 7) (act : State → State) {s : State}
    (hk : KeepsForm a₀ s.memQueue) (ha : ∀ t, (act t).memQueue = t.memQueue) : KeepsForm a₀ (rxLane p h lane act s).memQueue := by
  unfold rxLane
  refine keepsForm_settle _ ?_
  rwa [memQueue_rxSeq]
  intro t
  split
  · rfl
  · exact ha t

/-! ### Context -/

@[simp] theorem keepsForm_ownAccess {α : Type} (o : Own) (g : Nat) (f : State → State × α) {s : State}
    (hk : KeepsForm a₀ s.memQueue) (hf : ∀ t, KeepsForm a₀ t.memQueue → KeepsForm a₀ (f t).1.memQueue) :
        KeepsForm a₀ (ownAccess o g f s).1.memQueue := by
  unfold ownAccess
  extract_lets ch s1 c r s2
  have h1 : KeepsForm a₀ s1.memQueue := by unfold s1; split <;> simp [hk]
  have h2 : KeepsForm a₀ s2.memQueue := by
    rw [memQueue_releasePlace]
    exact hf _ (keepsForm_drainOn _ _ (by simpa using h1))
  split <;> simp [h2]

@[simp] theorem keepsForm_takeGran (rdc : Bool) (g : Nat) {s : State} (hk : KeepsForm a₀ s.memQueue) :
    KeepsForm a₀ (takeGran rdc g s).1.memQueue := by
  unfold takeGran
  dsimp only
  repeat' split
  all_goals simp [hk]

@[simp] theorem keepsForm_peekGran (o : Own) (g : Nat) {s : State} (hk : KeepsForm a₀ s.memQueue) :
    KeepsForm a₀ (peekGran o g s).1.memQueue := by
  unfold peekGran
  split
  · exact hk
  · exact keepsForm_ownAccess _ _ _ hk (fun t ht => keepsForm_takeGran _ _ ht)

@[simp] theorem keepsForm_peekChunk (g : Nat) {s : State} (hk : KeepsForm a₀ s.memQueue) : KeepsForm a₀ (peekChunk g s).1.memQueue := by
  unfold peekChunk
  split
  · exact hk
  · refine keepsForm_ownAccess _ _ _ hk (fun t ht => ?_)
    dsimp only
    exact keepsForm_takeGran _ _ (keepsForm_takeGran _ _ (keepsForm_drainOn _ _ ht))

@[simp] theorem keepsForm_layGran (wrc : Bool) (g : Nat) (v : Option (List (BitVec 8))) {s : State} (hk : KeepsForm a₀ s.memQueue) :
    KeepsForm a₀ (layGran wrc g v s).memQueue := by simp [layGran, hk]
@[simp] theorem keepsForm_pokeGran (o : Own) (g : Nat) (v : Option (List (BitVec 8))) {s : State} (hk : KeepsForm a₀ s.memQueue) :
    KeepsForm a₀ (pokeGran o g v s).memQueue := by simp +contextual [pokeGran, hk]

@[simp] theorem keepsForm_pokeChunk (g : Nat) (lo hi : List (BitVec 8)) {s : State} (hk : KeepsForm a₀ s.memQueue) :
    KeepsForm a₀ (pokeChunk g lo hi s).memQueue := by
  unfold pokeChunk
  split
  · exact hk
  · refine keepsForm_ownAccess _ _ _ hk (fun t ht => ?_)
    dsimp only
    exact keepsForm_layGran _ _ _ (keepsForm_layGran _ _ _ (keepsForm_drainOn _ _ ht))

@[simp] theorem keepsForm_storeCtx (n : Nat) (c : Ctx) {s : State} (hk : KeepsForm a₀ s.memQueue) :
    KeepsForm a₀ (storeCtx n c s).memQueue := by simp [storeCtx, hk]

@[simp] theorem keepsForm_putCtx (n : Nat) (c : Ctx) {s : State} (hk : KeepsForm a₀ s.memQueue) : KeepsForm a₀ (putCtx n c s).memQueue := by
  unfold putCtx
  split <;> simp [hk]

/-! ### Xlate -/

@[simp] theorem keepsForm_walkRead (o : Own) {s : State} (a : Nat) (hk : KeepsForm a₀ s.memQueue) :
    KeepsForm a₀ (walkRead o s a).1.memQueue := by
  unfold walkRead
  dsimp only
  repeat' split
  all_goals simp [hk]

@[simp] theorem keepsForm_walkFrom (o : Own) (asid va level base : Nat) {s : State} (hk : KeepsForm a₀ s.memQueue) :
    KeepsForm a₀ (walkFrom o asid va level base s).1.memQueue := by
  induction level generalizing s base with
  | zero => exact hk
  | succ level ih =>
    unfold walkFrom
    dsimp only
    repeat' split
    all_goals simp [hk, ih]

@[simp] theorem keepsForm_doWalk (o : Own) (asid va : Nat) {s : State} (hk : KeepsForm a₀ s.memQueue) :
    KeepsForm a₀ (doWalk o asid va s).1.memQueue := by
  unfold doWalk
  dsimp only
  repeat' split
  all_goals simp [hk]

/-! ### Stream -/

@[simp] theorem keepsForm_abortStream (n : Nat) (mgr : Bool) {s : State} (hk : KeepsForm a₀ s.memQueue) :
    KeepsForm a₀ (abortStream n mgr s).memQueue := by
  unfold abortStream
  split <;> simp [hk]

@[simp] theorem keepsForm_applyCmd (cmd n : Nat) (mgr : Bool) {s : State} (hk : KeepsForm a₀ s.memQueue) :
    KeepsForm a₀ (applyCmd cmd n mgr s).1.memQueue := by
  unfold applyCmd
  dsimp only
  repeat' split
  all_goals simp [hk]

@[simp] theorem keepsForm_decideDb (n : Nat) {s : State} (hk : KeepsForm a₀ s.memQueue) : KeepsForm a₀ (decideDb n s).memQueue := by
  unfold decideDb
  split <;> simp [hk]

@[simp] theorem keepsForm_decideAll (fuel : Nat) (n : Nat) {s : State} (hk : KeepsForm a₀ s.memQueue) :
    KeepsForm a₀ (decideAll n fuel s).memQueue := by
  induction fuel generalizing s with
  | zero => exact hk
  | succ fuel ih =>
    unfold decideAll
    split
    · exact ih (keepsForm_decideDb _ hk)
    · exact hk

@[simp] theorem keepsForm_arriveDb (d : Db) {s : State} (hk : KeepsForm a₀ s.memQueue) :
    KeepsForm a₀ (arriveDb d s).memQueue := by simp [arriveDb, hk]
@[simp] theorem keepsForm_ctxPoisoned (n : Nat) (hi : GranRes) {s : State} (hk : KeepsForm a₀ s.memQueue) :
    KeepsForm a₀ (ctxPoisoned n hi s).memQueue := by simp [ctxPoisoned, hk]

@[simp] theorem keepsForm_doorbellContextRead (n : Nat) {s : State} (hk : KeepsForm a₀ s.memQueue) :
    KeepsForm a₀ (doorbellContextRead n s).memQueue := by
  unfold doorbellContextRead
  split
  · exact hk
  · split
    · exact keepsForm_decideDb _ hk
    · split
      · exact hk
      · extract_lets r
        have hr : KeepsForm a₀ r.1.memQueue := keepsForm_peekChunk _ hk
        split
        · exact keepsForm_decideDb _ hr
        · exact keepsForm_decideDb _ (keepsForm_ctxPoisoned _ _ hr)

@[simp] theorem keepsForm_descFail (n cause : Nat) (detail : BitVec 64) {s : State} (hk : KeepsForm a₀ s.memQueue) :
    KeepsForm a₀ (descFail n cause detail s).memQueue := by simp [descFail, hk]

@[simp] theorem keepsForm_descriptorRead (n : Nat) {s : State} (hk : KeepsForm a₀ s.memQueue) :
    KeepsForm a₀ (descriptorRead n s).memQueue := by
  unfold descriptorRead
  split
  · exact hk
  · extract_lets c o fin w
    have hfin : ∀ {t : State}, KeepsForm a₀ t.memQueue → KeepsForm a₀ (fin t).memQueue := fun ht => by simp [fin, ht]
    have hw : KeepsForm a₀ w.1.memQueue := by
      unfold w
      split
      · exact hk
      · exact keepsForm_doWalk _ _ _ hk
    split
    · exact hfin hk
    · split
      · exact hk
      · exact hfin (keepsForm_descFail _ _ _ hw)
      · split
        · split
          · exact hw
          · split
            · exact hfin (keepsForm_descFail _ _ _ hw)
            · split
              · exact hw
              · extract_lets r
                have hr : KeepsForm a₀ r.1.memQueue := keepsForm_peekGran _ _ hw
                split
                · exact hfin (by simp [hr])
                · exact hfin (keepsForm_descFail _ _ _ hr)
        · exact hfin (keepsForm_descFail _ _ _ hw)
        · exact hw

@[simp] theorem keepsForm_startStream (t n : Nat) {s : State} (hk : KeepsForm a₀ s.memQueue) :
    KeepsForm a₀ (startStream t n s).memQueue := by simp [startStream, hk]

@[simp] theorem keepsForm_streamFill (n : Nat) {s : State} (hk : KeepsForm a₀ s.memQueue) : KeepsForm a₀ (streamFill n s).memQueue := by
  unfold streamFill
  split
  · exact hk
  · split
    · exact hk
    · split
      · split
        · exact hk
        · exact keepsForm_startStream _ _ (by simp [hk])
      · split
        · exact hk
        · extract_lets r
          have hr : KeepsForm a₀ r.1.memQueue := keepsForm_peekChunk _ hk
          split
          · exact keepsForm_startStream _ _ (by simp [hr])
          · simp [hr]

@[simp] theorem keepsForm_contextEvict (t : Nat) {s : State} (hk : KeepsForm a₀ s.memQueue) : KeepsForm a₀ (contextEvict t s).memQueue := by
  unfold contextEvict
  split <;> simp [hk]

@[simp] theorem keepsForm_streamDrain (n : Nat) {s : State} (hk : KeepsForm a₀ s.memQueue) : KeepsForm a₀ (streamDrain n s).memQueue := by
  unfold streamDrain
  split
  · simp [hk]
  · split <;> simp [hk]

@[simp] theorem keepsForm_finalWrites (n : Nat) {s : State} (hk : KeepsForm a₀ s.memQueue) : KeepsForm a₀ (finalWrites n s).memQueue := by
  unfold finalWrites
  split
  · simp [hk]
  · split <;> simp [hk]

@[simp] theorem keepsForm_contextWrite {s : State} (hk : KeepsForm a₀ s.memQueue) :
    KeepsForm a₀ (contextWrite s).memQueue := by simp +contextual [contextWrite, hk]
@[simp] theorem keepsForm_contextScan {s : State} (hk : KeepsForm a₀ s.memQueue) :
    KeepsForm a₀ (contextScan s).memQueue := by simp +contextual [contextScan, hk]

/-! ### Element -/

theorem memQueue_startWalk (t n : Nat) (asid : Nat) (e : El) (va : Nat) {s u : State} (hs : startWalk t n asid e va s = some u) :
    u.memQueue = s.memQueue := by
  unfold startWalk at hs
  dsimp only at hs
  repeat' split at hs
  all_goals simp at hs
  all_goals subst hs
  all_goals simp

theorem keepsForm_commitLocal (t n : Nat) (c : Ctx) (r : Run) (e : El) (pa dst : Nat) {s u : State} (hk : KeepsForm a₀ s.memQueue)
    (hs : commitLocal t n c r e pa dst s = some u) : KeepsForm a₀ u.memQueue := by
  unfold commitLocal at hs
  dsimp only at hs
  repeat' split at hs
  all_goals simp at hs
  all_goals subst hs
  all_goals simp [hk]

theorem keepsForm_issueEl (t n : Nat) (c : Ctx) (r : Run) (e : El) {s u : State} (hk : KeepsForm a₀ s.memQueue)
    (hs : issueEl t n c r e s = some u) : KeepsForm a₀ u.memQueue := by
  have hwalk : ∀ {asid va}, startWalk t n asid e va s = some u → KeepsForm a₀ u.memQueue := fun hw => by
    rwa [memQueue_startWalk _ _ _ _ _ hw]
  have hsame : ∀ {v : State}, v.memQueue = s.memQueue → some v = some u → KeepsForm a₀ u.memQueue := fun hv hu => by cases hu; rwa [hv]
  unfold issueEl at hs
  dsimp only at hs
  split at hs
  · exact hwalk hs
  · exact hsame (memQueue_elFail _ _ _ _ _ _) hs
  · split at hs
    · exact hsame (memQueue_elFail _ _ _ _ _ _) hs
    · exact hsame (memQueue_modRes _ _ _ _) hs
  · split at hs
    · exact hsame (memQueue_elFail _ _ _ _ _ _) hs
    · split at hs
      · split at hs
        · exact hwalk hs
        · exact hsame (memQueue_elFail _ _ _ _ _ _) hs
        · exact hsame (memQueue_elFail _ _ _ _ _ _) hs
        · exact keepsForm_commitLocal _ _ _ _ _ _ _ hk hs
      · exact keepsForm_commitLocal _ _ _ _ _ _ _ hk hs

theorem keepsForm_issueStream (t : Nat) (r : Res) {s u : State} (hk : KeepsForm a₀ s.memQueue)
    (hs : issueStream t s r = some u) : KeepsForm a₀ u.memQueue := by
  unfold issueStream at hs
  split at hs
  · exact keepsForm_issueEl _ _ _ _ _ hk hs
  · exact keepsForm_issueEl _ _ _ _ _ (by simpa using hk) hs
  · cases hs

@[simp] theorem keepsForm_elementIssue (t : Nat) {s : State} (hk : KeepsForm a₀ s.memQueue) : KeepsForm a₀ (elementIssue t s).memQueue := by
  unfold elementIssue
  split
  · exact hk
  · split
    · obtain ⟨r, -, hr⟩ := List.exists_of_findSome?_eq_some ‹_›
      obtain ⟨u, hu, he⟩ := Option.map_eq_some_iff.1 hr
      obtain ⟨rfl, rfl⟩ := Prod.mk.inj he
      rw [memQueue_modTclu]
      exact keepsForm_issueStream _ _ hk hu
    · exact hk

@[simp] theorem keepsForm_walkComplete (asid vpn : Nat) {s : State} (hk : KeepsForm a₀ s.memQueue) :
    KeepsForm a₀ (walkComplete asid vpn s).memQueue := by
  unfold walkComplete
  dsimp only
  repeat' split
  all_goals simp [hk]

/-! ### Commit -/

@[simp] theorem keepsForm_commitHead (p c : Nat) {s : State} (hk : KeepsForm a₀ s.memQueue) : KeepsForm a₀ (commitHead p c s).memQueue := by
  unfold commitHead
  dsimp only
  split
  · simp [hk]
  · split <;> simp [hk]

@[simp] theorem keepsForm_commitOwn (p c t : Nat) {s : State} (hk : KeepsForm a₀ s.memQueue) :
    KeepsForm a₀ (commitOwn p c t s).memQueue := by
  unfold commitOwn
  split <;> simp [hk]

@[simp] theorem keepsForm_rxDoorbell (p : Nat) (h : Hdr) (cmd : BitVec 8) (r : ReqF) {s : State} (hk : KeepsForm a₀ s.memQueue) :
    KeepsForm a₀ (rxDoorbell p h cmd r s).memQueue := by
  unfold rxDoorbell
  exact keepsForm_settle _ (keepsForm_commitOwn _ _ _ (keepsForm_rxRequest _ _ _ _ hk))

@[simp] theorem keepsForm_rxRacc (p : Nat) (h : Hdr) (o : BitVec 8) (r : ReqF) {s : State} (hk : KeepsForm a₀ s.memQueue) :
    KeepsForm a₀ (rxRacc p h o r s).memQueue := by simp [rxRacc, hk]

/-! ### Ctrl -/

@[simp] theorem keepsForm_rowCommand (ch : Nat) (c : Cmd) {s : State} (hk : KeepsForm a₀ s.memQueue) :
    KeepsForm a₀ (rowCommand ch c s).memQueue := by
  unfold rowCommand
  split <;> simp [hk]

@[simp] theorem keepsForm_requestCommand (ch : Nat) (c : Cmd) {s : State} (hk : KeepsForm a₀ s.memQueue) :
    KeepsForm a₀ (requestCommand ch c s).memQueue := by simp [requestCommand, hk]
@[simp] theorem keepsForm_maintCommand (ch : Nat) (m : Maint) (c : Cmd) {s : State} (hk : KeepsForm a₀ s.memQueue) :
    KeepsForm a₀ (maintCommand ch m c s).memQueue := by simp [maintCommand, hk]
@[simp] theorem keepsForm_sreCmd (ch d : Nat) {s : State} (hk : KeepsForm a₀ s.memQueue) :
    KeepsForm a₀ (sreCmd ch d s).memQueue := by simp [sreCmd, hk]
@[simp] theorem keepsForm_srxCmd (ch d : Nat) {s : State} (hk : KeepsForm a₀ s.memQueue) :
    KeepsForm a₀ (srxCmd ch d s).memQueue := by simp [srxCmd, hk]
@[simp] theorem keepsForm_srIdle (ch : Nat) {s : State} (hk : KeepsForm a₀ s.memQueue) :
    KeepsForm a₀ (srIdle ch s).memQueue := by simp [srIdle, hk]

@[simp] theorem keepsForm_columnRow (ch b col : Nat) (rd : Bool) (errs : List SymErr) {s : State} (hk : KeepsForm a₀ s.memQueue) :
    KeepsForm a₀ (columnRow ch b col rd errs s).memQueue := by
  unfold columnRow
  repeat' split
  all_goals simp [hk]

@[simp] theorem keepsForm_openMax (ch b : Nat) {s : State} (hk : KeepsForm a₀ s.memQueue) :
    KeepsForm a₀ (openMax ch b s).memQueue := by simp [openMax, hk]
@[simp] theorem keepsForm_cluNotReady (k : Nat) {s : State} (hk : KeepsForm a₀ s.memQueue) :
    KeepsForm a₀ (cluNotReady k s).memQueue := by simp +contextual [cluNotReady, hk]
@[simp] theorem keepsForm_stepFail (k src : Nat) {s : State} (hk : KeepsForm a₀ s.memQueue) :
    KeepsForm a₀ (stepFail k src s).memQueue := by simp [stepFail, hk]

@[simp] theorem keepsForm_stepT1 (k : Nat) {s : State} (hk : KeepsForm a₀ s.memQueue) : KeepsForm a₀ (stepT1 k s).memQueue := by
  unfold stepT1
  extract_lets u s1
  split
  · have h1 : KeepsForm a₀ s1.memQueue := by
      refine keepsForm_foldl (fun t j ht => ?_) _ hk
      rw [memQueue_modSched, memQueue_chanSleep]
      exact keepsForm_recover _ _ (keepsForm_landAll _ ht)
    split <;> simp [h1]
  · exact hk

@[simp] theorem keepsForm_stepT3 (k : Nat) (trained : Bool) {s : State} (hk : KeepsForm a₀ s.memQueue) :
    KeepsForm a₀ (stepT3 k trained s).memQueue := by simp +contextual [stepT3, hk]

@[simp] theorem keepsForm_stepOver (k : Nat) {s : State} (hk : KeepsForm a₀ s.memQueue) : KeepsForm a₀ (stepOver k s).memQueue := by
  unfold stepOver
  exact keepsForm_foldl (fun t j ht => keepsForm_leaveQueue _ (keepsForm_settleAll _ (keepsForm_closeDue _ ht))) _ (by simpa using hk)

@[simp] theorem keepsForm_stepEnd (k : Nat) {s : State} (hk : KeepsForm a₀ s.memQueue) :
    KeepsForm a₀ (stepEnd k s).memQueue := by simp +contextual [stepEnd, hk]

@[simp] theorem keepsForm_mergeTimeout (ch g : Nat) (errs : List (Nat × BitVec 8)) {s : State} (hk : KeepsForm a₀ s.memQueue) :
    KeepsForm a₀ (mergeTimeout ch g errs s).memQueue := by
  unfold mergeTimeout
  extract_lets s1
  have h1 : KeepsForm a₀ s1.memQueue := keepsForm_fillReturn _ _ _ hk
  split
  · exact h1
  · exact keepsForm_leaveQueue _ (keepsForm_settleOn _ _ (keepsForm_mergeEnd _ _ h1))

/-! ### Writes -/

@[simp] theorem keepsForm_applyRT {s : State} (w : Nat × Word32) (hk : KeepsForm a₀ s.memQueue) :
    KeepsForm a₀ (applyRT s w).memQueue := by simp [applyRT, hk]

@[simp] theorem keepsForm_applyStaged {s : State} (hk : KeepsForm a₀ s.memQueue) : KeepsForm a₀ (applyStaged s).memQueue := by
  unfold applyStaged
  dsimp only
  repeat' split
  all_goals simp +contextual [hk]

/-! ### Mgmt -/

@[simp] theorem keepsForm_bar2ReadChunk (r : B2Req) {s : State} (c : Nat) (hk : KeepsForm a₀ s.memQueue) :
    KeepsForm a₀ (bar2ReadChunk r s c).1.memQueue := by
  unfold bar2ReadChunk
  split <;> simp [hk]

@[simp] theorem keepsForm_mergeUnits (g : Nat) (en : BitVec 8) (data : List (BitVec 8)) {s : State} (hk : KeepsForm a₀ s.memQueue) :
    KeepsForm a₀ (mergeUnits g en data s).memQueue := by
  unfold mergeUnits
  extract_lets ch s1 s2 s3 s4
  have h1 : KeepsForm a₀ s1.memQueue := by
    unfold s1
    repeat' split
    all_goals simp [hk]
  have h3 : KeepsForm a₀ s3.memQueue := by
    unfold s3
    split
    · exact hk
    · unfold s2
      split <;> simp [h1]
  have h4 : KeepsForm a₀ s4.memQueue := by
    unfold s4
    repeat' split
    all_goals simp [h3]
  split
  · split
    · dsimp only
      split <;> simp [h4]
    · exact h4
  · exact h4

@[simp] theorem keepsForm_patchUnit (r : B2Req) (g u : Nat) {s : State} (hk : KeepsForm a₀ s.memQueue) :
    KeepsForm a₀ (patchUnit r g u s).memQueue := by
  unfold patchUnit
  dsimp only
  split <;> simp [hk]

@[simp] theorem keepsForm_bar2Gran (r : B2Req) {s : State} (g : Nat) (hk : KeepsForm a₀ s.memQueue) :
    KeepsForm a₀ (bar2Gran r s g).memQueue := by
  unfold bar2Gran
  extract_lets s1 bytes full s2
  have h1 : KeepsForm a₀ s1.memQueue := keepsForm_drainOn _ _ hk
  have h2 : KeepsForm a₀ s2.memQueue := by unfold s2; split <;> simp [h1]
  split
  · exact keepsForm_layGran _ _ _ h1
  · exact keepsForm_foldl (fun t u ht => keepsForm_patchUnit _ _ _ ht) _ h2

@[simp] theorem keepsForm_bar2WriteChunk (r : B2Req) {s : State} (c : Nat) (hk : KeepsForm a₀ s.memQueue) :
    KeepsForm a₀ (bar2WriteChunk r s c).memQueue := by
  unfold bar2WriteChunk
  split
  · exact hk
  · exact keepsForm_ownAccess _ _ _ hk (fun t ht => keepsForm_foldl (fun u g hu => keepsForm_bar2Gran _ _ hu) _ ht)

@[simp] theorem keepsForm_bar2Serve (r : B2Req) {s : State} (hk : KeepsForm a₀ s.memQueue) : KeepsForm a₀ (bar2Serve r s).memQueue := by
  unfold bar2Serve
  dsimp only
  repeat' split
  all_goals simp +contextual [hk]

@[simp] theorem keepsForm_bar2Stream (fuel : Nat)  {s : State} (hk : KeepsForm a₀ s.memQueue) :
    KeepsForm a₀ (bar2Stream fuel s).memQueue := by
  induction fuel generalizing s with
  | zero => exact hk
  | succ fuel ih =>
    unfold bar2Stream
    split
    · exact hk
    · split
      · exact ih (keepsForm_bar2Serve _ (by simpa using hk))
      · exact hk

@[simp] theorem keepsForm_bar2Accept (r : B2Req) {s : State} (hk : KeepsForm a₀ s.memQueue) :
    KeepsForm a₀ (bar2Accept r s).memQueue := by simp [bar2Accept, hk]

@[simp] theorem keepsForm_xbarChan (ch id : Nat) {s : State} (hk : KeepsForm a₀ s.memQueue) : KeepsForm a₀ (xbarChan ch id s).memQueue := by
  unfold xbarChan
  dsimp only
  split <;> simp [hk]

@[simp] theorem keepsForm_unitReaction (src inst : Nat) (info : BitVec 64) {s : State} (hk : KeepsForm a₀ s.memQueue) :
    KeepsForm a₀ (unitReaction src inst info s).memQueue := by simp [unitReaction, hk]
@[simp] theorem keepsForm_faultEvent (src inst : Nat) (info : BitVec 64) {s : State} (hk : KeepsForm a₀ s.memQueue) :
    KeepsForm a₀ (faultEvent src inst info s).memQueue := by simp [faultEvent, hk]

/-! ### Keeper -/

@[simp] theorem keepsForm_readImage (a n : Nat) {s : State} (hk : KeepsForm a₀ s.memQueue) : KeepsForm a₀ (readImage a n s).1.memQueue := by
  unfold readImage
  refine keepsForm_foldl_fst (fun u g hu => ?_) _ hk
  split
  · exact hu
  · split
    · exact hu
    · dsimp only
      split <;> exact keepsForm_peekGran _ _ hu

@[simp] theorem keepsForm_patchVerify (a : Nat) {s : State} (hk : KeepsForm a₀ s.memQueue) : KeepsForm a₀ (patchVerify a s).1.memQueue := by
  unfold patchVerify
  dsimp only
  split
  · simp [hk]
  · split <;> simp [hk]

@[simp] theorem keepsForm_keeperRun {s : State} (hk : KeepsForm a₀ s.memQueue) : KeepsForm a₀ (keeperRun s).memQueue := by
  unfold keeperRun
  dsimp only
  split
  · simp [hk]
  · split <;> simp [hk]

/-! ### Power -/

@[simp] theorem keepsForm_perstFall {s : State} (hk : KeepsForm a₀ s.memQueue) : KeepsForm a₀ (perstFall s).memQueue := by
  unfold perstFall
  split
  · exact hk
  · refine keepsForm_collect ?_
    rw [memQueue_modPcie, memQueue_functionReset]
    exact keepsForm_foldl (fun t c ht => keepsForm_stopChannel _ _ ht) _ (by simpa using hk)

@[simp] theorem keepsForm_stackReset {s : State} (hk : KeepsForm a₀ s.memQueue) :
    KeepsForm a₀ (stackReset s).memQueue := by simp [stackReset, hk]
@[simp] theorem keepsForm_stackResetOff {s : State} (hk : KeepsForm a₀ s.memQueue) :
    KeepsForm a₀ (stackResetOff s).memQueue := by simp [stackResetOff, hk]
@[simp] theorem keepsForm_diesUp (k : Nat) {s : State} (hk : KeepsForm a₀ s.memQueue) :
    KeepsForm a₀ (diesUp k s).memQueue := by simp +contextual [diesUp, hk]

/-! ### Renjan -/

@[simp] theorem keepsForm_rStreamAlloc (x : Mbx) {s : State} (hk : KeepsForm a₀ s.memQueue) :
    KeepsForm a₀ (rStreamAlloc x s).1.memQueue := by
  unfold rStreamAlloc
  dsimp only
  repeat' split
  all_goals simp [hk]

@[simp] theorem keepsForm_rStreamFree (x : Mbx) {s : State} (hk : KeepsForm a₀ s.memQueue) : KeepsForm a₀ (rStreamFree x s).1.memQueue := by
  unfold rStreamFree
  dsimp only
  split
  · simp [hk]
  · split <;> simp [hk]

@[simp] theorem keepsForm_rStreamCmd (cmd : Nat) (x : Mbx) {s : State} (hk : KeepsForm a₀ s.memQueue) :
    KeepsForm a₀ (rStreamCmd cmd x s).1.memQueue := by
  unfold rStreamCmd
  dsimp only
  split
  · simp [hk]
  · split <;> simp [hk]

@[simp] theorem keepsForm_pokeWord (a : Nat) (v : BitVec 64) {s : State} (hk : KeepsForm a₀ s.memQueue) :
    KeepsForm a₀ (pokeWord a v s).1.memQueue := by simp +contextual [pokeWord, hk]

@[simp] theorem keepsForm_rAsidSet (m : Option Nat) (valid : Bool) (x : Mbx) {s : State} (hk : KeepsForm a₀ s.memQueue) :
    KeepsForm a₀ (rAsidSet m valid x s).1.memQueue := by
  unfold rAsidSet
  dsimp only
  repeat' split
  all_goals simp [hk]

@[simp] theorem keepsForm_writeBack (t : Nat) {s : State} (hk : KeepsForm a₀ s.memQueue) :
    KeepsForm a₀ (writeBack t s).memQueue := by simp +contextual [writeBack, hk]

@[simp] theorem keepsForm_rTndPower (m : Option Nat) (later : List (Nat × Nat)) (x : Mbx) {s : State} (hk : KeepsForm a₀ s.memQueue) :
    KeepsForm a₀ (rTndPower m later x s).1.memQueue := by
  unfold rTndPower
  dsimp only
  repeat' split
  all_goals simp +contextual [hk]

@[simp] theorem keepsForm_rChannelRetire (x : Mbx) {s : State} (hk : KeepsForm a₀ s.memQueue) :
    KeepsForm a₀ (rChannelRetire x s).1.memQueue := by
  unfold rChannelRetire
  dsimp only
  repeat' split
  all_goals simp [hk]

@[simp] theorem keepsForm_copyImage (b : List (BitVec 8)) (dst : Nat) {s : State} (hk : KeepsForm a₀ s.memQueue) :
    KeepsForm a₀ (copyImage b dst s).memQueue := by simp +contextual [copyImage, hk]

@[simp] theorem keepsForm_rPatchLoad (m : Option Nat) (x : Mbx) {s : State} (hk : KeepsForm a₀ s.memQueue) :
    KeepsForm a₀ (rPatchLoad m x s).1.memQueue := by
  simp only [rPatchLoad]
  repeat' split
  all_goals simp [hk]

@[simp] theorem keepsForm_decideCmd (m : Option Nat) (later : List (Nat × Nat)) (x : Mbx) {s : State} (hk : KeepsForm a₀ s.memQueue) :
    KeepsForm a₀ (decideCmd m later x s).1.memQueue := by
  unfold decideCmd
  split <;> simp [hk]

@[simp] theorem keepsForm_takeMbx (m : Nat) {s : State} (hk : KeepsForm a₀ s.memQueue) : KeepsForm a₀ (takeMbx m s).memQueue := by
  unfold takeMbx
  extract_lets x s1 s2 s3
  have h2 : KeepsForm a₀ s2.memQueue := by simp [s2, s1, hk]
  split
  · simp [h2]
  · split
    · rw [memQueue_finishCmd]; exact keepsForm_decideCmd _ _ _ h2
    · simp [s3, h2]

@[simp] theorem keepsForm_keeperTake {s : State} (hk : KeepsForm a₀ s.memQueue) : KeepsForm a₀ (keeperTake s).memQueue := by
  unfold keeperTake
  split <;> simp [hk]

@[simp] theorem keepsForm_takeCode (code : BitVec 16) (m : Nat) {s : State} (hk : KeepsForm a₀ s.memQueue) :
    KeepsForm a₀ (takeCode code m s).memQueue := by simp [takeCode, hk]

@[simp] theorem keepsForm_runStaged (counts : Staged → Bool) (l : List Staged) {s : State} (acc : List Outcome_)
    (hk : KeepsForm a₀ s.memQueue) :
    KeepsForm a₀ (runStaged counts l s acc).1.memQueue := by
  induction l generalizing s acc with
  | nil => exact hk
  | cons y ys ih => simp [runStaged, hk, ih]

@[simp] theorem memQueue_answerStaged (l : List Outcome_) (s : State) : (answerStaged l s).memQueue = s.memQueue := by
  induction l generalizing s with
  | nil => rfl
  | cons y ys ih =>
    unfold answerStaged
    dsimp only
    rw [ih]
    repeat' split
    all_goals simp

@[simp] theorem keepsForm_stagedCmds {s : State} (hk : KeepsForm a₀ s.memQueue) : KeepsForm a₀ (stagedCmds s).memQueue := by
  unfold stagedCmds
  extract_lets s1 now s2 trial r
  rw [memQueue_answerStaged]
  refine keepsForm_runStaged _ _ _ ?_
  rw [memQueue_modKpr]
  exact keepsForm_foldl (fun t n ht => keepsForm_doorbellContextRead _ ht) _ hk

@[simp] theorem keepsForm_fastTake {s : State} (hk : KeepsForm a₀ s.memQueue) : KeepsForm a₀ (fastTake s).memQueue := by simp [fastTake, hk]

/-! ### Tick -/

@[simp] theorem keepsForm_chanTickEnd (ch : Nat) {s : State} (hk : KeepsForm a₀ s.memQueue) :
    KeepsForm a₀ (chanTickEnd ch s).memQueue := by simp [chanTickEnd, hk]

@[simp] theorem keepsForm_endTick {s : State} (hk : KeepsForm a₀ s.memQueue) : KeepsForm a₀ (endTick s).memQueue := by
  unfold endTick
  extract_lets s1 s2 s3 s4 s5
  have h1 : KeepsForm a₀ s1.memQueue := keepsForm_foldl (fun t ch ht => keepsForm_chanTickEnd _ ht) _ hk
  have h3 : KeepsForm a₀ s3.memQueue := by unfold s3; split <;> simp [s2, h1]
  have h4 : KeepsForm a₀ s4.memQueue := keepsForm_fastTake (by simpa using h3)
  simp [s5, h4]

@[simp] theorem keepsForm_stepNext (k : Nat) {s : State} (hk : KeepsForm a₀ s.memQueue) : KeepsForm a₀ (stepNext k s).memQueue := by
  unfold stepNext
  dsimp only
  split <;> simp [hk]

@[simp] theorem keepsForm_drainBoundary (k : Nat) {s : State} (hk : KeepsForm a₀ s.memQueue) :
    KeepsForm a₀ (drainBoundary k s).memQueue := by
  unfold drainBoundary
  extract_lets idle
  split
  · rw [memQueue_domDown]
    exact keepsForm_foldl (fun t j ht => by rw [memQueue_chanHalt]; exact keepsForm_mergeFlush _ ht) _ hk
  · exact hk

@[simp] theorem keepsForm_stageMove (k : Nat) (g : Stage4) {s : State} (hk : KeepsForm a₀ s.memQueue) :
    KeepsForm a₀ (stageMove k g s).memQueue := by
  unfold stageMove
  split <;> simp [hk]

@[simp] theorem keepsForm_stageBoundary (k : Nat) {s : State} (hk : KeepsForm a₀ s.memQueue) :
    KeepsForm a₀ (stageBoundary k s).memQueue := by
  unfold stageBoundary
  dsimp only
  split
  · exact hk
  · split
    · split <;> simp [hk]
    · exact hk
    · exact hk
    · split
      · exact keepsForm_stageMove _ _ hk
      · simp [hk]

@[simp] theorem keepsForm_cluBoundary (k : Nat) {s : State} (hk : KeepsForm a₀ s.memQueue) : KeepsForm a₀ (cluBoundary k s).memQueue := by
  unfold cluBoundary
  refine keepsForm_stageBoundary _ (keepsForm_drainBoundary _ ?_)
  rw [memQueue_stepMaybe]
  split <;> simp [hk]

@[simp] theorem keepsForm_chanBoundary (ch : Nat) {s : State} (hk : KeepsForm a₀ s.memQueue) :
    KeepsForm a₀ (chanBoundary ch s).memQueue := by simp [chanBoundary, hk]
@[simp] theorem keepsForm_configBoundary {s : State} (hk : KeepsForm a₀ s.memQueue) :
    KeepsForm a₀ (configBoundary s).memQueue := by simp [configBoundary, hk]

@[simp] theorem keepsForm_reactBoundary (was : Bool) {s : State} (hk : KeepsForm a₀ s.memQueue) :
    KeepsForm a₀ (reactBoundary was s).memQueue := by
  unfold reactBoundary
  extract_lets s1 s2 s3 s4 s5 s6
  have h3 : KeepsForm a₀ s3.memQueue := keepsForm_foldl (fun t ch ht => keepsForm_chanBoundary _ ht) _ (by simp [s2, s1, hk])
  have h4 : KeepsForm a₀ s4.memQueue := keepsForm_foldl (fun t k ht => keepsForm_cluBoundary _ ht) _ h3
  simp [s6, s5, h4]

@[simp] theorem keepsForm_tickBoundary {s0 : State} (hk : KeepsForm a₀ s0.memQueue) : KeepsForm a₀ (tickBoundary s0).memQueue := by
  unfold tickBoundary
  split
  · exact hk
  · extract_lets was ptm s1 s2 s3 s4 s5 s6
    have h1 : KeepsForm a₀ s1.memQueue := keepsForm_reactBoundary _ (keepsForm_configBoundary (keepsForm_endTick hk))
    have h4 : KeepsForm a₀ s4.memQueue := by
      have hc : s4.memQueue = s3.memQueue := memQueue_foldl (fun t k => by split <;> rfl) _ _
      rw [hc]
      simp [s3, s2, h1]
    rw [memQueue_gateXbar]
    exact keepsForm_bar2Stream _ (by simpa [s6, s5] using h4)

/-! ### The commands -/

/-- Every command keeps the canonical form of memory and leaves the commands waiting as they are. -/
theorem keepsForm_exec (i : Instr) {s t : State} (h : exec i s = .next t) : KeepsForm s.memQueue t.memQueue := by
  cases i
  case fence =>
    obtain rfl := Host.Outcome.next.inj h
    exact keepsForm_settle _ (keepsForm_commitOwn _ _ _ (keepsForm_rxRequest _ _ _ _ (keepsForm_rfl _)))
  case alwaysOnReset =>
    obtain rfl := Host.Outcome.next.inj h
    exact ⟨fun _ => rfl, fun _ => rfl, by dsimp only [State.memQueue]; split <;> rfl⟩
  all_goals
    obtain rfl := Host.Outcome.next.inj h
    simp

end Sys2Proof.Machine
end

section
/-! SUPPORT. The block as a whole: what one step runs, and what every step keeps. -/

namespace Sys2Proof.Machine

theorem step_eq_exec {s : State} {c : Instr} {rest : List Instr} (h : s.pending = c :: rest) :
    step s = exec c { s with pending := rest } := by
  simp [step, h]

theorem step_eq_idle {s : State} (h : s.pending = []) : step s = .next (idleCycle s) := by
  simp [step, h]

/-- A cycle within its tick (R26, R45): the timestamp advances, and the crossbar's clock stops where no link holds anything. -/
theorem idleCycle_within_tick {s : State} (hheld : s.pwr.held = false) (hcyc : s.day.cyc < s.day.len) :
    idleCycle s = { s with
      day := { s.day with cyc := s.day.cyc + 1, ts := s.day.ts + s.day.perCycle }
      clk := if (List.range 32).all (fun c => (s.chan c).q.link.isEmpty && (s.chan c).q.done.isEmpty) = true
        then { s.clk with xbarGated := true } else s.clk } := by
  have hpass : s.day.pass 1 = { s.day with cyc := s.day.cyc + 1, ts := s.day.ts + s.day.perCycle } := by
    simp [Day.pass]
  rw [idleCycle, if_neg (by simp [hheld, hcyc]), hpass]
  unfold gateXbar State.chan
  dsimp only
  split <;> rfl

/-- No cycle passes in the always-on reset, or once the tick has no cycle left. -/
theorem idleCycle_of_no_cycle {s : State} (h : s.pwr.held = true ∨ s.day.len ≤ s.day.cyc) : idleCycle s = s := by
  simp [idleCycle, h]

/-- Settles O58: a step is `exec` of the front command, or one idle cycle. -/
theorem stepRunsFrontCommand : Obligations.StepRunsFrontCommand := by
  refine ⟨fun s c rest h => step_eq_exec h, fun s h => ⟨fun hheld hcyc => ?_, fun hno => ?_⟩⟩
  · rw [step_eq_idle h, idleCycle_within_tick hheld hcyc]
  · rw [step_eq_idle h, idleCycle_of_no_cycle hno]

/-- Settles O59: a step is one command on the rest of the queue, or one idle cycle, and each of them keeps the form and the queue
it finds. -/
theorem everyStepKeepsMemoryForm : Obligations.EveryStepKeepsMemoryForm := by
  intro s t hi hs
  cases hp : s.pending with
  | nil =>
    rw [step_eq_idle hp] at hs
    obtain rfl := Host.Outcome.next.inj hs
    have hk : KeepsForm s.memQueue (idleCycle s).memQueue := by simp
    exact ⟨hk.inv hi, hk.pending.trans hp⟩
  | cons c rest =>
    rw [step_eq_exec hp] at hs
    have hk := keepsForm_exec c hs
    exact ⟨hk.inv hi, hk.pending⟩

end Sys2Proof.Machine
end

section
/-! SUPPORT. The transaction queue of a channel that holds no other request: how an access reaches it, and what changes with it. -/

namespace Sys2Proof.Machine

/-! ### The requests that wait at a channel -/

/-- The requests that wait at a channel: those in its queue, and those on its crossbar links. -/
def Sched.waiting (q : Sched) : List Entry × List Entry := (q.queue, q.link)

@[simp] theorem waiting_log (q : Sched) (cmd : DramCmd) (die bank arg : Nat) (job : Option ScrubJob) :
    (q.log cmd die bank arg job).waiting = q.waiting := (rfl)
@[simp] theorem waiting_modBank (q : Sched) (b : Nat) (f : Bank → Bank) : (q.modBank b f).waiting = q.waiting := rfl
@[simp] theorem waiting_modSlice (q : Sched) (d : Nat) (f : Slice → Slice) : (q.modSlice d f).waiting = q.waiting := rfl

theorem waiting_foldl {α : Type} {f : Sched → α → Sched} (hf : ∀ q x, (f q x).waiting = q.waiting) (l : List α) (q : Sched) :
    (l.foldl f q).waiting = q.waiting := by
  induction l generalizing q with
  | nil => rfl
  | cons x l ih => rw [List.foldl_cons, ih, hf]

@[simp] theorem waiting_timer (q : Sched) (tick d : Nat) : (q.timer tick d).waiting = q.waiting :=
  waiting_foldl (fun _ _ => waiting_modBank _ _ _) _ _

@[simp] theorem waiting_srx (q : Sched) (step tick d : Nat) : (q.srx step tick d).waiting = q.waiting := by
  unfold Sched.srx
  split
  · rw [waiting_modSlice, waiting_timer]
  · rfl

theorem waiting_until {q r : Sched} {step : Nat} {c : Cmd} (h : q.until step c = some r) : r.waiting = q.waiting := by
  obtain ⟨n, -, rfl⟩ := Option.map_eq_some_iff.1 h
  rfl

@[simp] theorem waiting_exitSr (step tick : Nat) (q : Sched) (d : Nat) : (q.exitSr step tick d).waiting = q.waiting := by
  unfold Sched.exitSr
  split
  · rfl
  · split
    · rw [waiting_srx, waiting_log, waiting_until ‹_›]
    · rfl

/-! ### What a channel's own operations change -/

/-- From `s` to `t` nothing changed but channel `ch` and the clusters. -/
abbrev OnChan (s t : State) (ch : Nat) : Prop :=
  t = { s with chans := t.chans, clus := t.clus } ∧ ∀ c, c ≠ ch → t.chan c = s.chan c

theorem OnChan.trans {s t u : State} {ch : Nat} (h : OnChan s t ch) (k : OnChan t u ch) : OnChan s u ch := by
  obtain ⟨ht, hct⟩ := h
  obtain ⟨hu, hcu⟩ := k
  refine ⟨?_, fun c hc => (hcu c hc).trans (hct c hc)⟩
  rw [ht] at hu
  exact hu

theorem onChan_modChan (s : State) (ch : Nat) (f : Chan → Chan) : OnChan s (s.modChan ch f) ch :=
  ⟨rfl, fun c hc => by simp [hc]⟩

theorem onChan_modSched (s : State) (ch : Nat) (f : Sched → Sched) : OnChan s (s.modSched ch f) ch := onChan_modChan _ _ _

/-- A channel that is woken (R152) changes with its cluster. -/
theorem onChan_wake (ch : Nat) (s : State) : OnChan s (wake ch s) ch := by
  unfold wake
  dsimp only
  split
  · exact (onChan_modChan s ch _).trans ⟨rfl, fun _ _ => rfl⟩
  · exact ⟨rfl, fun _ _ => rfl⟩

/-- A channel that is woken keeps its requests and its integrity unit. -/
theorem wake_keeps (ch c : Nat) (s : State) :
    ((wake ch s).chan c).q.waiting = (s.chan c).q.waiting ∧ ((wake ch s).chan c).i = (s.chan c).i := by
  unfold wake
  dsimp only
  split
  · have hclu : ∀ (x : State) f, (x.modClu (cluOf ch) f).chan c = x.chan c := fun _ _ => rfl
    rw [hclu, State.chan_modChan]
    split
    · subst c
      refine ⟨?_, rfl⟩
      exact waiting_foldl (fun q d => waiting_exitSr _ _ q d) _ _
    · exact ⟨rfl, rfl⟩
  · exact ⟨rfl, rfl⟩

/-! ### Counts and places -/

/-- Holds raised or lifted change the channel and two counters of the arbiter (R193, R204). -/
theorem refreshHolds_frame (ch : Nat) (s : State) :
    refreshHolds ch s = { s with chans := (refreshHolds ch s).chans, sec := (refreshHolds ch s).sec } ∧
      (refreshHolds ch s).sec = { s.sec with holdCnt := (refreshHolds ch s).sec.holdCnt, evt := (refreshHolds ch s).sec.evt } := by
  unfold refreshHolds
  dsimp only
  split
  · split <;> exact ⟨rfl, rfl⟩
  · split <;> exact ⟨rfl, rfl⟩

/-- Of the channels, holds raised or lifted change those of channel `ch`. -/
theorem refreshHolds_chan (ch c : Nat) (s : State) :
    (∃ h, (refreshHolds ch s).chan c = { s.chan c with q := { (s.chan c).q with holds := h } }) ∧
      (c ≠ ch → (refreshHolds ch s).chan c = s.chan c) := by
  unfold refreshHolds
  extract_lets q now rising s1
  have h1 : (∃ h, s1.chan c = { s.chan c with q := { (s.chan c).q with holds := h } }) ∧ (c ≠ ch → s1.chan c = s.chan c) := by
    unfold s1
    split
    · exact ⟨⟨_, rfl⟩, fun _ => rfl⟩
    · refine ⟨?_, (onChan_modSched s ch _).2 c⟩
      by_cases hc : c = ch
      · subst hc
        exact ⟨now, by simp [State.modSched]⟩
      · exact ⟨(s.chan c).q.holds, by simp [State.modSched, hc]⟩
  split
  · exact h1
  · exact h1

/-- Places of a channel taken or released, with the holds that follow (R190, R193): two counters of the arbiter change, and of the
channels that one's places and holds. -/
theorem refreshHolds_places (ch : Nat) (p : Sched → Tab Nat) (s : State) :
    let t := refreshHolds ch (s.modSched ch (fun q => { q with places := p q }))
    t = { s with chans := t.chans, sec := t.sec } ∧ t.sec = { s.sec with holdCnt := t.sec.holdCnt, evt := t.sec.evt } ∧
      ∀ c, (∃ l h, t.chan c = { s.chan c with q := { (s.chan c).q with places := l, holds := h } }) ∧
        (c ≠ ch → t.chan c = s.chan c) := by
  intro t
  obtain ⟨hf, hs⟩ := refreshHolds_frame ch (s.modSched ch (fun q => { q with places := p q }))
  refine ⟨hf, hs, fun c => ?_⟩
  obtain ⟨⟨h, hh⟩, hne⟩ := refreshHolds_chan ch c (s.modSched ch (fun q => { q with places := p q }))
  have hon := onChan_modSched s ch (fun q => { q with places := p q })
  refine ⟨?_, fun hc => (hne hc).trans (hon.2 c hc)⟩
  by_cases hc : c = ch
  · subst hc
    exact ⟨p (s.chan c).q, h, hh.trans (by simp [State.modSched])⟩
  · exact ⟨(s.chan c).q.places, h, hh.trans (by rw [hon.2 c hc])⟩

/-- The place and the turn at channel `ch` that an access of source `src` and class `c` takes (R190, R192). -/
def placed (src c ch : Nat) (s : State) : State := takePlace ch c (took ch src s)

/-- They change the channel and the arbiter's state. -/
theorem placed_frame (src c ch : Nat) (s : State) :
    let t := placed src c ch s
    t = { s with chans := t.chans, sec := t.sec } ∧
      t.sec = { s.sec with turn := tset s.sec.turn ch src, holdCnt := t.sec.holdCnt, evt := t.sec.evt } := by
  obtain ⟨hf, hs, -⟩ := refreshHolds_places ch (fun q => tset q.places c (q.used c + 1)) (took ch src s)
  exact ⟨hf, hs⟩

/-- They keep what waits at every channel and the integrity units, and every other channel whole. -/
theorem placed_keeps (src c ch ch' : Nat) (s : State) :
    let t := placed src c ch s
    (t.chan ch').q.waiting = (s.chan ch').q.waiting ∧ (t.chan ch').i = (s.chan ch').i ∧ (ch' ≠ ch → t.chan ch' = s.chan ch') := by
  obtain ⟨-, -, hc⟩ := refreshHolds_places ch (fun q => tset q.places c (q.used c + 1)) (took ch src s)
  obtain ⟨⟨l, h, he⟩, hne⟩ := hc ch'
  exact ⟨(congrArg (fun x : Chan => x.q.waiting) he).trans rfl, (congrArg Chan.i he).trans rfl, hne⟩

/-! ### A queue without partial writes and an empty merge buffer -/

/-- The merge buffer of channel `ch` is empty, and no write of its queue needs it. -/
abbrev NoMerge (s : State) (ch : Nat) : Prop :=
  (s.chan ch).i.merge = [] ∧ ∀ e ∈ (s.chan ch).q.queue, ∀ h, e.op.partialAt h = false

theorem mergeOf_of_noMerge {s : State} {ch : Nat} (h : NoMerge s ch) (g : Nat) : (s.chan ch).i.mergeOf g = none := by
  simp [Integ.mergeOf, h.1]

theorem settleGran_of_noMerge {s : State} {ch : Nat} (h : NoMerge s ch) (fuel g : Nat) : settleGran fuel ch g s = s := by
  cases fuel with
  | zero => rfl
  | succ fuel =>
    unfold settleGran
    split
    · rfl
    · cases he : (s.chan ch).q.firstOn g with
      | none => rfl
      | some e =>
        have hp : e.op.partialAt (g % 2) = false := h.2 e (List.mem_of_find?_eq_some he) _
        simp [mergeOf_of_noMerge h, hp]

theorem settleRoom_of_noMerge {s : State} {ch : Nat} (h : NoMerge s ch) (fuel : Nat) : settleRoom fuel ch s = s := by
  have hw : mergeWaiter (s.chan ch) = none := by
    simp only [mergeWaiter, List.findSome?_eq_none_iff]
    intro e he k _
    simp [h.2 e he]
  cases fuel with
  | zero => rfl
  | succ fuel => simp [settleRoom, hw]

theorem settleChunk_of_noMerge {s : State} {ch : Nat} (h : NoMerge s ch) (chunk : Nat) : settleChunk ch chunk s = s := by
  simp [settleChunk, settleOn, settleGran_of_noMerge h, settleRoom_of_noMerge h]

/-! ### One access reaches an empty channel -/

theorem nextLink_nil {q : Sched} (h : q.link = []) (ch : Nat) : nextLink ch q = none := by
  simp [nextLink, h]

/-- The only request on the links of a channel with an empty queue enters it next, whatever the turn of the links (R19, R20, R136). -/
theorem nextLink_single {q : Sched} {e : Entry} {ch : Nat} (hq : q.queue = []) (hl : q.link = [e]) (hx : e.src.xlink ch < 49) :
    nextLink ch q = some e := by
  have hroom : q.room e.cls = true := by simp [Sched.room, hq]
  have honly : ∀ f ∈ (List.range 49).filterMap (fun n => q.link.find? (fun e => e.src.xlink ch = (q.turn + 1 + n) % 49)), f = e := by
    intro f hf
    obtain ⟨n, -, hn⟩ := List.mem_filterMap.1 hf
    simpa [hl] using List.mem_of_find?_eq_some hn
  have hmem : e ∈ (List.range 49).filterMap (fun n => q.link.find? (fun e => e.src.xlink ch = (q.turn + 1 + n) % 49)) := by
    refine List.mem_filterMap.2 ⟨(e.src.xlink ch + 49 - (q.turn + 1) % 49) % 49, List.mem_range.2 (by omega), ?_⟩
    have hn : e.src.xlink ch = (q.turn + 1 + (e.src.xlink ch + 49 - (q.turn + 1) % 49) % 49) % 49 := by omega
    simp [hl, ← hn]
  unfold nextLink
  cases hfind : List.find? (fun e : Entry => q.room e.cls) _ with
  | none => exact absurd hroom (List.find?_eq_none.1 hfind e hmem)
  | some f => rw [honly f (List.mem_of_find?_eq_some hfind)]

/-- Nothing leaves a queue whose entries all need a granule. -/
theorem leaveOnce_keeps {s : State} {ch : Nat} (h : ∀ e ∈ (s.chan ch).q.queue, e.need ≠ 0) :
    OnChan s (leaveOnce ch s) ch ∧ ((leaveOnce ch s).chan ch).q.waiting = (s.chan ch).q.waiting ∧
      ((leaveOnce ch s).chan ch).i = (s.chan ch).i := by
  have hout : (s.chan ch).q.queue.filter (fun e => e.need = 0) = [] := by
    simpa [List.filter_eq_nil_iff] using h
  have hstay : (s.chan ch).q.queue.filter (fun e => e.need ≠ 0) = (s.chan ch).q.queue := by
    simpa [List.filter_eq_self] using h
  simp only [leaveOnce, hout, List.foldl_nil]
  refine ⟨onChan_modSched _ _ _, ?_, State.modSched_i _ _ _ _⟩
  rw [State.modSched_q]
  simp only [Sched.waiting, Prod.mk.injEq, and_true]
  exact hstay

theorem leaveLoop_of_link_nil {s : State} {ch fuel : Nat} (hl : ((leaveOnce ch s).chan ch).q.link = []) :
    leaveLoop (fuel + 1) ch s = leaveOnce ch s := by
  simp [leaveLoop, nextLink_nil hl]

/-- A read enters a queue with no other request and an empty merge buffer (R136, R139). -/
theorem enqueue_read {s : State} {ch : Nat} {e : Entry} (hq : (s.chan ch).q.queue = []) (hm : (s.chan ch).i.merge = [])
    (hop : e.op = .read) :
    OnChan s (enqueue ch e s) ch ∧
      ((enqueue ch e s).chan ch).q.waiting = ([{ e with entered := s.day.tick }], (s.chan ch).q.link) := by
  unfold enqueue
  extract_lets a s1
  have h1 : OnChan s s1 ch := onChan_modChan _ _ _
  have hw1 : (s1.chan ch).q.waiting = ([{ e with entered := s.day.tick }], (s.chan ch).q.link) := by
    unfold s1
    rw [State.chan_modChan, if_pos rfl]
    simp [Sched.waiting, Sched.modBank, hq]
  have hm1 : (s1.chan ch).i.merge = [] := by
    unfold s1
    rw [State.chan_modChan, if_pos rfl]
    simp [hop, hm]
  obtain ⟨hw2, hi2⟩ := wake_keeps ch ch s1
  have hno : NoMerge (wake ch s1) ch := by
    refine ⟨by rw [hi2, hm1], fun f hf k => ?_⟩
    have hqueue : ((wake ch s1).chan ch).q.queue = [{ e with entered := s.day.tick }] := congrArg Prod.fst (hw2.trans hw1)
    rw [hqueue, List.mem_singleton] at hf
    subst hf
    simp [hop, AccOp.partialAt]
  rw [settleChunk_of_noMerge hno]
  exact ⟨h1.trans (onChan_wake ch s1), hw2.trans hw1⟩

/-- A read that reaches a channel with no other request and an empty merge buffer stands in its queue, taken up in this tick. -/
theorem arrive_read {s : State} {ch : Nat} {e : Entry} (hq : (s.chan ch).q.queue = []) (hl : (s.chan ch).q.link = [])
    (hm : (s.chan ch).i.merge = []) (hop : e.op = .read) (hneed : e.need ≠ 0) (hx : e.src.xlink ch < 49) :
    OnChan s (arrive ch e s) ch ∧
      ((arrive ch e s).chan ch).q.queue = [{ e with id := (s.chan ch).q.nextId, entered := s.day.tick }] := by
  unfold arrive
  generalize hE : ({ e with id := (s.chan ch).q.nextId } : Entry) = e1
  generalize hS : s.modSched ch (fun q => { q with nextId := q.nextId + 1, link := q.link ++ [{ e with id := q.nextId }] }) = s1
  have h1 : OnChan s s1 ch := hS ▸ onChan_modSched _ _ _
  have hw1 : (s1.chan ch).q.waiting = ([], [e1]) := by
    rw [← hS, State.modSched_q]
    simp [Sched.waiting, hq, hl, hE]
  have hm1 : (s1.chan ch).i.merge = [] := by rw [← hS, State.modSched_i, hm]
  obtain ⟨hq1, hl1⟩ := Prod.mk.inj hw1
  have hneed1 : e1.need ≠ 0 := by rw [← hE]; exact hneed
  have hop1 : e1.op = .read := by rw [← hE]; exact hop
  have hx1 : e1.src.xlink ch < 49 := by rw [← hE]; exact hx
  obtain ⟨h2, hw2, hi2⟩ := leaveOnce_keeps (s := s1) (ch := ch) (by simp [hq1])
  obtain ⟨hq2, hl2⟩ := Prod.mk.inj (hw2.trans hw1)
  -- the request crosses from the link into the queue
  generalize hT : ((leaveOnce ch s1).modSched ch (fun q =>
    { q with link := q.link.filter (fun f => f.id ≠ e1.id), turn := e1.src.xlink ch })) = s2
  have h3 : OnChan s s2 ch := hT ▸ (h1.trans h2).trans (onChan_modSched _ _ _)
  have hw3 : (s2.chan ch).q.waiting = ([], []) := by
    rw [← hT, State.modSched_q]
    simp [Sched.waiting, hq2, hl2]
  have hm3 : (s2.chan ch).i.merge = [] := by rw [← hT, State.modSched_i, hi2, hm1]
  obtain ⟨h4, hw4⟩ := enqueue_read (Prod.mk.inj hw3).1 hm3 hop1
  rw [(Prod.mk.inj hw3).2] at hw4
  obtain ⟨hq4, hl4⟩ := Prod.mk.inj hw4
  have hadmit : admitLink ((leaveOnce ch s1).chan ch).q.link.length ch (leaveOnce ch s1) = enqueue ch e1 s2 := by
    rw [hl2, List.length_singleton, admitLink, nextLink_single hq2 hl2 hx1]
    dsimp only
    rw [hT]
    rfl
  obtain ⟨h5, hw5, -⟩ := leaveOnce_keeps (s := enqueue ch e1 s2) (ch := ch) (by
    rw [hq4]
    intro f hf
    rw [List.mem_singleton.1 hf]
    exact hneed1)
  obtain ⟨hq5, hl5⟩ := Prod.mk.inj (hw5.trans hw4)
  have hleave : leaveQueue ch s1 = leaveOnce ch (enqueue ch e1 s2) := by
    rw [leaveQueue, if_neg (by simp [hl1]), leaveLoop, if_pos (by simp [nextLink_single hq2 hl2 hx1]), hadmit,
      hl1, List.length_singleton, leaveLoop_of_link_nil hl5]
  rw [hleave]
  refine ⟨(h3.trans h4).trans h5, ?_⟩
  have hday : s2.day = s.day := by rw [h3.1]
  rw [hq5, hday, ← hE]

end Sys2Proof.Machine
end

section
/-! SUPPORT. A read at the head of a class queue, from its port to the queue of its channel (R112, R190 to R192), and obligation O13. -/

namespace Sys2Proof.Machine

/-- RD64 or RD128 (R102). -/
abbrev Req.IsRead (r : Req) : Prop := r.opc = 0x01 ∨ r.opc = 0x02

section
variable {r : Req} (hr : r.IsRead)
include hr

theorem kindOf_read : kindOf r.opc = .read := by
  obtain h | h := hr <;> simp [kindOf, h]

theorem chan_read : r.chan = some (chanOf r.f.addr.toNat) := by
  simp [Req.chan, kindOf_read hr]

theorem effOpc_read : effOpc r.opc r.f = r.opc := by
  obtain h | h := hr <;> simp [effOpc, h]

theorem reqOp_read : reqOp r.opc r.f = .read := if_pos hr

theorem reqNeed_read :
    reqNeed r.opc r.f = if r.opc = 0x01 then 1#2 <<< (r.f.addr.toNat / 64 % 2) else 3 := by
  obtain h | h := hr <;> simp [reqNeed, h]

theorem reqNeed_read_ne_zero : reqNeed r.opc r.f ≠ 0 := by
  rw [reqNeed_read hr]
  split
  · obtain h | h := Nat.mod_two_eq_zero_or_one (r.f.addr.toNat / 64) <;> simp [h]
  · decide

theorem rangeLen_read : rangeLen r.opc = if r.opc = 0x01 then 64 else 128 := by
  obtain h | h := hr <;> simp [rangeLen, h, isAtomic]

/-- A read passes the checks of R61 when its stack is this one and its range passes them. -/
theorem headCheck_read {s : State} (hstk : r.f.stack = s.stackId)
    (hadr : addrCheck s r.f.addr.toNat (if r.opc = 0x01 then 64 else 128) = none) : headCheck s r = none := by
  simpa [headCheck, hstk, kindOf_read hr, effOpc_read hr, rangeLen_read hr] using hadr

/-- Only a FENCE received earlier holds a read (R120). -/
theorem orderHolds_read {x : Port} (hf : ∀ y ∈ x.fr.tags, y.2.kind ≠ .fence) : orderHolds x r = false := by
  have hfence : fenceHolds x r.arr = false := by
    simp only [fenceHolds, List.any_eq_false]
    intro y hy
    simp [hf y hy]
  simp [orderHolds, hfence, kindOf_read hr]

/-- The head of class queue `c` is ready when no check, order, budget or hold keeps it (R191). -/
theorem headReady_read {s : State} {p c : Nat} (hq : tget [] (s.port p).fr.cq c = [r]) (hchk : headCheck s r = none)
    (hf : ∀ y ∈ (s.port p).fr.tags, y.2.kind ≠ .fence) (hb : budgetsAdmit s.sec p c = true)
    (hh : holdsClass s.sec (s.chan (chanOf r.f.addr.toNat)).q c = false) : headReady s p c = some r := by
  simp [headReady, hq, hchk, orderHolds_read hr hf, hb, chan_read hr, hh]

end

/-- A source has the turn at a channel when no offer there is of a higher class, and none of its class stands nearer (R192). -/
theorem winsOver_of_forall {s : State} {ch src c : Nat} {offers : List (Nat × Nat)}
    (h : ∀ o ∈ offers, o.2 < c ∨ (o.2 = c ∧ turnKey s ch src ≤ turnKey s ch o.1)) : winsOver s ch src c offers = true := by
  simpa [winsOver] using h

/-- The port has the turn when no higher class of it can commit, and the channel's turn is its (R192). -/
theorem portTurn_of {s : State} {p c ch : Nat} (hup : ∀ d < 7, c < d → headReady s p d = none)
    (ht : winsOver s ch p c (portOffers s ch ++ tenderOffers s 4 ch) = true) : portTurn s p c (some ch) = true := by
  have hlow : ∀ d < 7, d ≤ c ∨ headReady s p d = none := fun d hd =>
    (Nat.lt_or_ge c d).elim (fun h => .inr (hup d hd h)) .inl
  simpa [portTurn, ht] using hlow

/-- The counts, the turn and the place that a committed request takes (R190, R192). -/
def taken (p c t ch stepping : Nat) (s : State) : State :=
  placed p c ch (issueTag p t c stepping (popHead p c s))

/-- The entry of a read that port `p` commits in class `c`. -/
def readEntry (s : State) (p c : Nat) (r : Req) : Entry :=
  { id := 0, src := .port p r.f.tag.toNat, cls := c, guar := s.sec.guar c, chunk := r.f.addr.toNat / 128, op := .read
    need := reqNeed r.opc r.f, low := r.opc = 0x01 || r.opc = 0x04 || isAtomic r.opc, accepted := s.day.tick
    s := if (s.clu (cluOf (chanOf r.f.addr.toNat))).inStep then 1 else 0 }

/-- A read that is ready and has its turn goes to its channel, with what a commit takes taken. -/
theorem commitHead_read {s : State} {p c : Nat} {r : Req} (hr : r.IsRead) (hq : tget [] (s.port p).fr.cq c = [r])
    (hchk : headCheck s r = none) (hready : headReady s p c = some r)
    (hturn : portTurn s p c (some (chanOf r.f.addr.toNat)) = true) :
    let ch := chanOf r.f.addr.toNat
    let b := taken p c r.f.tag.toNat ch (readEntry s p c r).s s
    commitHead p c s = arrive ch (readEntry s p c r) { b with clk := { b.clk with xbarGated := false } } := by
  unfold commitHead
  simp only [hq, hchk, hready, hturn, chan_read hr, kindOf_read hr, effOpc_read hr, reqOp_read hr]
  rfl

/-- What a commit leaves unchanged: all but its port, its channel and the arbiter's state. -/
theorem taken_frame (p c t ch stepping : Nat) (s : State) :
    let b := taken p c t ch stepping s
    b = { s with ports := b.ports, chans := b.chans, sec := b.sec } ∧
      b.ports = (issueTag p t c stepping (popHead p c s)).ports ∧
      b.sec = { s.sec with
        out := tset s.sec.out c (tget 0 s.sec.out c + 1)
        srcOut := tset s.sec.srcOut (8 * p + c) (tget 0 s.sec.srcOut (8 * p + c) + 1)
        commit := tset s.sec.commit c (tget 0 s.sec.commit c + 1)
        turn := tset s.sec.turn ch p, holdCnt := b.sec.holdCnt, evt := b.sec.evt } := by
  intro b
  obtain ⟨h1, h2⟩ := placed_frame p c ch (issueTag p t c stepping (popHead p c s))
  have hp : b.ports = _ := congrArg State.ports h1
  exact ⟨by rw [hp]; exact h1, hp, h2⟩

/-- A commit keeps what waits at every channel, and the integrity units. -/
theorem taken_keeps (p c t ch stepping ch' : Nat) (s : State) :
    let b := taken p c t ch stepping s
    (b.chan ch').q.waiting = (s.chan ch').q.waiting ∧ (b.chan ch').i = (s.chan ch').i := by
  obtain ⟨hq, hi, -⟩ := placed_keeps p c ch ch' (issueTag p t c stepping (popHead p c s))
  exact ⟨hq, hi⟩

theorem taken_port_eq (p c t ch stepping q : Nat) (s : State) :
    (taken p c t ch stepping s).port q = (issueTag p t c stepping (popHead p c s)).port q :=
  congrArg (fun l => tget Port.reset l q) (taken_frame p c t ch stepping s).2.1

/-- The port of a commit: the request has left its class queue and its tag is ISSUED. -/
theorem taken_port (p c t ch stepping : Nat) (s : State) :
    let x := (taken p c t ch stepping s).port p
    tget [] x.fr.cq c = (tget [] (s.port p).fr.cq c).tail ∧ (x.fr.tag t).st = .issued ∧
      x.link = (s.port p).link ∧ x.fr.fenced = (s.port p).fr.fenced := by
  rw [taken_port_eq]
  simp [issueTag, takeCounts, popHead, Frames.tag, Frames.modTag, Frames.fenced, State.port]

/-- No other port changes. -/
theorem taken_port_ne {p q : Nat} (c t ch stepping : Nat) (s : State) (h : q ≠ p) :
    (taken p c t ch stepping s).port q = s.port q := by
  rw [taken_port_eq]
  simp [issueTag, takeCounts, popHead, State.port, tget_tmod_ne, h]

/-- A read that commits to a channel with no other request: what a commit takes is taken, and the entry stands in the channel's queue. -/
theorem commitHead_read_enters {s : State} {p c : Nat} {r : Req} (hr : r.IsRead) (hq : tget [] (s.port p).fr.cq c = [r])
    (hchk : headCheck s r = none) (hready : headReady s p c = some r) (hp : p < 32)
    (hturn : portTurn s p c (some (chanOf r.f.addr.toNat)) = true)
    (hqueue : (s.chan (chanOf r.f.addr.toNat)).q.queue = []) (hlink : (s.chan (chanOf r.f.addr.toNat)).q.link = [])
    (hmerge : (s.chan (chanOf r.f.addr.toNat)).i.merge = []) :
    let ch := chanOf r.f.addr.toNat
    let b := taken p c r.f.tag.toNat ch (readEntry s p c r).s s
    let u := commitHead p c s
    u = { s with ports := b.ports, chans := u.chans, clus := u.clus, sec := b.sec, clk := { s.clk with xbarGated := false } } ∧
      ∃ id, (u.chan ch).q.queue = [{ readEntry s p c r with id := id, entered := s.day.tick }] := by
  intro ch b u
  obtain ⟨hframe, -, -⟩ := taken_frame p c r.f.tag.toNat ch (readEntry s p c r).s s
  obtain ⟨hw, hi⟩ := taken_keeps p c r.f.tag.toNat ch (readEntry s p c r).s ch s
  obtain ⟨hbq, hbl⟩ := Prod.mk.inj hw
  have hu : u = arrive ch (readEntry s p c r) { b with clk := { b.clk with xbarGated := false } } :=
    commitHead_read hr hq hchk hready hturn
  obtain ⟨⟨hon, -⟩, hqe⟩ := arrive_read (s := { b with clk := { b.clk with xbarGated := false } }) (ch := ch) (e := readEntry s p c r)
    (hbq.trans hqueue) (hbl.trans hlink) ((congrArg Integ.merge hi).trans hmerge) rfl (reqNeed_read_ne_zero hr)
    (Nat.lt_trans hp (by decide))
  rw [← hu] at hon hqe
  have hday : b.day = s.day := (congrArg State.day hframe).trans rfl
  have hclk : b.clk = s.clk := (congrArg State.clk hframe).trans rfl
  dsimp only at hqe
  rw [hday] at hqe
  refine ⟨hon.trans ?_, _, hqe⟩
  rw [hclk]
  exact (congrArg (fun x : State => { x with chans := u.chans, clus := u.clus, clk := { s.clk with xbarGated := false } }) hframe).trans rfl

/-- Settles O13: the read is ready and has its turn, and it enters a queue with nothing in its way. -/
theorem readIsCommitted : Obligations.ReadIsCommitted := by
  intro s p c r a ch t hcalm hr hq hstk hadr hf hb hh hup hwin hqueue hlink hmerge
  have hchk := headCheck_read hr hstk hadr
  have hready := headReady_read hr hq hchk hf hb hh
  have hturn := portTurn_of hup (winsOver_of_forall hwin)
  obtain ⟨hu, id, hqe⟩ := commitHead_read_enters hr hq hchk hready p.isLt hturn hqueue hlink hmerge
  set b := taken p.val c.toNat t ch (readEntry s p.val c.toNat r).s s with hb
  set u := commitHead p.val c.toNat s
  obtain ⟨-, -, hsec⟩ := taken_frame p.val c.toNat t ch (readEntry s p.val c.toNat r).s s
  obtain ⟨hcq, htag, hl, hfen⟩ := taken_port p.val c.toNat t ch (readEntry s p.val c.toNat r).s s
  rw [← hb] at hsec hcq htag hl hfen
  have hport : ∀ q, u.port q = b.port q := fun q => by rw [hu]; rfl
  have hother : ∀ q, q ≠ p.val → u.port q = s.port q := fun q h => (hport q).trans (taken_port_ne _ _ _ _ s h)
  have husec : u.sec = b.sec := by rw [hu]
  have hset : settle s u = u := by
    refine settle_calm s u ?_ (by rw [hu]) (fun q => ?_)
    · rw [hu]; exact hcalm
    · by_cases h : q = p.val
      · rw [h, hport, hl, hfen]; exact ⟨rfl, rfl⟩
      · rw [hother q h]; exact ⟨rfl, rfl⟩
  refine ⟨u, congrArg _ hset, ?_, ?_, ?_, ?_, ?_, ?_, ⟨_, hqe, rfl, rfl, rfl, rfl, reqNeed_read hr⟩, ?_, ?_, ?_, hother⟩
  · rw [hport, hcq, hq]; rfl
  · rw [hport]; exact htag
  · rw [husec, hsec]; exact tget_tset_same _ _ _ _
  · rw [husec, hsec]; exact tget_tset_same _ _ _ _
  · rw [husec, hsec]; exact tget_tset_same _ _ _ _
  · rw [husec, hsec]; exact tget_tset_same _ _ _ _
  · rw [hu]
  · rw [hu]
  · rw [hu]

end Sys2Proof.Machine
end

section
/-! SUPPORT. What leaves the Tender part's own state as it is: the end of a command, and an access of the stack to its own memory. -/

namespace Sys2Proof.Machine

@[simp] theorem tnd_ite {c : Prop} [Decidable c] (s t : State) : (if c then s else t).tnd = if c then s.tnd else t.tnd :=
  apply_ite State.tnd c s t

@[simp] theorem tnd_foldl {α : Type} {f : State → α → State} (hf : ∀ s x, (f s x).tnd = s.tnd) (l : List α) (s : State) :
    (l.foldl f s).tnd = s.tnd := by
  induction l generalizing s with
  | nil => rfl
  | cons x l ih => rw [List.foldl_cons, ih, hf]

@[simp] theorem tnd_foldl_fst {α β : Type} {f : State × β → α → State × β} (hf : ∀ a x, (f a x).1.tnd = a.1.tnd)
    (l : List α) (a : State × β) : (l.foldl f a).1.tnd = a.1.tnd := by
  induction l generalizing a with
  | nil => rfl
  | cons x l ih => rw [List.foldl_cons, ih, hf]

@[simp] theorem tnd_captureEv (e : Ev) (s : State) : (captureEv e s).tnd = s.tnd := by simp [captureEv]
@[simp] theorem tnd_emit (e : Ev) (s : State) : (emit e s).tnd = s.tnd := by simp [emit]
@[simp] theorem tnd_fhPulse (n : Nat) (s : State) : (fhPulse n s).tnd = s.tnd := by simp [fhPulse]
@[simp] theorem tnd_msi (v : Nat) (s : State) : (msi v s).tnd = s.tnd := by simp [msi]
@[simp] theorem tnd_allPorts (s : State) (f : Nat → Port → Port) : (State.allPorts s f).tnd = s.tnd := by simp [State.allPorts]
@[simp] theorem tnd_lsEnter (cause : Nat) (s : State) : (lsEnter cause s).tnd = s.tnd := by simp [lsEnter]
@[simp] theorem tnd_collectOne (e : FaultEv) (s : State) : (collectOne e s).tnd = s.tnd := by simp [collectOne]
@[simp] theorem tnd_collectLine (s : State) : (collectLine s).tnd = s.tnd := by simp [collectLine]
@[simp] theorem tnd_chanSleep (doubled : Bool) (ch : Nat) (s : State) : (chanSleep doubled ch s).tnd = s.tnd := by simp [chanSleep]
@[simp] theorem tnd_modSched (s : State) (c : Nat) (f : Sched → Sched) : (State.modSched s c f).tnd = s.tnd := by simp [State.modSched]
@[simp] theorem tnd_chanHalt (doubled : Bool) (ch : Nat) (s : State) : (chanHalt doubled ch s).tnd = s.tnd := by simp [chanHalt]
@[simp] theorem tnd_refreshHolds (ch : Nat) (s : State) : (refreshHolds ch s).tnd = s.tnd := by simp [refreshHolds]
@[simp] theorem tnd_releasePlace (ch c : Nat) (s : State) : (releasePlace ch c s).tnd = s.tnd := by simp [releasePlace]
@[simp] theorem tnd_leaveOnce (ch : Nat) (s : State) : (leaveOnce ch s).tnd = s.tnd := by simp [leaveOnce]
@[simp] theorem tnd_modInteg (s : State) (c : Nat) (f : Integ → Integ) : (State.modInteg s c f).tnd = s.tnd := by simp [State.modInteg]
@[simp] theorem tnd_putCells (p : Nat) (data chk : List (BitVec 8)) (s : State) : (putCells p data chk s).tnd = s.tnd := by simp [putCells]
@[simp] theorem tnd_putGran (g : Nat) (v : Option (List (BitVec 8))) (s : State) : (putGran g v s).tnd = s.tnd := by simp [putGran]
@[simp] theorem tnd_busAccess (g : Nat) (rd : Bool) (s : State) : (busAccess g rd s).tnd = s.tnd := by simp [busAccess]
@[simp] theorem tnd_wake (ch : Nat) (s : State) : (wake ch s).tnd = s.tnd := by simp [wake]
@[simp] theorem tnd_ownColumn (g : Nat) (rd : Bool) (s : State) : (ownColumn g rd s).tnd = s.tnd := by simp [ownColumn]
@[simp] theorem tnd_ownWrite (g : Nat) (v : Option (List (BitVec 8))) (s : State) : (ownWrite g v s).tnd = s.tnd := by simp [ownWrite]
@[simp] theorem tnd_ownCommit (s : State) : (ownCommit s).tnd = s.tnd := by simp [ownCommit]

@[simp] theorem tnd_mergeClose (ch : Nat) (m : MergeE) (s : State) : (mergeClose ch m s).tnd = s.tnd := by
  unfold mergeClose
  dsimp only
  split <;> simp

@[simp] theorem tnd_mergeEnd (ch : Nat) (m : MergeE) (s : State) : (mergeEnd ch m s).tnd = s.tnd := by simp [mergeEnd]

@[simp] theorem tnd_mergeRoom (ch : Nat) (s : State) : (mergeRoom ch s).tnd = s.tnd := by
  unfold mergeRoom
  dsimp only
  split <;> simp

@[simp] theorem tnd_settleGran (fuel ch g : Nat) (s : State) : (settleGran fuel ch g s).tnd = s.tnd := by
  induction fuel generalizing s with
  | zero => rfl
  | succ fuel ih =>
    unfold settleGran
    dsimp only
    repeat' split
    all_goals simp [ih]

@[simp] theorem tnd_settleRoom (fuel ch : Nat) (s : State) : (settleRoom fuel ch s).tnd = s.tnd := by
  induction fuel generalizing s with
  | zero => rfl
  | succ fuel ih =>
    unfold settleRoom
    dsimp only
    repeat' split
    all_goals simp [ih]

@[simp] theorem tnd_settleOn (ch g : Nat) (s : State) : (settleOn ch g s).tnd = s.tnd := by simp [settleOn]
@[simp] theorem tnd_settleChunk (ch chunk : Nat) (s : State) : (settleChunk ch chunk s).tnd = s.tnd := by simp [settleChunk]
@[simp] theorem tnd_enqueue (ch : Nat) (e : Entry) (s : State) : (enqueue ch e s).tnd = s.tnd := by simp [enqueue]

@[simp] theorem tnd_admitLink (fuel ch : Nat) (s : State) : (admitLink fuel ch s).tnd = s.tnd := by
  induction fuel generalizing s with
  | zero => rfl
  | succ fuel ih =>
    unfold admitLink
    split
    · rfl
    · simp [ih]

@[simp] theorem tnd_leaveLoop (fuel ch : Nat) (s : State) : (leaveLoop fuel ch s).tnd = s.tnd := by
  induction fuel generalizing s with
  | zero => rfl
  | succ fuel ih =>
    unfold leaveLoop
    dsimp only
    repeat' split
    all_goals simp [ih]

@[simp] theorem tnd_leaveQueue (ch : Nat) (s : State) : (leaveQueue ch s).tnd = s.tnd := by simp [leaveQueue]
@[simp] theorem tnd_endRequests (ch : Nat) (how : Fin_) (keep : Entry → Bool) (s : State) :
    (endRequests ch how keep s).tnd = s.tnd := by simp [endRequests]
@[simp] theorem tnd_mergeFlush (ch : Nat) (s : State) : (mergeFlush ch s).tnd = s.tnd := by simp [mergeFlush]

@[simp] theorem tnd_raiseInj (src inst : Nat) (c : Cls) (detail : BitVec 64) (inj : Bool) (s : State) :
    (raiseInj src inst c detail inj s).tnd = s.tnd := by simp [raiseInj]

@[simp] theorem tnd_raise (src inst : Nat) (c : Cls) (detail : BitVec 64) (s : State) :
    (raise src inst c detail s).tnd = s.tnd := by simp [raise]
@[simp] theorem tnd_parityAlert (ch d : Nat) (inj : Bool) (s : State) : (parityAlert ch d inj s).tnd = s.tnd := by simp [parityAlert]

@[simp] theorem tnd_raiseDue (ch : Nat) (s : State) : (raiseDue ch s).tnd = s.tnd := by
  unfold raiseDue
  split <;> simp

@[simp] theorem tnd_injUse (s : State) : (injUse s).tnd = s.tnd := by simp [injUse]
@[simp] theorem tnd_dccRecord (ch : Nat) (c : Cls) (detail : BitVec 64) (count : Nat) (s : State) :
    (dccRecord ch c detail count s).tnd = s.tnd := by simp [dccRecord]
@[simp] theorem tnd_countUE (g : Nat) (inj : Bool) (s : State) : (countUE g inj s).tnd = s.tnd := by simp [countUE]

@[simp] theorem tnd_countCE (g : Nat) (fix : List (Nat × BitVec 8)) (inj : Bool) (s : State) : (countCE g fix inj s).tnd = s.tnd := by
  unfold countCE
  dsimp only
  repeat' split
  all_goals simp

@[simp] theorem tnd_decodeGran (g : Nat) (errs : List (Nat × BitVec 8)) (fill : Bool) (s : State) :
    (decodeGran g errs fill s).1.tnd = s.tnd := by
  unfold decodeGran
  dsimp only
  repeat' split
  all_goals simp

@[simp] theorem tnd_scrubGran (again : Bool) (g : Nat) (errs : List (Nat × BitVec 8)) (s : State) :
    (scrubGran again g errs s).tnd = s.tnd := by
  unfold scrubGran
  dsimp only
  split <;> simp

@[simp] theorem tnd_copyGran (g dst : Nat) (errs : List (Nat × BitVec 8)) (s : State) : (copyGran g dst errs s).tnd = s.tnd := by
  unfold copyGran
  dsimp only
  split <;> simp

@[simp] theorem tnd_moveGran (ch g n : Nat) (errs : List (Nat × BitVec 8)) (s : State) : (moveGran ch g n errs s).tnd = s.tnd := by
  unfold moveGran
  dsimp only
  split <;> simp

@[simp] theorem tnd_scrubLand (ch : Nat) (j : ScrubJob) (errs : List SymErr) (s : State) : (scrubLand ch j errs s).tnd = s.tnd := by
  unfold scrubLand
  cases j with
  | rewrite g d =>
    dsimp only
    split <;> simp
  | visit g => simp
  | reread g => simp
  | move g n => simp
  | pointer p => exact tnd_foldl (fun t i => by split <;> simp) _ _

@[simp] theorem tnd_closeDue (ch : Nat) (s : State) : (closeDue ch s).tnd = s.tnd := by simp [closeDue]

@[simp] theorem tnd_fillReturn (ch g : Nat) (errs : List (Nat × BitVec 8)) (s : State) : (fillReturn ch g errs s).tnd = s.tnd := by
  unfold fillReturn
  split
  · rfl
  · split
    · rfl
    · extract_lets r s1 fill s2 waits s3
      have h2 : s2.tnd = s.tnd := by simp [s2, s1, r]
      have h3 : s3.tnd = s.tnd := by
        unfold s3
        split
        · exact (tnd_foldl (fun t e => by split <;> simp) _ _).trans h2
        · exact h2
      simp [h3]

theorem tnd_drainTo {pa : Nat} {v : Word64} {s t : State} {n : Nat} (hd : drainTo pa v s = some (t, n)) : t.tnd = s.tnd := by
  unfold drainTo at hd
  extract_lets ch g b s1 r at hd
  have h1 : s1.tnd = s.tnd := by
    unfold s1
    repeat' split
    all_goals simp
  have hr : r.1.tnd = s.tnd := by simp [r, h1]
  split at hd
  · cases hd; rfl
  · split at hd
    · cases hd
    · split at hd
      · split at hd
        · obtain ⟨rfl, -⟩ := Prod.mk.inj (Option.some.inj hd)
          dsimp only
          split <;> simp [h1]
        · obtain ⟨rfl, -⟩ := Prod.mk.inj (Option.some.inj hd)
          exact h1
        · cases hd
      · split at hd
        · obtain ⟨rfl, -⟩ := Prod.mk.inj (Option.some.inj hd)
          simpa using hr
        · obtain ⟨rfl, -⟩ := Prod.mk.inj (Option.some.inj hd)
          exact hr

@[simp] theorem tnd_takeData (ch : Nat) (r : State × GranRes) (g : Nat) (e : Entry) (s : State) (hr : r.1.tnd = s.tnd) :
    (takeData ch r g e s).tnd = s.tnd := by
  unfold takeData
  dsimp only
  split
  · split
    · simp [hr]
    · split
      · rfl
      · simp [hr, tnd_drainTo ‹_›]
      · simp [hr, tnd_drainTo ‹_›]
  · simp [hr]

@[simp] theorem tnd_serveGran (ch chunk g : Nat) (errs : List (Nat × BitVec 8)) (s : State) :
    (serveGran ch chunk g errs s).tnd = s.tnd := by
  unfold serveGran
  repeat' split
  all_goals simp

@[simp] theorem tnd_writePart (ch : Nat) (e : Entry) (g : Nat) (s : State) : (writePart ch e g s).1.tnd = s.tnd := by
  unfold writePart
  split <;> simp

@[simp] theorem tnd_landOne (ch : Nat) (s : State) (f : Flight) : (landOne ch s f).tnd = s.tnd := by
  unfold landOne
  extract_lets s1
  have h1 : s1.tnd = s.tnd := by simp [s1]
  split
  · exact h1
  · split
    · simp [h1]
    · split
      · exact (tnd_foldl (fun t i => by split <;> simp) _ _).trans h1
      · split
        · exact h1
        · simp [h1]

@[simp] theorem tnd_land (ch : Nat) (s : State) : (land ch s).tnd = s.tnd := by simp [land]

@[simp] theorem tnd_scrubTake (ch : Nat) (p : Pick) (s : State) : (scrubTake ch p s).tnd = s.tnd := by
  unfold scrubTake
  repeat' split
  all_goals simp

@[simp] theorem tnd_blockCheck (ch b : Nat) (s : State) : (blockCheck ch b s).tnd = s.tnd := by simp [blockCheck]

@[simp] theorem tnd_columnIssue (ch b col : Nat) (rd : Bool) (errs : List SymErr) (job : Option ScrubJob) (s : State) :
    (columnIssue ch b col rd errs job s).tnd = s.tnd := by
  unfold columnIssue
  dsimp only
  split <;> simp

@[simp] theorem tnd_reissue (ch : Nat) (i : Issued) (s : State) : (reissue ch i s).tnd = s.tnd := by
  unfold reissue
  split <;> simp

@[simp] theorem tnd_issue (ch : Nat) (p : Pick) (s : State) : (issue ch p s).tnd = s.tnd := by
  unfold issue
  dsimp only
  repeat' split
  all_goals simp

@[simp] theorem tnd_recover (fuel ch : Nat) (s : State) : (recover ch fuel s).tnd = s.tnd := by
  induction fuel generalizing s with
  | zero => rfl
  | succ fuel ih =>
    unfold recover
    dsimp only
    repeat' split
    all_goals simp [ih]

@[simp] theorem tnd_stopChannel (doubled : Bool) (ch : Nat) (s : State) : (stopChannel doubled ch s).tnd = s.tnd := by simp [stopChannel]

@[simp] theorem tnd_lsControllers (s : State) : (lsControllers s).tnd = s.tnd := by
  unfold lsControllers
  extract_lets s1 s2
  have h1 : s1.tnd = s.tnd := tnd_foldl (fun t c => tnd_stopChannel true c t) _ _
  have h2 : s2.tnd = s1.tnd := tnd_foldl (fun t k => State.modClu_tnd t k _) _ _
  rw [tnd_allPorts, h2, h1]

@[simp] theorem tnd_collectPass (s : State) : (collectPass s).tnd = s.tnd := by
  unfold collectPass
  split <;> simp

@[simp] theorem tnd_collect (s : State) : (collect s).tnd = s.tnd := by simp [collect]
@[simp] theorem tnd_readyRecords (old : BitVec 48) (s : State) : (readyRecords old s).tnd = s.tnd := by simp [readyRecords]
@[simp] theorem tnd_capTrack (old : BitVec 16) (s : State) : (capTrack old s).tnd = s.tnd := by simp [capTrack]

@[simp] theorem tnd_settle (s0 s : State) : (settle s0 s).tnd = s.tnd := by
  unfold settle
  dsimp only
  split <;> simp

@[simp] theorem tnd_takeCounts (src c : Nat) (s : State) : (takeCounts src c s).tnd = s.tnd := by simp [takeCounts]
@[simp] theorem tnd_landAll (ch : Nat) (s : State) : (landAll ch s).tnd = s.tnd := by simp [landAll]

@[simp] theorem tnd_columnNow (ch g : Nat) (rd : Bool) (s : State) : (columnNow ch g rd s).tnd = s.tnd := by
  unfold columnNow
  dsimp only
  split <;> simp

@[simp] theorem tnd_drainGran (fuel ch g : Nat) (s : State) : (drainGran fuel ch g s).tnd = s.tnd := by
  induction fuel generalizing s with
  | zero => rfl
  | succ fuel ih =>
    unfold drainGran
    dsimp only
    repeat' split
    all_goals simp [ih]

@[simp] theorem tnd_drainOn (ch g : Nat) (s : State) : (drainOn ch g s).tnd = s.tnd := by simp [drainOn]
@[simp] theorem tnd_takePlace (ch c : Nat) (s : State) : (takePlace ch c s).tnd = s.tnd := by simp [takePlace]
@[simp] theorem tnd_releaseCounts (src c : Nat) (s : State) : (releaseCounts src c s).tnd = s.tnd := by simp [releaseCounts]

@[simp] theorem tnd_ownAccess {α : Type} (o : Own) (g : Nat) (f : State → State × α) (s : State) (hf : ∀ t, (f t).1.tnd = t.tnd) :
    (ownAccess o g f s).1.tnd = s.tnd := by
  unfold ownAccess
  dsimp only
  split <;> simp [hf]

@[simp] theorem tnd_takeGran (rdc : Bool) (g : Nat) (s : State) : (takeGran rdc g s).1.tnd = s.tnd := by
  unfold takeGran
  dsimp only
  repeat' split
  all_goals simp

@[simp] theorem tnd_peekGran (o : Own) (g : Nat) (s : State) : (peekGran o g s).1.tnd = s.tnd := by
  unfold peekGran
  split <;> simp

@[simp] theorem tnd_walkRead (o : Own) (s : State) (a : Nat) : (walkRead o s a).1.tnd = s.tnd := by
  unfold walkRead
  dsimp only
  repeat' split
  all_goals simp

end Sys2Proof.Machine
end

section
/-! SUPPORT. The walks of the page tables in progress, and what a walk that ends leaves of them (R259, R260). -/

namespace Sys2Proof.Machine

theorem walks_modTnd_tlb (s : State) (f : Tnd → List TlbE) : (s.modTnd (fun x => { x with tlb := f x })).tnd.walks = s.tnd.walks := rfl

/-- An entry read is cached; the walks in progress stay (R259). -/
theorem walks_tlbAdd (asid l va : Nat) (e : BitVec 64) (s : State) : (tlbAdd asid l va e s).tnd.walks = s.tnd.walks := by
  unfold tlbAdd
  exact walks_modTnd_tlb s _

theorem walks_walkFrom (o : Own) (asid va level base : Nat) (s : State) :
    (walkFrom o asid va level base s).1.tnd.walks = s.tnd.walks := by
  induction level generalizing s base with
  | zero => rfl
  | succ level ih =>
    unfold walkFrom
    extract_lets l r
    have hr : r.1.tnd = s.tnd := by
      unfold r
      split
      · rfl
      · exact tnd_walkRead _ _ _
    repeat' split
    all_goals simp [ih, walks_tlbAdd, hr]

theorem walks_doWalk (o : Own) (asid va : Nat) (s : State) : (doWalk o asid va s).1.tnd.walks = s.tnd.walks := by
  unfold doWalk
  dsimp only
  repeat' split
  all_goals simp [walks_walkFrom]

/-- What a walk's end does to the elements that waited for it changes neither the walks in progress nor the cached entries. -/
theorem walksTlb_foldl {α : Type} {f : State → α → State}
    (hf : ∀ s x, (f s x).tnd.walks = s.tnd.walks ∧ (f s x).tnd.tlb = s.tnd.tlb) (l : List α) (s : State) :
    (l.foldl f s).tnd.walks = s.tnd.walks ∧ (l.foldl f s).tnd.tlb = s.tnd.tlb := by
  induction l generalizing s with
  | nil => exact ⟨rfl, rfl⟩
  | cons x l ih => exact ⟨(ih _).1.trans (hf s x).1, (ih _).2.trans (hf s x).2⟩

/-- A walk that some element waited for is over, with the entries it read cached. -/
theorem walkComplete_of_walkers {s s' : State} {asid vpn : Nat} {x : Nat × Res × El} {rest : List (Nat × Res × El)}
    {res : Except XFail Unit} (hw : (asid, vpn) ∈ s.tnd.walks) (hws : walkers s asid vpn = x :: rest)
    (hd : doWalk (.tender x.1 x.2.1.ctx.cls) asid (vpn * 4096) s = (s', some res)) :
    (walkComplete asid vpn s).tnd.walks = s.tnd.walks.erase (asid, vpn) ∧ (walkComplete asid vpn s).tnd.tlb = s'.tnd.tlb := by
  have hs' : s'.tnd.walks = s.tnd.walks := by
    have := walks_doWalk (.tender x.1 x.2.1.ctx.cls) asid (vpn * 4096) s
    rwa [hd] at this
  obtain ⟨t, r, e⟩ := x
  unfold walkComplete
  rw [if_neg (by simpa using hw), hws]
  dsimp only at hd ⊢
  rw [hd]
  dsimp only
  refine And.imp (fun h => h.trans ?_) (fun h => h.trans ?_) (walksTlb_foldl ?_ _ _)
  · intro u y
    cases res <;> exact ⟨rfl, rfl⟩
  · exact congrArg (fun w => w.erase (asid, vpn)) hs'
  · rfl

/-- A walk that no element waits for ends without a read. -/
theorem walkComplete_of_no_walkers {s : State} {asid vpn : Nat} (hw : (asid, vpn) ∈ s.tnd.walks) (hws : walkers s asid vpn = []) :
    walkComplete asid vpn s = { s with tnd := { s.tnd with walks := s.tnd.walks.erase (asid, vpn) } } := by
  unfold walkComplete
  rw [if_neg (by simpa using hw), hws]
  rfl

end Sys2Proof.Machine
end

section
/-! SUPPORT. A stream's one element: its issue, and its end (R215, R238, R256, R260), and obligation O48. -/

namespace Sys2Proof.Machine

/-! ### The context cache of a cluster -/

theorem res_modRes_single {s : State} {k : Nat} {r : Res} (hres : (s.tclu k).res = [r]) (f : Res → Res) :
    ((modRes k r.stream f s).tclu k).res = [f r] := by
  simp [modRes, hres]

/-- A change of the entry of stream `n` where it is resident. -/
theorem resident_modRes {s : State} {n k : Nat} {r : Res} (hr : resident s n = some (k, r)) {f : Res → Res}
    (hf : ∀ x, (f x).stream = x.stream) : resident (modRes k n f s) n = some (k, f r) := by
  have hfind : ∀ t, ((modRes k n f s).tclu t).res.find? (fun x => x.stream = n) =
      ((s.tclu t).res.find? (fun x => x.stream = n)).map (fun x => if t = k then f x else x) := by
    intro t
    by_cases ht : t = k
    · have hstream : ∀ x : Res, (if x.stream = n then f x else x).stream = x.stream := fun x => by split <;> simp [hf]
      subst ht
      simp only [modRes, State.tclu_modTclu, if_pos, List.find?_map, Function.comp_def, hstream]
      refine Option.map_congr fun x hx => ?_
      rw [if_pos (by simpa using List.find?_some hx)]
    · simp [modRes, ht]
  have hall : resident (modRes k n f s) n = (resident s n).map (fun y => (y.1, if y.1 = k then f y.2 else y.2)) := by
    simp only [resident, hfind, List.map_findSome?, Option.map_map, Function.comp_def]
  rw [hall, hr]
  simp

/-- A change of a cluster that leaves its context cache. -/
theorem resident_modTclu (s : State) (n k : Nat) {f : TndClu → TndClu} (hf : ∀ u, (f u).res = u.res) :
    resident (s.modTclu k f) n = resident s n := by
  have h : ∀ t, ((s.modTclu k f).tclu t).res = (s.tclu t).res := fun t => by
    rw [State.tclu_modTclu]
    split
    · subst t; exact hf _
    · rfl
  simp only [resident, h]

/-! ### The one element of a cluster that is to be issued -/

section
variable {s : State} {k : Nat} {r : Res} {u : Run} {e : El}

theorem issueOrder_single {c : TndClu} (hres : c.res = [r]) (hst : r.ctx.state = sRUNNING) : issueOrder c = [r] := by
  simp [issueOrder, hres, hst, sortBy, insertBy]

theorem nextEl_single (hrun : r.run = some u) (hels : u.els = [e]) (hw : e.st = .want) : r.nextEl = some (e, false) := by
  simp [Res.nextEl, hrun, hels, hw, sortBy, insertBy, held]

/-- The cluster issues the element, and its stream has had the turn of its class (R238). -/
theorem elementIssue_single {v : State} (hready : tndReady s k = true) (hres : (s.tclu k).res = [r]) (hst : r.ctx.state = sRUNNING)
    (hrun : r.run = some u) (hels : u.els = [e]) (hw : e.st = .want) (hv : issueEl k r.stream r.ctx u e s = some v) :
    elementIssue k s = v.modTclu k (fun u => { u with turns := tset u.turns r.ctx.cls r.stream }) := by
  have hstream : issueStream k s r = some v := by
    simp only [issueStream, hrun, nextEl_single hrun hels hw]
    exact hv
  simp [elementIssue, hready, issueOrder_single hres hst, hstream]

/-- An element without a cached translation starts the walk of its page and waits for it (R260). -/
theorem issueEl_starts_walk {n : Nat} {c : Ctx} (hx : xlate s c.asid e.acc.va e.acc.needW false = none)
    (hno : (c.asid, e.acc.va / 4096) ∉ s.tnd.walks) (hlen : s.tnd.walks.length < 32) :
    issueEl k n c u e s = some (modRes k n (fun r => { r with run := r.run.map (Run.put { e with st := .walk (e.acc.va / 4096) }) })
      (s.modTnd (fun x => { x with walks := x.walks ++ [(c.asid, e.acc.va / 4096)] }))) := by
  simp [issueEl, hx, startWalk, hno, hlen]

theorem put_single (hels : u.els = [e]) {f : El} (hi : f.i = e.i) : Run.put f u = { u with els := [f] } := by
  simp [Run.put, hels, hi]

/-- The element has no other in flight, so its cluster is under its limit (R242). -/
theorem mayCommit_single {pa : Nat} (hres : (s.tclu k).res = [r]) (hrun : r.run = some u) (hels : u.els = [e]) (hw : e.st = .want)
    (hclu : s.cluReady (cluOf (chanOf pa)) = true) (hb : budgetsAdmit s.sec (32 + k) r.ctx.cls = true)
    (hh : holdsClass s.sec (s.chan (chanOf pa)).q r.ctx.cls = false) : mayCommit s k r.ctx.cls pa = true := by
  have hout : outstanding s k = 0 := by simp [outstanding, hres, hrun, hels, El.sent, hw]
  simp [mayCommit, hclu, hb, hh, hout]

/-- The entry of a read of element `e` of stream `n` at address `pa`. -/
def elEntry (s : State) (k n c : Nat) (e : El) (pa : Nat) : Entry :=
  { id := 0, src := .tender k n e.i, cls := c, guar := s.sec.guar c, chunk := pa / 128, op := .read, need := 1#2 <<< (pa / 64 % 2)
    accepted := s.day.tick, s := if (s.clu (cluOf (chanOf pa))).inStep then 1 else 0 }

/-- The cluster's state when element `e` of stream `n` has been committed, its counts and its place taken. -/
def elTaken (s : State) (k n c : Nat) (e : El) (pa : Nat) : State :=
  placed (32 + k) c (chanOf pa) (takeCounts (32 + k) c (modRes k n (fun r => { r with
    run := r.run.map (Run.put { e with st := .out, pa := pa }) }) { s with clk := { s.clk with xbarGated := false } }))

/-- A read whose translation is cached is committed to its channel when its class and its turn let it (R191, R192). -/
theorem issueEl_commits_read {n : Nat} {c : Ctx} {va m pa : Nat} (hacc : e.acc = .read va m)
    (hx : xlate s c.asid va false false = some (.ok (.local_ pa))) (hret : retiredAt s pa = false)
    (hmay : mayCommit s k c.cls pa = true)
    (hwin : winsOver s (chanOf pa) (32 + k) c.cls (portOffers s (chanOf pa) ++ tenderOffers s k (chanOf pa)) = true) :
    issueEl k n c u e s = some (arrive (chanOf pa) (elEntry s k n c.cls e pa) (elTaken s k n c.cls e pa)) := by
  have hgo : issueEl k n c u e s = commitLocal k n c u e pa 0 s := by
    simp [issueEl, hacc, TAcc.va, TAcc.needW, hx, hret]
  have hpart : partner u e = none := by simp [partner, hacc]
  have hturn : (!mayCommit { s with clk := { s.clk with xbarGated := false } } k c.cls pa ||
      !winsOver { s with clk := { s.clk with xbarGated := false } } (chanOf pa) (32 + k) c.cls
        (portOffers { s with clk := { s.clk with xbarGated := false } } (chanOf pa) ++
          tenderOffers { s with clk := { s.clk with xbarGated := false } } k (chanOf pa))) = false := by
    rw [Bool.or_eq_false_iff, Bool.not_eq_false', Bool.not_eq_false']
    exact ⟨hmay, hwin⟩
  have hkeep : ({ e with st := .out, pa := pa } : El) = { e with st := .out, acc := .read va m, pa := pa } := by rw [← hacc]
  rw [hgo, elTaken, hkeep]
  unfold commitLocal
  simp only [hturn, hpart, Bool.false_eq_true, if_false, Nat.sub_self, Nat.sub_zero, hacc, TAcc.toOp]
  rfl

/-- What the commit of an element leaves unchanged, and what it takes (R190, R192). -/
theorem elTaken_frame (s : State) (k n c : Nat) (e : El) (pa : Nat) :
    let b := elTaken s k n c e pa
    b = { s with clk := { s.clk with xbarGated := false }, chans := b.chans, sec := b.sec, tnd := b.tnd } ∧
      b.sec.out = tset s.sec.out c (tget 0 s.sec.out c + 1) ∧ b.sec.turn = tset s.sec.turn (chanOf pa) (32 + k) := by
  obtain ⟨h1, h2⟩ := placed_frame (32 + k) c (chanOf pa) (takeCounts (32 + k) c (modRes k n (fun r => { r with
    run := r.run.map (Run.put { e with st := .out, pa := pa }) }) { s with clk := { s.clk with xbarGated := false } }))
  intro b
  have htnd : b.tnd = _ := congrArg State.tnd h1
  exact ⟨by rw [htnd]; exact h1, (congrArg Sec.out h2).trans rfl, (congrArg Sec.turn h2).trans rfl⟩

/-- It keeps what waits at every channel and the integrity units, and every other channel whole. -/
theorem elTaken_keeps (s : State) (k n c : Nat) (e : El) (pa ch : Nat) :
    let b := elTaken s k n c e pa
    (b.chan ch).q.waiting = (s.chan ch).q.waiting ∧ (b.chan ch).i = (s.chan ch).i ∧ (ch ≠ chanOf pa → b.chan ch = s.chan ch) :=
  placed_keeps (32 + k) c (chanOf pa) ch _

/-- The need of a read of eight bytes: the granule it lies in. -/
theorem granBit_ne_zero (pa : Nat) : 1#2 <<< (pa / 64 % 2) ≠ 0 := by
  obtain h | h := Nat.mod_two_eq_zero_or_one (pa / 64) <;> simp [h]

/-- A read of an element that commits to a channel with no other request stands in the queue of that channel. -/
theorem elRead_enters {n c pa : Nat} (hk : k < 4) (hqueue : (s.chan (chanOf pa)).q.queue = [])
    (hlink : (s.chan (chanOf pa)).q.link = []) (hmerge : (s.chan (chanOf pa)).i.merge = []) :
    let b := elTaken s k n c e pa
    let t := arrive (chanOf pa) (elEntry s k n c e pa) b
    t = { s with clk := { s.clk with xbarGated := false }, chans := t.chans, clus := t.clus, sec := b.sec, tnd := b.tnd } ∧
      (∀ c', c' ≠ chanOf pa → t.chan c' = s.chan c') ∧
      ∃ id, (t.chan (chanOf pa)).q.queue = [{ elEntry s k n c e pa with id := id, entered := s.day.tick }] := by
  intro b t
  obtain ⟨hframe, -, -⟩ := elTaken_frame s k n c e pa
  obtain ⟨hw, hi, -⟩ := elTaken_keeps s k n c e pa (chanOf pa)
  obtain ⟨hbq, hbl⟩ := Prod.mk.inj hw
  have hlt : (elEntry s k n c e pa).src.xlink (chanOf pa) < 49 := by
    change 32 + 4 * k + chanOf pa % 4 < 49
    omega
  obtain ⟨⟨hon, hother⟩, hqe⟩ := arrive_read (e := elEntry s k n c e pa) (hbq.trans hqueue) (hbl.trans hlink)
    ((congrArg Integ.merge hi).trans hmerge) rfl (granBit_ne_zero pa) hlt
  have hday : (elTaken s k n c e pa).day = s.day := (congrArg State.day hframe).trans rfl
  rw [hday] at hqe
  have hkeep : ∀ c', c' ≠ chanOf pa → b.chan c' = s.chan c' := fun c' hc => by
    obtain ⟨-, -, hne⟩ := elTaken_keeps s k n c e pa c'
    exact hne hc
  refine ⟨hon.trans ?_, fun c' hc => (hother c' hc).trans (hkeep c' hc), _, hqe⟩
  exact (congrArg (fun x : State => { x with chans := t.chans, clus := t.clus }) hframe).trans rfl

end

/-! ### The end of a completed write -/

/-- A context-cache entry whose element `e` has been applied (R215, R256). -/
def Res.withApplied (d : Desc) (e : El) (r : Res) : Res :=
  { r with dirty := true, run := r.run.map (Run.drop e.i)
           ctx := r.ctx.applied d e.i e.skip (if d.op = 8 then !e.skip else true) e.flags }

theorem withApplied_eq (d : Desc) (e : El) : Res.withApplied d e = fun r => { r with
    dirty := true, run := r.run.map (Run.drop e.i)
    ctx := r.ctx.applied d e.i e.skip (if d.op = 8 then !e.skip else true) e.flags } := rfl

theorem stream_withApplied (d : Desc) (e : El) (r : Res) : (r.withApplied d e).stream = r.stream := rfl

/-- An element whose target has been written and that no other element rides on is applied alone. -/
theorem elApplied_alone {s : State} {k n : Nat} {r : Res} {u : Run} {e : El} (hr : resident s n = some (k, r)) (hrun : r.run = some u)
    (halone : u.els.filter (fun f => f.st == .ride e.i) = []) (hi : e.i < (Desc.of r.ctx.dcopy).count) (hph : e.ph = .dst) :
    elApplied k n e false 0 s = (modRes k n (Res.withApplied (Desc.of r.ctx.dcopy) e) s).modTclu k (fun c =>
      { c with elem := c.elem + 1, skip := satAdd c.skip (([e].filter (·.skip)).length) }) := by
  unfold elApplied
  rw [hr, withApplied_eq]
  dsimp only
  rw [if_neg (Nat.not_le.2 hi)]
  by_cases h8 : (Desc.of r.ctx.dcopy).op = 8
  · simp [hrun, halone, hph, h8]
  · simp [hrun, halone, hph, h8]

/-- The end of a write that was performed without fault: taken from the channel, and its element applied (R215). Counts and a late
mark stand in the tick's and the arbiter's state. -/
theorem elementApplied_write {s : State} {n i c k : Nat} {dn : Done} {r : Res} {u : Run} {e : El} (hdone : doneOf s n i = some (c, k, dn))
    (hhow : dn.how = .performed) (hpois : dn.e.poisonBits = 0) (hreg : dn.e.badRegion = false) (href : dn.e.refused = 0)
    (hr : resident s n = some (k, r)) (hrun : r.run = some u) (hfind : u.els.find? (fun e => e.i = i && e.st == .out) = some e)
    (hph : e.ph = .dst) (hwr : ∃ va b p, e.acc = .write va b p) (hi : e.i < (Desc.of r.ctx.dcopy).count) :
    ∃ v : State, v = { s.modSched c (fun q => { q with done := q.done.erase dn }) with day := v.day, sec := v.sec } ∧
      elementApplied n i s = elApplied k n { e with flags := e.flags ||| dn.e.flags } false 0
        (v.modTclu k (fun x => { x with bytes := x.bytes + e.acc.writes })) := by
  obtain ⟨va, b, p, hwr⟩ := hwr
  have hbytes : movedBytes e dn.e = e.acc.writes := by simp [movedBytes, hwr, TAcc.reads, hpois, hreg, href]
  have hends : ∀ t, elEnds k n r (Desc.of r.ctx.dcopy) e dn.e t =
      elApplied k n { e with flags := e.flags ||| dn.e.flags } false 0 t := by
    intro t
    simp [elEnds, hreg, href, hpois, hwr, elDone, hph, Nat.not_le.2 hi]
  have hres : resident (releaseCounts (32 + k) dn.e.cls (s.modSched c (fun q => { q with done := q.done.erase dn }))) n = some (k, r) := hr
  unfold elementApplied
  rw [hdone]
  dsimp only
  rw [hres]
  simp only [hrun, Option.getD_some, hfind, hhow, hbytes, hends]
  refine ⟨_, ?_, rfl⟩
  split <;> rfl

/-! ### The obligation's clauses -/

/-- Clause 1 of O48, without a cached translation. -/
theorem elementIssue_walks {s : State} {k : Fin 4} {r : Res} {u : Run} {e : El} (hcalm : Calm s) (hready : tndReady s k.val = true)
    (hres : (s.tclu k.val).res = [r]) (hst : r.ctx.state = sRUNNING) (hrun : r.run = some u) (hels : u.els = [e]) (hw : e.st = .want)
    (hlen : s.tnd.walks.length < 32) (hx : xlate s r.ctx.asid e.acc.va e.acc.needW false = none)
    (hno : (r.ctx.asid, e.acc.va / 4096) ∉ s.tnd.walks) :
    ∃ t, exec (.elementIssue k) s = .next t ∧ t.tnd.walks = s.tnd.walks ++ [(r.ctx.asid, e.acc.va / 4096)] ∧
      (t.tclu k.val).res = [{ r with run := some { u with els := [{ e with st := .walk (e.acc.va / 4096) }] } }] ∧
      t.chans = s.chans ∧ t.mem = s.mem := by
  have hissue := elementIssue_single hready hres hst hrun hels hw (issueEl_starts_walk hx hno hlen)
  refine ⟨_, congrArg Host.Outcome.next (settle_ports s (elementIssue k.val s) ?_ ?_ ?_), ?_⟩
  · rw [hissue]; exact hcalm
  · rw [hissue]; rfl
  · rw [hissue]; rfl
  · rw [hissue]
    refine ⟨rfl, ?_, rfl, rfl⟩
    rw [State.tclu_modTclu, if_pos rfl]
    refine (res_modRes_single (r := r) hres _).trans ?_
    rw [hrun, Option.map_some, put_single (f := { e with st := .walk (e.acc.va / 4096) }) hels rfl]

/-- Clause 1 of O48, for a read with a cached translation. -/
theorem elementIssue_commits_read {s : State} {k : Fin 4} {r : Res} {u : Run} {e : El} {va m pa : Nat} (hcalm : Calm s)
    (hready : tndReady s k.val = true) (hres : (s.tclu k.val).res = [r]) (hst : r.ctx.state = sRUNNING) (hrun : r.run = some u)
    (hels : u.els = [e]) (hw : e.st = .want) (hacc : e.acc = .read va m)
    (hx : xlate s r.ctx.asid va false false = some (.ok (.local_ pa))) (hclu : s.cluReady (cluOf (chanOf pa)) = true)
    (hret : retiredAt s pa = false) (hb : budgetsAdmit s.sec (32 + k.val) r.ctx.cls = true)
    (hh : holdsClass s.sec (s.chan (chanOf pa)).q r.ctx.cls = false)
    (hwin : winsOver s (chanOf pa) (32 + k.val) r.ctx.cls (portOffers s (chanOf pa) ++ tenderOffers s k.val (chanOf pa)) = true)
    (hqueue : (s.chan (chanOf pa)).q.queue = []) (hlink : (s.chan (chanOf pa)).q.link = [])
    (hmerge : (s.chan (chanOf pa)).i.merge = []) :
    ∃ t x, exec (.elementIssue k) s = .next t ∧ (t.chan (chanOf pa)).q.queue = [x] ∧ x.src = .tender k.val r.stream e.i ∧ x.op = .read ∧
      x.chunk = pa / 128 ∧ x.need = 1#2 <<< (pa / 64 % 2) ∧ x.cls = r.ctx.cls ∧ x.accepted = s.day.tick ∧ x.entered = s.day.tick ∧
      t.mem = s.mem ∧ tget 0 (t.tclu k.val).turns r.ctx.cls = r.stream ∧ tget 35 t.sec.turn (chanOf pa) = 32 + k.val ∧
      t.clk.xbarGated = false ∧
      tget 0 t.sec.out r.ctx.cls = tget 0 s.sec.out r.ctx.cls + 1 ∧ ∀ c', c' ≠ chanOf pa → t.chan c' = s.chan c' := by
  have hmay := mayCommit_single hres hrun hels hw hclu hb hh
  have hissue := elementIssue_single hready hres hst hrun hels hw (issueEl_commits_read (u := u) hacc hx hret hmay hwin)
  obtain ⟨hv, hother, id, hqe⟩ := elRead_enters (n := r.stream) (c := r.ctx.cls) (e := e) k.isLt hqueue hlink hmerge
  obtain ⟨-, hout, hturn⟩ := elTaken_frame s k.val r.stream r.ctx.cls e pa
  generalize arrive (chanOf pa) (elEntry s k.val r.stream r.ctx.cls e pa) (elTaken s k.val r.stream r.ctx.cls e pa) = v
    at hissue hv hother hqe
  have hsec : v.sec = (elTaken s k.val r.stream r.ctx.cls e pa).sec := by rw [hv]
  refine ⟨_, { elEntry s k.val r.stream r.ctx.cls e pa with id := id, entered := s.day.tick },
    congrArg Host.Outcome.next (settle_ports s (elementIssue k.val s) ?_ ?_ ?_), ?_⟩
  · rw [hissue, hv]; exact hcalm
  · rw [hissue, hv]; rfl
  · rw [hissue, hv]; rfl
  · rw [hissue]
    refine ⟨hqe, rfl, rfl, rfl, rfl, rfl, rfl, rfl, by rw [hv]; rfl, ?_, ?_, by rw [hv]; rfl, ?_, hother⟩
    · rw [State.tclu_modTclu, if_pos rfl]; exact tget_tset_same _ _ _ _
    · change tget 35 v.sec.turn (chanOf pa) = 32 + k.val
      rw [hsec, hturn]; exact tget_tset_same _ _ _ _
    · change tget 0 v.sec.out r.ctx.cls = _
      rw [hsec, hout]; exact tget_tset_same _ _ _ _

/-- Clause 3 of O48. -/
theorem elementApplied_done {s : State} {n : BitVec 18} {i c k : Nat} {dn : Done} {r : Res} {u : Run} {e : El} (hcalm : Calm s)
    (hdone : doneOf s n.toNat i = some (c, k, dn)) (hhow : dn.how = .performed) (hpois : dn.e.poisonBits = 0)
    (hreg : dn.e.badRegion = false) (href : dn.e.refused = 0) (hr : resident s n.toNat = some (k, r)) (hrun : r.run = some u)
    (hels : u.els = [e]) (hei : e.i = i) (hst : e.st = .out) (hph : e.ph = .dst) (hwr : ∃ va b p, e.acc = .write va b p)
    (hi : i < (Desc.of r.ctx.dcopy).count) :
    ∃ t, exec (.elementApplied n i) s = .next t ∧ (t.chan c).q.done = (s.chan c).q.done.erase dn ∧
      resident t n.toNat = some (k, { r with
        dirty := true, run := some { u with els := [] }
        ctx := r.ctx.applied (Desc.of r.ctx.dcopy) i e.skip (if (Desc.of r.ctx.dcopy).op = 8 then !e.skip else true) (e.flags ||| dn.e.flags) }) ∧
      (t.tclu k).elem = (s.tclu k).elem + 1 ∧ (t.tclu k).bytes = (s.tclu k).bytes + e.acc.writes ∧ t.mem = s.mem := by
  subst hei
  obtain ⟨v, hv, happ⟩ := elementApplied_write hdone hhow hpois hreg href hr hrun (by simp [hels, hst]) hph hwr hi
  generalize hw : v.modTclu k (fun x => { x with bytes := x.bytes + e.acc.writes }) = w at happ
  have hvr : resident v n.toNat = some (k, r) := by rw [hv]; exact hr
  have hwres : resident w n.toNat = some (k, r) := by
    rw [← hw]
    exact (resident_modTclu v _ _ (by intro; rfl)).trans hvr
  have halone := elApplied_alone (e := { e with flags := e.flags ||| dn.e.flags }) hwres hrun (by simp [hels, hst]) hi hph
  rw [halone] at happ
  refine ⟨_, congrArg Host.Outcome.next (settle_ports s (elementApplied n.toNat e.i s) ?_ ?_ ?_), ?_⟩
  · rw [happ, ← hw, hv]; exact hcalm
  · rw [happ, ← hw, hv]; rfl
  · rw [happ, ← hw, hv]; rfl
  · have htclu : v.tclu k = s.tclu k := by rw [hv]; rfl
    rw [happ]
    refine ⟨?_, ?_, ?_, ?_, ?_⟩
    · rw [← hw, hv]
      change ((s.modSched c (fun q => { q with done := q.done.erase dn })).chan c).q.done = _
      rw [State.modSched_q]
    · refine (resident_modTclu _ _ _ (by intro; rfl)).trans ((resident_modRes hwres (stream_withApplied _ _)).trans ?_)
      simp [Res.withApplied, hrun, Run.drop, hels]
    · simp [modRes, ← hw, htclu]
    · simp [modRes, ← hw, htclu]
    · rw [← hw, hv]; rfl

/-- Settles O48: the issue of the one element, the end of a walk and the end of a write, each followed through its command. -/
theorem elementsIssueAndComplete : Obligations.ElementsIssueAndComplete := by
  refine ⟨fun s k r u e hcalm hready hres hst hrun hels hw hlen =>
      ⟨fun hx hno => ?_, fun va m pa hacc hx _ => ?_⟩,
    fun s s' a vpn hcalm hwalk => ⟨fun x rest r hws hd => ?_, fun hws => ?_⟩,
    fun s n i c k dn r u e hcalm hdone hhow hpois hreg href hr hrun hels hei hst hph hwr => ?_⟩
  · exact elementIssue_walks hcalm hready hres hst hrun hels hw hlen hx hno
  · exact elementIssue_commits_read hcalm hready hres hst hrun hels hw hacc hx
  · obtain ⟨hwalks, htlb⟩ := walkComplete_of_walkers hwalk hws hd
    exact ⟨_, rfl, (congrArg Tnd.walks (tnd_settle s _)).trans hwalks, (congrArg Tnd.tlb (tnd_settle s _)).trans htlb⟩
  · refine congrArg Host.Outcome.next ((congrArg (settle s) (walkComplete_of_no_walkers hwalk hws)).trans ?_)
    exact settle_ports s _ hcalm rfl rfl
  · exact elementApplied_done hcalm hdone hhow hpois hreg href hr hrun hels hei hst hph hwr

end Sys2Proof.Machine
end

section
/-! SUPPORT. An access of a unit of the stack to its memory, at a channel that holds nothing (R163, R171, R183). -/

namespace Sys2Proof.Machine

/-! ### What such an access changes -/

/-- From `s` to `t` only channels, clusters and the arbiter changed; the commits counted are as before, and so is `k` of every integrity
unit. -/
abbrev OnBus {α : Type} (k : Integ → α) (s t : State) : Prop :=
  t = { s with chans := t.chans, clus := t.clus, sec := t.sec } ∧ t.sec.commit = s.sec.commit ∧ ∀ c, k (t.chan c).i = k (s.chan c).i

section
variable {α : Type} {k : Integ → α} {s t u : State}

theorem OnBus.trans (h : OnBus k s t) (h' : OnBus k t u) : OnBus k s u := by
  obtain ⟨ht, hct, hit⟩ := h
  obtain ⟨hu, hcu, hiu⟩ := h'
  refine ⟨?_, hcu.trans hct, fun c => (hiu c).trans (hit c)⟩
  rw [ht] at hu
  exact hu

theorem OnBus.of_id (h : OnBus id s t) : OnBus k s t := by
  obtain ⟨hframe, hcommit, hi⟩ := h
  exact ⟨hframe, hcommit, fun c => congrArg k (hi c)⟩

theorem onBus_modSched (s : State) (c : Nat) (f : Sched → Sched) : OnBus id s (s.modSched c f) :=
  ⟨rfl, rfl, fun _ => State.modSched_i _ _ _ _⟩

theorem onBus_modInteg {f : Integ → Integ} (hf : ∀ i, k (f i) = k i) (s : State) (c : Nat) : OnBus k s (s.modInteg c f) := by
  refine ⟨rfl, rfl, fun c' => ?_⟩
  rw [State.modInteg, State.chan_modChan]
  split
  · subst c'; exact hf _
  · rfl

theorem onBus_of_chan (h : t = { s with chans := t.chans }) (hc : ∀ c, t.chan c = s.chan c) : OnBus id s t :=
  ⟨by rw [h], by rw [h], fun c => by rw [hc]⟩

/-- From `s` to `t` only cells, channels, clusters and the arbiter changed. -/
abbrev OnCells (s t : State) : Prop :=
  t = { s with chans := t.chans, clus := t.clus, sec := t.sec, mem := t.mem, chk := t.chk }

theorem OnCells.trans (h : OnCells s t) (h' : OnCells t u) : OnCells s u := by
  rw [OnCells, h] at h'
  exact h'

theorem OnBus.onCells (h : OnBus k s t) : OnCells s t := by
  rw [OnCells, h.1]

/-- Places taken or released. -/
theorem onBus_refreshHolds (ch : Nat) (p : Sched → Tab Nat) (s : State) :
    OnBus id s (refreshHolds ch (s.modSched ch (fun q => { q with places := p q }))) := by
  obtain ⟨hf, hs, hc⟩ := refreshHolds_places ch p s
  have hclus := (congrArg State.clus hf).trans rfl
  refine ⟨by rw [hclus]; exact hf, (congrArg Sec.commit hs).trans rfl, fun c => ?_⟩
  obtain ⟨⟨_, _, he⟩, -⟩ := hc c
  exact (congrArg Chan.i he).trans rfl

theorem onBus_wake (ch : Nat) (s : State) : OnBus id s (wake ch s) := by
  obtain ⟨hf, -⟩ := onChan_wake ch s
  exact ⟨by rw [hf], by rw [hf], fun c => (wake_keeps ch c s).2⟩

/-- A column command for the access itself. -/
theorem onBus_ownColumn (g : Nat) (rd : Bool) (s : State) : OnBus id s (ownColumn g rd s) :=
  (onBus_wake _ s).trans (onBus_modSched _ _ _)

end

/-! ### A channel that holds nothing -/

theorem episode_of_still {s : State} {ch : Nat} (h : Claims.Still s ch) : (s.chan ch).q.episode = none := by
  obtain ⟨-, -, hreplay, halert⟩ := h
  have hnone : (List.range 16).find? (fun d => ((s.chan ch).q.slice d).alert) = none := by
    rw [List.find?_eq_none]
    intro d hd
    simp [halert d (List.mem_range.1 hd)]
  simp [Sched.episode, hnone, hreplay]

/-- Being empty is a matter of the channel alone. -/
theorem empty_congr {s t : State} {ch : Nat} (h : Claims.Empty s ch) (hc : t.chan ch = s.chan ch) : Claims.Empty t ch := by
  simpa only [Claims.Empty, Claims.Still, hc] using h

/-- Nothing is to land, to be replayed or to be raised at a channel that is still. -/
theorem recover_of_still {s : State} {ch : Nat} (h : Claims.Still s ch) (fuel : Nat) : recover ch fuel s = s := by
  cases fuel with
  | zero => rfl
  | succ fuel =>
    have hep := episode_of_still h
    obtain ⟨hfl, hal, -, -⟩ := h
    have hland : land ch s = s := by simp [land, hfl]
    have hraise : raiseDue ch s = s := by simp [raiseDue, hal]
    unfold recover
    simp only [hland, hraise, hep, hal]

/-- To drain an empty channel changes no channel. -/
theorem drainOn_of_empty {s : State} {ch : Nat} (h : Claims.Empty s ch) (g : Nat) :
    drainOn ch g s = { s with chans := (drainOn ch g s).chans } ∧ ∀ c, (drainOn ch g s).chan c = s.chan c := by
  have ⟨⟨hfl, _⟩, _⟩ := h
  generalize hs1 : s.modSched ch (fun q => { q with clk := maxOf (q.clk :: q.flights.map (·.due)) }) = s1
  have hc : ∀ c, s1.chan c = s.chan c := by
    intro c
    by_cases hcc : c = ch
    · subst hcc
      have hclk : maxOf ((s.chan c).q.clk :: (s.chan c).q.flights.map (·.due)) = (s.chan c).q.clk := by simp [hfl, maxOf]
      rw [← hs1, State.modSched, State.chan_modChan, if_pos rfl, hclk]
    · rw [← hs1, (onChan_modSched s ch _).2 c hcc]
  obtain ⟨hstill, hqueue, -⟩ : Claims.Empty s1 ch := empty_congr h (hc ch)
  have ⟨hfl1, _⟩ := hstill
  have hland : landAll ch s = s1 := by
    rw [landAll, hs1]
    simp [land, hfl1]
  have hdrain : drainOn ch g s = s1 := by
    rw [drainOn, hland, recover_of_still hstill]
    have hfirst : (s1.chan ch).q.firstOn g = none := by simp [Sched.firstOn, hqueue]
    unfold drainGran
    simp [hfirst]
  rw [hdrain]
  exact ⟨by rw [← hs1]; rfl, hc⟩

/-! ### The access -/

/-- The state in which an access of a unit of the stack takes its place: its counts taken, its commit counted, the crossbar's clock on
(R163, R190, R204). -/
def ownBegun (s : State) : State :=
  let t := ownCommit (s.modSec (fun x => { x with out := tset x.out 7 (tget 0 x.out 7 + 1) }))
  { t with clk := { t.clk with xbarGated := false } }

/-- The place and the count that such an access gives back. -/
def ownEnded (ch : Nat) (t : State) : State :=
  (releasePlace ch 7 t).modSec (fun x => { x with out := tset x.out 7 (tget 0 x.out 7 - 1) })

theorem ownBegun_frame (s : State) :
    ownBegun s = { s with sec := (ownBegun s).sec, clk := { s.clk with xbarGated := false } } ∧
      tget 0 (ownBegun s).sec.commit 7 = tget 0 s.sec.commit 7 + 1 :=
  ⟨rfl, tget_tset_same _ _ _ _⟩

theorem onBus_ownEnded (ch : Nat) (t : State) : OnBus id t (ownEnded ch t) :=
  (onBus_refreshHolds ch (fun q => tset q.places 7 (q.used 7 - 1)) t).trans ⟨rfl, rfl, fun _ => rfl⟩

/-- At a channel that holds nothing the access is served as the channel stands. -/
theorem ownAccess_of_empty {s : State} {g : Nat} (h : Claims.Empty s (chanOf (64 * g))) :
    ∃ b, OnBus id (ownBegun s) b ∧ Claims.Empty b (chanOf (64 * g)) ∧
      ∀ {α : Type} (f : State → State × α), ownAccess {} g f s = (ownEnded (chanOf (64 * g)) (f b).1, (f b).2) := by
  have hplace : OnBus id (ownBegun s) (takePlace (chanOf (64 * g)) 7 (ownBegun s)) := onBus_refreshHolds _ _ _
  have hempty : Claims.Empty (takePlace (chanOf (64 * g)) 7 (ownBegun s)) (chanOf (64 * g)) := by
    obtain ⟨-, -, hc⟩ := refreshHolds_places (chanOf (64 * g)) (fun q => tset q.places 7 (q.used 7 + 1)) (ownBegun s)
    obtain ⟨⟨l, w, he⟩, -⟩ := hc (chanOf (64 * g))
    rw [Claims.Empty, Claims.Still, takePlace, he]
    exact h
  obtain ⟨hd, hdc⟩ := drainOn_of_empty hempty g
  exact ⟨_, hplace.trans (onBus_of_chan hd hdc), empty_congr hempty (hdc _), fun f => rfl⟩

/-! ### The cells of a granule -/

/-- The entries and moves of a channel that redirect its granules (R181). -/
def Integ.redirects (i : Integ) : Tab (Option Moor) × List Move := (i.mooring, i.moves)

theorem physGran_congr {s t : State} {g : Nat}
    (hi : (t.chan (chanOf (64 * g))).i.redirects = (s.chan (chanOf (64 * g))).i.redirects) (ht : t.tenderPart = s.tenderPart) :
    physGran t g = physGran s g ∧ movePlaces t g = movePlaces s g := by
  obtain ⟨hm, hv⟩ := Prod.mk.inj hi
  constructor
  · simp [physGran, moorHit, hm, ht]
  · simp [movePlaces, hv, ht]

theorem readGran_congr {s t : State} {g : Nat} (hi : (t.chan (chanOf (64 * g))).i = (s.chan (chanOf (64 * g))).i)
    (ht : t.tenderPart = s.tenderPart) (hm : t.mem = s.mem) (hc : t.chk = s.chk) (errs : List (Nat × BitVec 8)) :
    readGran t g errs = readGran s g errs := by
  simp [readGran, (physGran_congr (congrArg Integ.redirects hi) ht).1, hm, hc]

theorem onCells_putGran (g : Nat) (v : Option (List (BitVec 8))) (s : State) : OnCells s (putGran g v s) := by
  rw [OnCells, putGran_frame]

/-- A granule written: its cells, and those of a move in progress, hold the data; no other byte changes. -/
theorem byte_putGran {s : State} (h : Inv s) (g : Nat) {d : List (BitVec 8)} (hd : d.length = 64) (b : Nat) :
    (putGran g (some d) s).byte b = if b / 64 ∈ physGran s g :: movePlaces s g then d.getD (b % 64) 0 else s.byte b := by
  unfold putGran
  dsimp only [Option.getD_some]
  generalize physGran s g :: movePlaces s g = l
  induction l generalizing s with
  | nil => simp
  | cons p l ih =>
    rw [List.foldl_cons, ih (inv_putCells p _ _ s h), (putCells_spec p _ _ s h hd).1]
    by_cases hl : b / 64 ∈ l
    · simp [hl]
    · simp [hl]

end Sys2Proof.Machine
end

section
/-! SUPPORT. BAR2 accesses of one granule (R295 to R297), and obligation O34. -/

namespace Sys2Proof.Machine

/-! ### The granules of an access within one granule -/

theorem abits_granule (a hi : Nat) {lo : Nat} (h : 6 ≤ lo) : abits (64 * (a / 64)) hi lo = abits a hi lo := by
  have hlo : 2 ^ lo = 64 * 2 ^ (lo - 6) := by
    rw [show (64 : Nat) = 2 ^ 6 from rfl, ← Nat.pow_add, Nat.add_sub_cancel' h]
  have hdiv : 64 * (a / 64) / 2 ^ lo = a / 2 ^ lo := by
    rw [hlo, Nat.mul_div_mul_left _ _ (by decide), Nat.div_div_eq_div_mul]
  rw [abits, abits, hdiv]

/-- The channel of an address is the channel of its granule (R54). -/
theorem chanOf_granule (a : Nat) : chanOf (64 * (a / 64)) = chanOf a := by
  simp [chanOf, chanFold, abits_granule]

/-- A block of `k` bytes or more that starts at a multiple of 64 holds the granule whole. -/
theorem blocksOf_single {k a n : Nat} (hk : k = 64 ∨ k = 128) (hn : 0 < n) (hin : a % 64 + n ≤ 64) : blocksOf k a n = [a / k] := by
  have hsame : (a + n - 1) / k = a / k := by
    obtain rfl | rfl := hk <;> omega
  simp [blocksOf, hn.ne', hsame]

theorem grans_read {r : B2Req} (hw : r.wr = false) (hn : 0 < r.n) (hin : r.a % 64 + r.n ≤ 64) : r.grans (r.a / 128) = [r.a / 64] := by
  have hhalf : r.a / 64 / 2 = r.a / 128 := by omega
  simp [B2Req.grans, blocksOf_single (.inl rfl) hn hin, hw, hhalf]

/-! ### A request that is served at once -/

/-- With nothing waiting a request is served as it comes, when a row of R297 or the channels let it (R295). -/
theorem bar2Accept_serves {s : State} {r : B2Req} (hok : busOk s = true) (hb2 : s.pcie.b2 = [])
    (hgo : ((bar2Row s r).isSome || bar2May s r) = true) : bar2Accept r s = bar2Serve r s := by
  have hback : (s.modPcie (fun c => { c with b2 := c.b2 ++ [r] })).modPcie (fun c => { c with b2 := [] }) = s := by
    have hp : ({ s.pcie with b2 := [] } : Pcie) = s.pcie := by rw [← hb2]
    change { s with pcie := { s.pcie with b2 := [] } } = s
    rw [hp]
  have hpend : (s.modPcie (fun c => { c with b2 := c.b2 ++ [r] })).pcie.b2 = [r] := by simp [hb2]
  have hsame : ((bar2Row (s.modPcie (fun c => { c with b2 := c.b2 ++ [r] })) r).isSome ||
      bar2May (s.modPcie (fun c => { c with b2 := c.b2 ++ [r] })) r) = true := hgo
  rw [bar2Accept, if_neg (by simp [hok]), hb2, List.length_nil, bar2Stream]
  simp only [hpend]
  rw [if_pos hsame, hback, bar2Stream]

/-- A row of R297 refuses the request and logs it. -/
theorem bar2Accept_refuses {s : State} {r : B2Req} {k : Nat} (hok : busOk s = true) (hb2 : s.pcie.b2 = []) (hrow : bar2Row s r = some k) :
    bar2Accept r s = busLog (bar2Err k) (bar2Cpl k) r.wr true r.off r.firstBe s := by
  rw [bar2Accept_serves hok hb2 (by simp [hrow]), bar2Serve, hrow]

/-- A refusal raises nothing and changes no readiness. -/
theorem settle_busLog {s : State} (h : Calm s) (e : BusErr) (st : Cpl) (wr bar2 : Bool) (off be : Nat) :
    settle s (busLog e st wr bar2 off be s) = busLog e st wr bar2 off be s :=
  settle_ports s _ h rfl rfl

/-- With BAR2_EN 0 the one row that applies is the first of R297's table. -/
theorem bar2Row_of_disabled {s : State} {r : B2Req} {k : Nat} (hen : r.en = false) (hrow : bar2Row s r = some k) : k = 1 := by
  have hmem := List.find?_some hrow
  simp only [List.contains_iff_mem, List.mem_filterMap] at hmem
  obtain ⟨c, -, hc⟩ := hmem
  simpa [bar2Check, hen, eq_comm] using hc

/-! ### A read -/

/-- What may be accessed is not dead. -/
theorem ownDead_of_ownMay {s : State} {o : Own} {g : Nat} (h : ownMay s o g = true) : ownDead s g = false := by
  simp only [ownMay, Bool.and_eq_true, Bool.not_eq_true'] at h
  obtain ⟨⟨⟨-, hdoom⟩, -⟩, -⟩ := h
  have hret : retiredAt s (64 * g) = false := by
    simp only [doomed, Bool.or_eq_false_iff] at hdoom
    simpa [retiredAt, retiredSlice] using hdoom.1
  simp [ownDead, hret, hdoom]

/-- A clean granule that no merge entry holds is read as its cells stand. -/
theorem takeGran_of_clean {s : State} {g : Nat} (hm : (s.chan (chanOf (64 * g))).i.mergeOf g = none) (hc : Claims.Clean s g) :
    takeGran true g s = (ownColumn g true s, .data (readGran s g []).1) := by
  have htake : takeGran true g s =
      ((decodeGran g [] false (ownColumn g true s)).1, (decodeGran g [] false (ownColumn g true s)).2.1) := by
    simp [takeGran, hm]
  obtain ⟨hframe, -, hi⟩ := onBus_ownColumn g true s
  obtain ⟨hdec, hinj⟩ := hc
  rw [htake]
  generalize ownColumn g true s = t at hframe hi ⊢
  have hread : readGran t g [] = readGran s g [] := readGran_congr (hi _) (by rw [hframe]) (by rw [hframe]) (by rw [hframe]) []
  have hinj' : injArmed t 0 (chanOf (64 * g)) = none := by rw [hframe]; exact hinj
  have hi' : (t.chan (chanOf (64 * g))).i = (s.chan (chanOf (64 * g))).i := hi _
  have hd : decodeGran g [] false t = (t, .data (readGran s g []).1, false) := by
    simp [decodeGran, hread, hi', hdec, hinj']
  rw [hd]

/-- Cleanness is a matter of the granule's cells, its channel's integrity unit and the armed injection. -/
theorem clean_congr {s t : State} {g : Nat} (h : Claims.Clean s g) (hi : (t.chan (chanOf (64 * g))).i = (s.chan (chanOf (64 * g))).i)
    (hread : readGran t g [] = readGran s g []) (hf : t.flt = s.flt) : Claims.Clean t g := by
  obtain ⟨hdec, hinj⟩ := h
  refine ⟨by rw [hi, hread]; exact hdec, ?_⟩
  simpa only [injArmed, hf] using hinj

/-- A granule that may be accessed at an empty channel is read as its cells stand. -/
theorem peekGran_of_clean {s : State} {g : Nat} (hmay : ownMay s {} g = true) (he : Claims.Empty s (chanOf (64 * g)))
    (hm : (s.chan (chanOf (64 * g))).i.mergeOf g = none) (hc : Claims.Clean s g) :
    ∃ t, OnBus id (ownBegun s) t ∧ peekGran {} g s = (t, .data (readGran s g []).1) := by
  obtain ⟨b, hb, -, hacc⟩ := ownAccess_of_empty he
  have ⟨hframe, _, hi⟩ := hb
  have hib : (b.chan (chanOf (64 * g))).i = (s.chan (chanOf (64 * g))).i := hi _
  have hread : readGran b g [] = readGran s g [] := readGran_congr hib (by rw [hframe]; rfl) (by rw [hframe]; rfl) (by rw [hframe]; rfl) []
  have htake := takeGran_of_clean (s := b) (by rw [hib]; exact hm) (clean_congr hc hib hread (by rw [hframe]; rfl))
  refine ⟨_, (hb.trans (onBus_ownColumn g true b)).trans (onBus_ownEnded (chanOf (64 * g)) _), ?_⟩
  rw [peekGran, if_neg (by simp [ownDead_of_ownMay hmay]), hacc, htake, hread]

/-- A read within one granule that can be accessed at an empty channel completes with its bytes. -/
theorem bar2Serve_read {s : State} {r : B2Req} (hw : r.wr = false) (hn : 0 < r.n) (hin : r.a % 64 + r.n ≤ 64) (hrow : bar2Row s r = none)
    (hmay : bar2May s r = true) (he : Claims.Empty s (chanOf r.a)) (hc : Claims.Clean s (r.a / 64))
    (hm : (s.chan (chanOf r.a)).i.mergeOf (r.a / 64) = none) :
    ∃ t, OnBus id (ownBegun s) t ∧
      bar2Serve r s = t.modPcie (fun c => { c with cpl := .success (((readGran s (r.a / 64) []).1.drop (r.a % 64)).take r.n) }) := by
  have hgrans := grans_read hw hn hin
  have hblock : blocksOf 128 r.a r.n = [r.a / 128] := blocksOf_single (.inr rfl) hn hin
  have hown : ownMay s {} (r.a / 64) = true := by simpa [bar2May, hblock, hgrans] using hmay
  rw [← chanOf_granule] at he hm
  obtain ⟨t, ht, hpeek⟩ := peekGran_of_clean hown he hm hc
  refine ⟨t, ht, ?_⟩
  have hchunk : bar2ReadChunk r s (r.a / 128) = (t, [.data (readGran s (r.a / 64) []).1]) := by
    simp [bar2ReadChunk, hgrans, hpeek]
  simp [bar2Serve, hrow, hw, hblock, hchunk]

/-! ### A write of one whole granule -/

/-- A write of every byte of one granule. -/
abbrev B2Req.IsWhole (r : B2Req) : Prop := r.wr = true ∧ r.a % 64 = 0 ∧ r.n = 64 ∧ r.be = List.replicate 64 true ∧ r.data.length = 64

section
variable {r : B2Req} (h : r.IsWhole)
include h

theorem covers_whole {i : Nat} (hi : i < 64) : r.covers (64 * (r.a / 64) + i) = true := by
  obtain ⟨-, ha, hn, hbe, -⟩ := h
  have hoff : 64 * (r.a / 64) + i - r.a = i := by omega
  have hle : r.a ≤ 64 * (r.a / 64) + i := by omega
  have hget : r.be.getD i false = true := by rw [hbe, List.getD_eq_getElem?_getD, List.getElem?_replicate_of_lt hi]; rfl
  rw [B2Req.covers, hoff, hget]
  simp [hle, hn, hi]

theorem lay_whole : r.lay (r.a / 64) [] = r.data := by
  have ⟨_, ha, _, _, hd⟩ := h
  refine List.ext_getElem (by simp [B2Req.lay, hd]) fun i hi _ => ?_
  have hi' : i < 64 := by simpa [B2Req.lay] using hi
  have hoff : 64 * (r.a / 64) + i - r.a = i := by omega
  simp [B2Req.lay, covers_whole h hi', hoff, List.getD_eq_getElem?_getD, hd, hi']

theorem grans_whole : r.grans (r.a / 128) = [r.a / 64] := by
  have ⟨_, ha, hn, _, _⟩ := h
  have hhalf : r.a / 64 / 2 = r.a / 128 := by omega
  have hany : (List.range 64).any (fun i => r.covers (64 * (r.a / 64) + i)) = true :=
    List.any_eq_true.2 ⟨0, by simp, covers_whole h (by decide)⟩
  simp [B2Req.grans, blocksOf_single (.inl rfl) (by omega : 0 < r.n) (by omega : r.a % 64 + r.n ≤ 64), hhalf, hany]

/-- The granule is written whole, without a read of what it held. -/
theorem bar2Gran_whole (s : State) :
    bar2Gran r s (r.a / 64) = layGran true (r.a / 64) (some r.data) (drainOn (chanOf (64 * (r.a / 64))) (r.a / 64) s) := by
  have hunit : ∀ u < 8, ((List.range 8).map (fun i => r.covers (64 * (r.a / 64) + 8 * u + i))).all id = true := by
    intro u hu
    simp only [List.all_map, List.all_eq_true, List.mem_range, Function.comp_apply, id_eq]
    intro i hi
    rw [Nat.add_assoc]
    exact covers_whole h (by omega)
  have hfull : (List.range 8).foldl (fun (w : BitVec 8) u =>
      if ((List.range 8).map (fun i => r.covers (64 * (r.a / 64) + 8 * u + i))).all id then w ||| (1#8 <<< u) else w) 0 = 0xFF := by
    have hcongr : ∀ (l : List Nat) (w : BitVec 8), (∀ u ∈ l, u < 8) → l.foldl (fun (w : BitVec 8) u =>
        if ((List.range 8).map (fun i => r.covers (64 * (r.a / 64) + 8 * u + i))).all id then w ||| (1#8 <<< u) else w) w =
          l.foldl (fun w u => w ||| (1#8 <<< u)) w := by
      intro l
      induction l with
      | nil => exact fun _ _ => rfl
      | cons u l ih =>
        intro w hl
        rw [List.foldl_cons, List.foldl_cons, if_pos (hunit u (hl u (by simp))), ih _ (fun v hv => hl v (by simp [hv]))]
    rw [hcongr _ _ (fun u hu => List.mem_range.1 hu)]
    decide
  unfold bar2Gran
  dsimp only
  rw [if_pos hfull, lay_whole h]

end

/-- Where the write of a granule by a unit of the stack leaves the state but for its cells (R163, R171). -/
theorem layGran_eq_putGran (s : State) (g : Nat) (v : Option (List (BitVec 8))) :
    ∃ t, OnBus Integ.redirects s t ∧ layGran true g v s = putGran g v t := by
  refine ⟨_, ?_, rfl⟩
  exact ((onBus_modInteg (by intro; rfl) s _).trans (OnBus.of_id (onBus_ownColumn g false _))).trans (onBus_modInteg (by intro; rfl) _ _)

/-- A write of one whole granule that can be accessed at an empty channel stores its bytes where the granule stands. -/
theorem bar2Serve_write {s : State} {r : B2Req} (h : r.IsWhole) (hrow : bar2Row s r = none) (he : Claims.Empty s (chanOf r.a)) :
    ∃ z t, OnBus Integ.redirects (ownBegun s) z ∧ OnBus id (putGran (r.a / 64) (some r.data) z) t ∧
      bar2Serve r s = t.modPcie (fun c => { c with cpl := .success [] }) := by
  have ⟨hw, ha, hn, _, _⟩ := h
  have hblock : blocksOf 128 r.a r.n = [r.a / 128] := blocksOf_single (.inr rfl) (by omega) (by omega)
  rw [← chanOf_granule] at he
  obtain ⟨b, hb, hbe, hacc⟩ := ownAccess_of_empty he
  obtain ⟨hd, hdc⟩ := drainOn_of_empty hbe (r.a / 64)
  obtain ⟨z, hz, hlay⟩ := layGran_eq_putGran (drainOn (chanOf (64 * (r.a / 64))) (r.a / 64) b) (r.a / 64) (some r.data)
  refine ⟨z, _, ((hb.trans (onBus_of_chan hd hdc)).of_id).trans hz, onBus_ownEnded (chanOf (64 * (r.a / 64))) _, ?_⟩
  have hchunk : bar2WriteChunk r s (r.a / 128) = ownEnded (chanOf (64 * (r.a / 64))) (putGran (r.a / 64) (some r.data) z) := by
    rw [bar2WriteChunk, grans_whole h]
    dsimp only
    rw [hacc]
    simp only [List.foldl_cons, List.foldl_nil, bar2Gran_whole h, hlay]
  rw [bar2Serve, hrow]
  simp only [hw, if_true, hblock, List.foldl_cons, List.foldl_nil, hchunk]

/-! ### The obligation's clauses -/

/-- Clause 1 of O34. -/
theorem bar2Write_stores {s : State} {o : Nat} {data : List Byte} (hcalm : Calm s) (hok : busOk s = true) (hb2 : s.pcie.b2 = []) :
    let r := { bar2Req s o 64 with wr := true, data := data, be := List.replicate 64 true }
    r.a % 64 = 0 → data.length = 64 → bar2Row s r = none → bar2May s r = true → Claims.Empty s (chanOf r.a) →
      ∃ t, exec (.bar2Write o data (List.replicate 64 true) false) s = .next t ∧ t.pcie = { s.pcie with cpl := .success [] } ∧
        tget 0 t.sec.commit 7 = tget 0 s.sec.commit 7 + 1 ∧
        t = { s with chans := t.chans, clus := t.clus, sec := t.sec, mem := t.mem, chk := t.chk, pcie := t.pcie
                     clk := { s.clk with xbarGated := false } } ∧
        (Inv s → ∀ b, t.byte b = if b / 64 ∈ physGran s (r.a / 64) :: movePlaces s (r.a / 64) then data.getD (b % 64) 0 else s.byte b) := by
  intro r ha hlen hrow hmay he
  have hwhole : r.IsWhole := ⟨rfl, ha, rfl, rfl, hlen⟩
  obtain ⟨z, t, hz, ht, hserve⟩ := bar2Serve_write hwhole hrow he
  have hacc : bar2Accept r s = t.modPcie (fun c => { c with cpl := .success [] }) := by
    rw [bar2Accept_serves hok hb2 (by simp [hmay]), hserve]
  have hcells : OnCells (ownBegun s) t := (hz.onCells.trans (onCells_putGran (r.a / 64) (some r.data) z)).trans ht.onCells
  obtain ⟨hzf, hzc, hzi⟩ := hz
  have hcommit : t.sec.commit = (ownBegun s).sec.commit := by
    rw [ht.2.1, putGran_frame]
    exact hzc
  have hbytes : Inv s → ∀ b, t.byte b = if b / 64 ∈ physGran s (r.a / 64) :: movePlaces s (r.a / 64)
      then data.getD (b % 64) 0 else s.byte b := by
    intro hinv b
    have hzmem : z.mem = s.mem := by rw [hzf]; rfl
    have hinvz : Inv z := inv_congr s z hzmem (by rw [hzf]; rfl) hinv
    obtain ⟨hphys, hmove⟩ := physGran_congr (g := r.a / 64) (hzi _) (by rw [hzf])
    have htmem : t.mem = (putGran (r.a / 64) (some r.data) z).mem := by rw [ht.1]
    have hb := byte_putGran hinvz (r.a / 64) hlen b
    rw [hphys, hmove] at hb
    rw [State.byte, htmem]
    refine hb.trans ?_
    rw [State.byte, hzmem]
    rfl
  have hexec : exec (.bar2Write o data (List.replicate 64 true) false) s = .next (settle s (bar2Accept
      { bar2Req s o data.length with wr := true, data := data, be := List.replicate 64 true } s)) := rfl
  rw [hlen, hacc] at hexec
  refine ⟨_, hexec.trans (congrArg Host.Outcome.next (settle_ports s _ ?_ ?_ ?_)), ?_, ?_, ?_, hbytes⟩
  · rw [hcells]; exact hcalm
  · rw [hcells]; rfl
  · rw [hcells]; rfl
  · rw [hcells]; rfl
  · exact (congrArg (fun l => tget 0 l 7) hcommit).trans (ownBegun_frame s).2
  · rw [hcells]; rfl

/-- Clause 2 of O34. -/
theorem bar2Read_completes {s : State} {o n : Nat} (hcalm : Calm s) (hok : busOk s = true) (hb2 : s.pcie.b2 = []) (hn : 0 < n) :
    let r := bar2Req s o n
    r.a % 64 + n ≤ 64 → bar2Row s r = none → bar2May s r = true → Claims.Empty s (chanOf r.a) → Claims.Clean s (r.a / 64) →
    (s.chan (chanOf r.a)).i.mergeOf (r.a / 64) = none →
      ∃ t, exec (.bar2Read o n) s = .next t ∧
        t.pcie = { s.pcie with cpl := .success (((readGran s (r.a / 64) []).1.drop (r.a % 64)).take n) } ∧
        t = { s with chans := t.chans, clus := t.clus, sec := t.sec, pcie := t.pcie, clk := { s.clk with xbarGated := false } } := by
  intro r hin hrow hmay he hc hm
  obtain ⟨t, ⟨hf, -, -⟩, hserve⟩ := bar2Serve_read (r := r) rfl hn hin hrow hmay he hc hm
  have hacc : bar2Accept r s =
      t.modPcie (fun c => { c with cpl := .success (((readGran s (r.a / 64) []).1.drop (r.a % 64)).take n) }) := by
    rw [bar2Accept_serves hok hb2 (by simp [hmay]), hserve]
    rfl
  have hexec : exec (.bar2Read o n) s = .next (settle s (bar2Accept r s)) := rfl
  rw [hacc] at hexec
  refine ⟨_, hexec.trans (congrArg Host.Outcome.next (settle_ports s _ ?_ ?_ ?_)), ?_, ?_⟩
  · rw [hf]; exact hcalm
  · rw [hf]; rfl
  · rw [hf]; rfl
  · rw [hf]; rfl
  · rw [hf]; rfl

/-- Settles O34: a request that comes when none waits is served at once, as a row of R297 says or from the cells of its granule. -/
theorem bar2AccessesMemory : Obligations.Bar2AccessesMemory := by
  refine ⟨fun s o data => ?_, fun s o n => ?_, fun s o n k => ?_, fun s o k data be p => ?_, fun s o n hok hcalm => ?_⟩
  · intro r g c hcalm hok hb2 ha hlen hrow hmay he
    exact bar2Write_stores hcalm hok hb2 ha hlen hrow hmay he
  · intro r g c hcalm hok hb2 hn hin hrow hmay he hc hm
    exact bar2Read_completes hcalm hok hb2 hn hin hrow hmay he hc hm
  · intro r hcalm hok hb2 hrow
    refine ⟨congrArg Host.Outcome.next ?_, fun hen => bar2Row_of_disabled hen hrow⟩
    exact (congrArg (settle s) (bar2Accept_refuses hok hb2 hrow)).trans (settle_busLog hcalm _ _ _ _ _ _)
  · intro r hcalm hok hb2 hrow
    exact congrArg Host.Outcome.next ((congrArg (settle s) (bar2Accept_refuses hok hb2 hrow)).trans (settle_busLog hcalm _ _ _ _ _ _))
  · have hacc : bar2Accept (bar2Req s o n) s = busRefuse false true (o % 2 ^ 20) (firstBe (o % 2 ^ 20) (fun _ => true) n) s := by
      rw [bar2Accept, if_pos (by simp [hok])]
      rfl
    exact congrArg Host.Outcome.next ((congrArg (settle s) hacc).trans (settle_ports s _ hcalm rfl rfl))

end Sys2Proof.Machine
end

section
/-! SUPPORT. The obligation on the state after reset. -/

namespace Sys2Proof.Machine

/-- Settles O60: each part is the value that the definition of the state after reset gives its field; memory is empty, so in form. -/
theorem resetStateIsAsSpecified : Obligations.ResetStateIsAsSpecified :=
  ⟨inv_reset, rfl, rfl, rfl, rfl, fun _ => rfl, fun _ => rfl, rfl, rfl, rfl, rfl, rfl, rfl, rfl, fun _ => rfl, rfl, rfl⟩

end Sys2Proof.Machine
end

section
/-! SUPPORT. Writes of the registers without SQ bits (R35, R47, R71, R94, R133, R291, R334, R349), and the obligation on them. -/

namespace Sys2Proof.Machine

/-- A 4-byte write that the function accepts: the write's effect, then its completion. -/
theorem next_regWrite {off : Nat} (v : Word32) {s t : State} (hb : busOk s = true) (h4 : off % 4 = 0)
    (hr : (readReg s off).isSome = true) (ht : (writeReg off v s).modPcie (fun c => { c with cpl := .success [] }) = t) :
    (Host.Outcome.next (regWrite off v s) : Host.Outcome State Fault Refusal) = .next t := by
  rw [regWrite_accepted v hb h4 hr, ht]

/-! ### The registers of a port -/

theorem readReg_portIsSome (s : State) (p : PortId) {o : Nat} (ho : o < 0x100) (h4 : o % 4 = 0)
    (h : (readPort s p.val o).isSome = true) : (readReg s (0x8000 + o + 0x100 * p.val)).isSome = true := by
  rw [readReg_port s p.isLt ho h4]; exact h

/-- GAL_LINK_CTL (R71, R74). -/
theorem writeReg_linkCtl (v : Word32) (s : State) (p : PortId) :
    writeReg (0x8004 + 0x100 * p.val) v s =
      let t := if v.getLsbD 0 then s.modPort p.val (fun x => { x with link := { x.link with retrainReq := true } }) else s
      { t with staged := t.staged ++ [(0x8004 + 0x100 * p.val, v)] } := by
  have hp := p.isLt
  have hq : (0x8004 + 0x100 * p.val - 0x8000) / 0x100 = p.val := by omega
  unfold writeReg
  rw [if_neg (by simp only [plainRT, Bool.or_eq_true, Bool.and_eq_true, decide_eq_true_eq]; omega)]
  repeat rw [if_neg (by omega)]
  rw [if_pos (by omega), linkCtlWrite, hq]

/-- GAL_PG_CTL (R94, R97). -/
theorem writeReg_pgCtl (v : Word32) (s : State) (p : PortId) :
    writeReg (0x8040 + 0x100 * p.val) v s =
      if bitsOf v 0 3 ≠ 0 && (s.port p.val).link.lstate != .test then
        s.modPort p.val (fun x => { x with link := { x.link with levt := x.link.levt.raise 6 } })
      else
        let t := if v.getLsbD 10 then s.modPort p.val (fun x => { x with lane := { x.lane with pgClr := true } }) else s
        { t with staged := t.staged ++ [(0x8040 + 0x100 * p.val, v)] } := by
  have hp := p.isLt
  have hq : (0x8040 + 0x100 * p.val - 0x8000) / 0x100 = p.val := by omega
  unfold writeReg
  rw [if_neg (by simp only [plainRT, Bool.or_eq_true, Bool.and_eq_true, decide_eq_true_eq]; omega)]
  repeat rw [if_neg (by omega)]
  rw [if_pos (by omega), pgWrite, hq]

/-- GAL_CREDn waits for the boundary (R133). -/
theorem writeReg_cred (v : Word32) (s : State) (p : PortId) (r : Fin 4) :
    writeReg (0x8084 + 0x100 * p.val + 4 * r.val) v s = { s with staged := s.staged ++ [(0x8084 + 0x100 * p.val + 4 * r.val, v)] } :=
  if_pos (by simp only [plainRT, Bool.or_eq_true, Bool.and_eq_true, decide_eq_true_eq]; omega)

theorem readReg_cred (s : State) (p : PortId) (r : Fin 4) : (readReg s (0x8084 + 0x100 * p.val + 4 * r.val)).isSome = true := by
  have h : 0x8084 + 0x100 * p.val + 4 * r.val = 0x8000 + (0x84 + 4 * r.val) + 0x100 * p.val := by omega
  rw [h]
  refine readReg_portIsSome s p (by omega) (by omega) ?_
  fin_cases r <;> rfl

/-! ### Beacon's registers -/

/-- A configuration register of a ring (R334). -/
theorem writeReg_ring (fast : Bool) (r : BcnReg) (v : Word32) (s : State) :
    writeReg (ringReg fast r) v s =
      if (s.bcn.ring fast).en && r ≠ .ctl then
        s.modBcn (fun b => b.setRing fast { b.ring fast with evt := (b.ring fast).evt.raise 3 })
      else { s with staged := s.staged ++ [(ringReg fast r, v)] } := by
  cases fast <;> cases r <;> rfl

theorem readReg_ring (fast : Bool) (r : BcnReg) (s : State) : (readReg s (ringReg fast r)).isSome = true := by
  cases fast <;> cases r <;> rfl

/-- The mask words of Beacon's units (R349). -/
theorem readReg_mask (s : State) (u : Fin 18) (n : Fin 8) : (readReg s (0x1100 + 0x20 * u.val + 4 * n.val)).isSome = true := by
  unfold readReg
  repeat rw [if_neg (by omega)]
  rw [if_pos (by omega)]
  unfold readBcn
  repeat rw [if_neg (by omega)]
  rw [if_pos (by omega)]
  rfl

theorem writeReg_mask (u : Fin 18) (n : Fin 8) (v : Word32) (s : State) :
    writeReg (0x1100 + 0x20 * u.val + 4 * n.val) v s = maskWrite (u.val + 1) n.val v s := by
  have hu : (0x1100 + 0x20 * u.val + 4 * n.val - 0x1100) / 32 + 1 = u.val + 1 := by omega
  have hn : (0x1100 + 0x20 * u.val + 4 * n.val) % 32 / 4 = n.val := by omega
  unfold writeReg
  rw [if_neg (by simp only [plainRT, Bool.or_eq_true, Bool.and_eq_true, decide_eq_true_eq]; omega)]
  repeat rw [if_neg (by omega)]
  rw [if_pos (by omega), hu, hn]

/-! ### The rows -/

/-- The rows RETRAIN and TEST_EN (R71, R74). -/
theorem linkCtl_completed (v : Word32) (s : State) (p : PortId) :
    (writeReg (0x8004 + 0x100 * p.val) v s).modPcie (fun c => { c with cpl := .success [] }) =
      let t := if v.getLsbD 0 then Claims.withLink (Claims.wrote s) p { (s.port p.val).link with retrainReq := true } else Claims.wrote s
      { t with staged := t.staged ++ [(0x8004 + 0x100 * p.val, v)] } := by
  rw [writeReg_linkCtl]; split <;> rfl

/-- The rows of GAL_PG_CTL where the write is taken (R94). -/
theorem pgCtl_completed (v : Word32) (s : State) (p : PortId) (h : v.toNat % 8 = 0 ∨ (s.port p.val).link.lstate = .test) :
    (writeReg (0x8040 + 0x100 * p.val) v s).modPcie (fun c => { c with cpl := .success [] }) =
      let t := if v.getLsbD 10 then
        Claims.withPort (Claims.wrote s) p { s.port p.val with lane := { (s.port p.val).lane with pgClr := true } } else Claims.wrote s
      { t with staged := t.staged ++ [(0x8040 + 0x100 * p.val, v)] } := by
  rw [writeReg_pgCtl, if_neg (by simpa [bitsOf, or_iff_not_imp_left] using h)]
  split <;> rfl

/-- The rows of GAL_PG_CTL where a non-zero MODE comes outside TEST (R94). -/
theorem pgCtl_refused (v : Word32) (s : State) (p : PortId) (hv : v.toNat % 8 ≠ 0) (hl : (s.port p.val).link.lstate ≠ .test) :
    (writeReg (0x8040 + 0x100 * p.val) v s).modPcie (fun c => { c with cpl := .success [] }) =
      Claims.withLink (Claims.wrote s) p { (s.port p.val).link with levt := (s.port p.val).link.levt.raise 6 } := by
  rw [writeReg_pgCtl, if_pos (by simpa [bitsOf] using ⟨hv, hl⟩)]
  rfl

/-- The row of a ring's configuration registers (R334). -/
theorem ring_completed (fast : Bool) (r : BcnReg) (v : Word32) (s : State) :
    (writeReg (ringReg fast r) v s).modPcie (fun c => { c with cpl := .success [] }) =
      let w := Claims.wrote s
      if (s.bcn.ring fast).en = true ∧ r ≠ .ctl then
        { w with bcn := s.bcn.setRing fast { s.bcn.ring fast with evt := (s.bcn.ring fast).evt.raise 3 } }
      else { w with staged := w.staged ++ [(ringReg fast r, v)] } := by
  rw [writeReg_ring]
  simp only [Bool.and_eq_true, decide_eq_true_eq]
  split <;> rfl

/-- Settles O30: each row is a whole-DW write of an implemented register, and its effect is that of `writeReg` there. -/
theorem registerWritesWaitForTheirBoundary : Obligations.RegisterWritesWaitForTheirBoundary := by
  intro s v hm hd
  have hb : busOk s = true := busOk_of_enabled hm hd
  have hpg (p : PortId) : (readReg s (0x8040 + 0x100 * p.val)).isSome = true := readReg_portIsSome s p (o := 0x40) (by omega) rfl rfl
  refine ⟨fun p i hi => ?_, fun p i hi => ⟨fun h => ?_, fun hv hl => ?_⟩, fun p r => ?_, fun hi => ?_, fun fast r => ?_, fun u n => ?_,
    fun i hi => ?_, next_regWrite v hb rfl rfl rfl, next_regWrite v hb rfl rfl ?_⟩
  · have h := next_regWrite v hb (by omega) (readReg_portIsSome s p (o := 4) (by omega) rfl rfl) (linkCtl_completed v s p)
    simp only [List.mem_cons, List.not_mem_nil, or_false] at hi
    rcases hi with rfl | rfl <;> exact h
  · have h := next_regWrite v hb (by omega) (hpg p) (pgCtl_completed v s p h)
    simp only [List.mem_cons, List.not_mem_nil, or_false] at hi
    rcases hi with rfl | rfl <;> exact h
  · have h := next_regWrite v hb (by omega) (hpg p) (pgCtl_refused v s p hv hl)
    simp only [List.mem_cons, List.not_mem_nil, or_false] at hi
    rcases hi with rfl | rfl <;> exact h
  · exact next_regWrite v hb (by omega) (readReg_cred s p r) (by rw [writeReg_cred]; rfl)
  · have h (o : Nat) : (rateWrite o v s).modPcie (fun c => { c with cpl := .success [] }) =
        let w := Claims.wrote s
        if s.day.servoEn then w else { w with staged := w.staged ++ [(o, v)] } := by
      unfold rateWrite; split <;> rfl
    cases hi <;> exact next_regWrite v hb rfl rfl (h _)
  · exact next_regWrite v hb (by cases fast <;> cases r <;> rfl) (readReg_ring fast r s) (ring_completed fast r v s)
  · exact next_regWrite v hb (by omega) (readReg_mask s u n) (by rw [writeReg_mask]; rfl)
  · simp only [List.mem_cons, List.not_mem_nil, or_false] at hi
    rcases hi with rfl | rfl <;> exact next_regWrite v hb rfl rfl rfl
  · change State.modPcie (if v.getLsbD 0 then _ else _) _ = _
    split <;> rfl

end Sys2Proof.Machine
end

section
/-! SUPPORT. A transmitter that sends at once (R113, R114), and the obligations on a performed read and on lane BIST. -/

namespace Sys2Proof.Machine

theorem active_of_framing {x : Port} (h : x.framing = true) : x.link.lstate = .active := by
  simp only [Port.framing, Bool.and_eq_true, beq_iff_eq] at h
  exact h.1.1

/-- A transmitter with nothing waiting and room in its replay buffer sends the frame that it is given (R113, R114). -/
theorem send_of_sends {x : Port} (h : Claims.Sends x) (tick : Nat) {b : UpBody} (hb : b ≠ .idle) :
    x.send tick b = Claims.sent tick b x := by
  obtain ⟨⟨hframing, hnak, hunsent⟩, hroom⟩ := h
  have hactive : x.link.lstate = .active := active_of_framing hframing
  obtain ⟨room, hroom⟩ : ∃ room, 256 - x.rty.replay.length = room + 1 := ⟨255 - x.rty.replay.length, by omega⟩
  let y : Port := { x with rty := { x.rty with unsent := x.rty.unsent ++ [b] } }
  have hpump : pumpList tick (256 - y.rty.replay.length) y.rty.unsent y.rty.txNext =
      ([{ fseq := x.rty.txNext, body := b, sent := tick }], [], x.rty.txNext + 1) := by
    simp [y, hunsent, hroom, pumpList, hb]
  have hidle : y.rty.unsent.filter (· == .idle) = [] := by simp [y, hunsent, hb]
  have hy : y.payNak = y := if_neg (by simp [y, hnak])
  calc x.send tick b = y.pump tick := if_pos hactive
    _ = y.pumpFrames tick := by rw [Port.pump, if_pos (show y.framing = true from hframing), hy]
    _ = Claims.sent tick b x := by
      simp only [Port.pumpFrames, hpump, hidle, Claims.sent, Claims.transmitted, hunsent]
      rfl

/-- A change of a port is the writing of the changed port. -/
theorem modPort_eq_withPort (s : State) (p : PortId) (f : Port → Port) : s.modPort p.val f = Claims.withPort s p (f (s.port p.val)) := rfl

/-- The end of a command that changed one port, and beside the ports nothing that the collector or the readiness bits see. -/
theorem settle_modPort_of_ports {s0 s : State} {p : Nat} {f : Port → Port} (h : Calm s) (hr : s.ready = s0.ready) (hp : s.ports = s0.ports)
    (hl : (f (s.port p)).link.lstate = (s.port p).link.lstate) (hf : (f (s.port p)).fr.fenced = (s.port p).fr.fenced) :
    settle s0 (s.modPort p f) = s.modPort p f := by
  have hport (q : Nat) : s0.port q = s.port q := by rw [State.port, State.port, hp]
  refine settle_calm s0 _ h hr fun q => ?_
  rw [hport, State.port_modPort]
  split
  next hq => rw [hq]; exact ⟨hl, hf⟩
  next => exact ⟨rfl, rfl⟩

/-! ### A performed read (R105, R109, R203) -/

/-- The tag of a read whose access `e` has been performed and answered (R109, R123). -/
def readAnswered (g : TagRec) (e : Entry) : TagRec :=
  { g with st := .answered, fenced := false, outcome := outcomeOf e, bound := g.bound.map (fun b => { b with s := max b.s e.s, a := e.a }) }

/-- A port whose tags in RECOVER hold no counts has none to release (R125, R190). -/
theorem recoverRelease_of_none {s : State} {p : Nat} (h : ∀ y ∈ (s.port p).fr.tags, y.2.st = .recover → y.2.holds = false) :
    recoverRelease p s = s := by
  have hts : (s.port p).fr.tags.filter (fun y => y.2.st == .recover && y.2.holds) = [] := by
    simpa [List.filter_eq_nil_iff] using h
  rw [recoverRelease, hts]
  rfl

/-- What an answer does on a port whose transmitter sends at once (R109). -/
theorem answer_of_sends {x : Port} (h : Claims.Sends x) (tick : Nat) (me : StackId) (t status detail : Nat) (data : List (BitVec 8))
    (hst : (x.fr.tag t).st ≠ .recover) :
    x.answer tick me t status detail data = Claims.sent tick (rspBody me (x.fr.tag t) t status detail [] data)
      { x with fr := { x.fr with tags := tset x.fr.tags t (Claims.answeredTag (x.fr.tag t)) } } := by
  have hactive : x.link.lstate = .active := active_of_framing h.1.1
  have hfin : TagRec.finish (x.link.lstate == .active) (x.fr.tag t) = Claims.answeredTag (x.fr.tag t) := by
    simp [TagRec.finish, Claims.answeredTag, hactive, hst]
  have hans : x.answers t = true := by simp [Port.answers, hactive, hst]
  rw [Port.answer, if_pos hans, Frames.modTag, tmod]
  rw [show tget {} x.fr.tags t = x.fr.tag t from rfl, hfin]
  exact send_of_sends (x := { x with fr := { x.fr with tags := tset x.fr.tags t (Claims.answeredTag (x.fr.tag t)) } }) h tick
    (by simp [rspBody])

/-- The record of a tag whose access `e` has been performed (R39, R40, R123). -/
def TagRec.served (e : Entry) (r : TagRec) : TagRec :=
  { r with outcome := outcomeOf e, bound := r.bound.map (fun (b : Bound) => { b with s := max b.s e.s, a := e.a }) }

/-- The port after the access `e` of tag `t` has been performed. -/
def readPerformed (t : Nat) (e : Entry) (x : Port) : Port := { x with fr := x.fr.modTag t (TagRec.served e) }

/-- A read performed without poison is answered with its data and the status that its commit gave it (R105, R203). -/
theorem requestPerformed_read {s : State} {p t ch : Nat} {e : Entry} (hdone : doneTag s p t = some (ch, { e := e, how := .performed }))
    (hpoison : e.poisonBits = 0) (hregion : e.badRegion = false) (hkind : ((s.port p).fr.tag t).kind = .read) :
    requestPerformed p t s = recoverRelease p ((s.modSched ch (fun q => { q with done := q.done.erase { e := e, how := .performed } })).modPort
      p (fun x => (readPerformed t e x).answer s.day.tick s.stackId t (okStatus ((s.port p).fr.tag t)) 0 (rspData e))) := by
  have hk : ((s.modSched ch (fun q => { q with done := q.done.erase { e := e, how := .performed } })).port p).fr.tag t =
      (s.port p).fr.tag t := rfl
  have hok : (okStatus ((s.port p).fr.tag t), 0) ≠ (stBAD, 0x1A) := by simp
  simp only [requestPerformed, hdone, hk, hkind, hpoison, hregion, ne_eq, not_true_eq_false, if_false, if_true, Bool.false_eq_true, hok,
    reduceCtorEq]
  rfl

/-- The answer to a performed read on a port whose transmitter sends at once. -/
theorem answer_readPerformed {x : Port} (h : Claims.Sends x) (tick : Nat) (me : StackId) (t : Tag) (e : Entry) {g : TagRec}
    (hg : x.fr.tag t.toNat = g) (hkind : g.kind = .read) (hst : g.st = .issued) :
    (readPerformed t.toNat e x).answer tick me t.toNat (okStatus g) 0 (rspData e) =
      Claims.sent tick (.rsp 0x80 t g.sect me g.orig (if g.throttled then 1 else 0) 0 [] (rspData e))
        { x with fr := { x.fr with tags := tset x.fr.tags t.toNat { g with
          st := .answered, fenced := false, outcome := outcomeOf e
          bound := g.bound.map (fun b => { b with s := max b.s e.s, a := e.a }) } } } := by
  have htag : (readPerformed t.toNat e x).fr.tag t.toNat = TagRec.served e g := by
    subst hg; exact tget_tmod_same {} x.fr.tags t.toNat _
  have htags (v : TagRec) : tset (readPerformed t.toNat e x).fr.tags t.toNat v = tset x.fr.tags t.toNat v := tset_tset _ _ _ _
  rw [answer_of_sends (x := readPerformed t.toNat e x) h _ _ _ _ _ _ (by simp [htag, TagRec.served, hst]), htag, htags]
  simp only [rspBody, TagRec.served, hkind, BitVec.ofNat_toNat, BitVec.setWidth_eq]
  rfl

/-- Settles O15: the access is taken, its tag answered, and no tag in RECOVER releases anything. -/
theorem performedReadAnswered : Obligations.PerformedReadAnswered := by
  intro s p t ch e g hcalm hsends hdone hpoison hregion hg hkind hst hrec
  have hperf := requestPerformed_read hdone hpoison hregion (by rw [hg, hkind])
  rw [modPort_eq_withPort, hg] at hperf
  rw [show (s.modSched ch _).port p.val = s.port p.val from rfl, answer_readPerformed hsends _ _ _ _ hg hkind hst] at hperf
  rw [recoverRelease_of_none] at hperf
  · have hexec : exec (.requestPerformed p t) s = .next (settle s (requestPerformed p.val t.toNat s)) := rfl
    rw [hexec, hperf]
    exact congrArg Host.Outcome.next (settle_modPort_of_ports (f := fun _ => Claims.sent _ _ _) hcalm rfl rfl rfl rfl)
  · intro y hy hyr
    rw [State.port, Claims.withPort, tget_tset_same] at hy
    rcases mem_tset _ _ _ _ hy with rfl | hy
    · cases hyr
    · exact hrec y hy hyr

/-! ### Lane BIST (R95, R96) -/

/-- What the first tick of a round does on an ACTIVE port with no slice in progress (R33, R95, R427). -/
theorem laneBistSlice_first {s : State} {p : Nat} (htick : s.day.tick % 64 = 0) (hactive : (s.port p).link.lstate = .active)
    (hslice : (s.port p).lane.slice = none) :
    laneBistSlice p s =
      if !s.day.laneBistEn || s.pwr.srAct then skipAtStart p (s.day.tick / 64 % 156) (setBistWait p none s)
      else if !s.domOn 49 then setBistWait p (some (s.day.tick / 64 % 156)) s
      else beginSlice p (s.day.tick / 64 % 156) (setBistWait p none s) := by
  simp [laneBistSlice, htick, hactive, hslice]

/-- The port on which the slice of down lane `pos` has begun with spare `k` in its place (R95). -/
def sliceBegun (tick pos : Nat) (k : Spare) (x : Port) : Port :=
  { x with lane := { x.lane with
      slice := some { pos := pos, start := tick, spare := some k, inTest := false }
      swapDn := some { kind := .swap, lane := pos, spare := k, phase := .requested } } }

/-- The slice of a down lane in service asks the host for the lane (R95). -/
theorem beginSlice_down {s : State} {p pos : Nat} {k : Spare} {ks : List Spare} (hpos : pos < 76) (hout : pos ∉ (s.port p).lane.outDn)
    (hswap : (s.port p).lane.swapDn = none) (hfree : freeSpares (s.port p) .down = k :: ks) :
    beginSlice p pos s = s.modPort p (fun x => (sliceBegun s.day.tick pos k x).send s.day.tick (.laneCtl 0x1 .down pos k)) := by
  have hmod : pos % 78 = pos := Nat.mod_eq_of_lt (by omega)
  have hdir : (if pos < 78 then Dir.down else Dir.up) = Dir.down := if_pos (by omega)
  have hserv : inService (s.port p) .down pos = true := by simp [inService, hpos, Lanes.out, hout]
  simp only [beginSlice, hmod, hdir, hserv, hfree, Lanes.swap, hswap, Bool.not_true, Bool.false_eq_true, if_false, if_true, ge_iff_le,
    Nat.not_le.2 hpos, sendLane, setSwap, modPort_modPort]
  rfl

/-- The port on which the slice `sl` has ended as passed (R95, R97). -/
def slicePassed (sl : LaneSlice) (x : Port) : Port :=
  { x with lane := { x.lane with slice := none, bistPos := sl.pos, bistPass := true, bistSkipped := false, bistErrors := 0 } }

/-- The state in which one more lane of the pass has been tested (R446). -/
def laneTested (s : State) : State := { s with wch := { s.wch with laneRun := { s.wch.laneRun with tested := s.wch.laneRun.tested + 1 } } }

theorem sliceDone_passed {s : State} {p : Nat} {sl : LaneSlice} (hslice : (s.port p).lane.slice = some sl) :
    sliceDone p 0 s = (laneTested s).modPort p (slicePassed sl) := by
  rw [sliceDone, hslice]; rfl

/-- The end of a slice without errors on a lane that no spare carries (R95, R97, R446). -/
theorem laneBistRestore_passed {s : State} {p : Nat} {sl : LaneSlice} (hslice : (s.port p).lane.slice = some sl)
    (hdue : sl.start + 62 ≤ s.day.tick) (htest : sl.inTest = true) (hrest : sl.restoring = false) (hpos : sl.pos < 78)
    (hspare : sl.spare = none) (herr : sl.errors = none) : laneBistRestore p 0 s = sliceDone p 0 s := by
  have hdir : sl.dir = .down := if_pos hpos
  have hnot : ¬ s.day.tick < sl.start + 62 := by omega
  simp [laneBistRestore, hslice, hnot, hrest, hdir, htest, hspare, herr]

/-- Settles O29: the first tick of a round begins, delays or skips the slice; the result of a passed one is recorded. -/
theorem laneBistSlicesRun : Obligations.LaneBistSlicesRun := by
  refine ⟨fun s p k ks => ?_, fun s p => ?_, fun s p => ?_, fun s p sl => ?_⟩
  · intro x pos htick hsends hslice hen hsr hdom hpos hout hswap hfree
    have hport : (setBistWait p.val none s).port p.val = { x with lane := { x.lane with bistWait := none } } := port_modPort_same _ _ _
    have hsends' : Claims.Sends (sliceBegun s.day.tick pos k { x with lane := { x.lane with bistWait := none } }) := hsends
    refine congrArg Host.Outcome.next ?_
    rw [laneBistSlice_first htick (active_of_framing hsends.1.1) hslice, if_neg (by simp [hen, hsr]), if_neg (by simp [hdom]),
      beginSlice_down (k := k) (ks := ks) hpos (by rw [hport]; exact hout) (by rw [hport]; exact hswap) (by rw [hport]; exact hfree),
      setBistWait, modPort_modPort]
    exact congrArg (Claims.withPort s p) (send_of_sends hsends' s.day.tick (by simp))
  · intro x htick hactive hslice hen hsr hdom
    refine congrArg Host.Outcome.next ?_
    rw [laneBistSlice_first htick hactive hslice, if_neg (by simp [hen, hsr]), if_pos (by simp [hdom])]
    rfl
  · intro x htick hactive hslice hen
    refine congrArg Host.Outcome.next ?_
    rw [laneBistSlice_first htick hactive hslice, if_pos (by simp [hen])]
    exact modPort_modPort s p.val _ _
  · intro x hcalm hslice hdue htest hrest hpos hspare herr
    refine congrArg Host.Outcome.next ?_
    change settle s (laneBistRestore p.val 0 s) = _
    rw [laneBistRestore_passed hslice hdue htest hrest hpos hspare herr, sliceDone_passed hslice]
    exact settle_modPort_of_ports (s := laneTested s) hcalm rfl rfl rfl rfl

end Sys2Proof.Machine
end

section
/-! SUPPORT. What an ACK does (R44, R108, R111, R113, R190), and the obligation on it. -/

namespace Sys2Proof.Machine

/-- From `s` to `t` the tags `gs` of port `p` were freed, and beside them only the port's record of the credits that the host has seen, the
sector counts and the late counters changed. -/
abbrev Freed (p : Nat) (gs : List Nat) (s t : State) : Prop :=
  t = { s with ports := t.ports, sec := t.sec, day := { s.day with late := t.day.late, lateNow := t.day.lateNow } } ∧
    (∀ q, q ≠ p → t.port q = s.port q) ∧
    (t.port p = { s.port p with fr := { (s.port p).fr with
      tags := (t.port p).fr.tags, credFrame := (t.port p).fr.credFrame, credOld := (t.port p).fr.credOld } }) ∧
    ∀ g, (t.port p).fr.tag g = if g ∈ gs then {} else (s.port p).fr.tag g

theorem Freed.refl (p : Nat) (s : State) : Freed p [] s s := ⟨rfl, fun _ _ => rfl, rfl, fun _ => rfl⟩

theorem Freed.trans {p : Nat} {gs gs' : List Nat} {s t u : State} (h : Freed p gs s t) (h' : Freed p gs' t u) : Freed p (gs ++ gs') s u := by
  obtain ⟨hframe, hports, hport, htags⟩ := h
  obtain ⟨hframe', hports', hport', htags'⟩ := h'
  refine ⟨?_, fun q hq => (hports' q hq).trans (hports q hq), ?_, fun g => ?_⟩
  · rw [hframe] at hframe'; exact hframe'
  · rw [hport] at hport'; exact hport'
  · rw [htags', htags]
    by_cases hg : g ∈ gs' <;> simp [hg]

theorem Freed.foldl {α : Type} {p : Nat} {f : State → α → State} {gs : α → List Nat} (hf : ∀ s x, Freed p (gs x) s (f s x)) (l : List α)
    (s : State) : Freed p (l.flatMap gs) s (l.foldl f s) := by
  induction l generalizing s with
  | nil => exact Freed.refl p s
  | cons x l ih => exact (hf s x).trans (ih _)

theorem freed_addLate (p c : Nat) (s : State) : Freed p [] s (addLate c s) := ⟨rfl, fun _ _ => rfl, rfl, fun _ => rfl⟩
theorem freed_releaseCounts (p src c : Nat) (s : State) : Freed p [] s (releaseCounts src c s) := ⟨rfl, fun _ _ => rfl, rfl, fun _ => rfl⟩

/-- The completion of a response frees its tag (R108, R190). -/
theorem freed_freeTag (p g sent : Nat) (s : State) : Freed p [g] s (freeTag p g sent s) := by
  have hfree (u : State) : Freed p [g] u (u.modPort p (fun x => { x with fr := x.fr.modTag g (fun _ => {}) })) := by
    refine ⟨rfl, fun q hq => port_modPort_ne _ _ _ _ hq, ?_, fun j => ?_⟩
    · rw [port_modPort_same]; rfl
    · rw [port_modPort_same]
      simp only [Frames.tag, Frames.modTag, tget_tmod, List.mem_singleton]
  have hlate (c : Prop) [Decidable c] (n : Nat) : Freed p [] s (if c then addLate n s else s) :=
    ite_state (freed_addLate p n s) (Freed.refl p s)
  have hcounts (c : Prop) [Decidable c] (n : Nat) (u : State) : Freed p [] u (if c then releaseCounts p n u else u) :=
    ite_state (freed_releaseCounts p p n u) (Freed.refl p u)
  exact ((hlate _ _).trans (hcounts _ _ _)).trans (hfree _)

theorem freed_creditsAcked (p : Nat) (c : List Nat) (s : State) : Freed p [] s (s.modPort p (Port.creditsAcked c)) := by
  refine ⟨rfl, fun q hq => port_modPort_ne _ _ _ _ hq, ?_, fun g => ?_⟩ <;> rw [port_modPort_same] <;> rfl

/-- A frame that leaves the replay buffer frees the tags that it answers (R111, R113). -/
theorem freed_freeFrame (p : Nat) (f : TxFrame) (s : State) : Freed p f.body.tags s (freeFrame p f s) := by
  have htags : Freed p f.body.tags s (f.body.tags.foldl (fun s t => freeTag p t f.sent s) s) := by
    simpa using Freed.foldl (gs := fun g => [g]) (fun s g => freed_freeTag p g f.sent s) f.body.tags s
  unfold freeFrame
  split
  next c _ => simpa using htags.trans (freed_creditsAcked p c _)
  next => exact htags

/-- A change of the port's retry layer on both sides. -/
theorem Freed.modRty {p : Nat} {gs : List Nat} {s t : State} (h : Freed p gs s t) (f : Retry → Retry) :
    Freed p gs (s.modPort p (fun x => { x with rty := f x.rty })) (t.modPort p (fun x => { x with rty := f x.rty })) := by
  obtain ⟨hframe, hports, hport, htags⟩ := h
  refine ⟨by rw [hframe]; rfl, fun q hq => ?_, ?_, fun g => ?_⟩
  · rw [port_modPort_ne _ _ _ _ hq, port_modPort_ne _ _ _ _ hq, hports q hq]
  · rw [port_modPort_same, port_modPort_same, hport]
  · rw [port_modPort_same, port_modPort_same]; exact htags g

/-- A transmitter that has nothing to send sends nothing (R114). -/
theorem pump_of_nothing {x : Port} (tick : Nat) (hunsent : x.rty.unsent = []) (hnak : x.rty.nakOwed = false) :
    ∃ a, x.pump tick = { x with rty := { x.rty with ackOwed := a } } := by
  have hpay : x.payNak = x := if_neg (by simp [hnak])
  unfold Port.pump
  split
  · exact ⟨false, by simp [hpay, Port.pumpFrames, hunsent, pumpList, Port.emitFrames]⟩
  · exact ⟨x.rty.ackOwed, rfl⟩

/-- What is left of the retry layer when an ACK has covered `k` frames (R113, R114). -/
def Retry.acked (k e : Nat) (a : Bool) (r : Retry) : Retry := { r with replay := r.replay.drop k, episodes := e, ackOwed := a }

/-- An ACK that covers `k` frames, on a port with nothing to send, frees them and the tags that they answer (R113, R114). -/
theorem useAck_frees {p k : Nat} {a : Fseq} {s : State} (opc : BitVec 8) (tag : Tag) (hk : ackCovers (s.port p).rty a = some k)
    (hunsent : (s.port p).rty.unsent = []) (hnak : (s.port p).rty.nakOwed = false) :
    ∃ e b, Freed p (((s.port p).rty.replay.take k).flatMap (fun f => f.body.tags))
      (s.modPort p (fun x => { x with rty := x.rty.acked k e b })) (useAck p a opc tag s).1 := by
  unfold useAck
  rw [hk]
  cases k with
  | zero =>
    refine ⟨(s.port p).rty.episodes, (s.port p).rty.ackOwed, rfl, fun q hq => (port_modPort_ne _ _ _ _ hq).symm, ?_, fun g => ?_⟩ <;>
      rw [port_modPort_same] <;> rfl
  | succ n =>
    have hfreed : Freed p (((s.port p).rty.replay.take (n + 1)).flatMap (fun f => f.body.tags))
        (s.modPort p (fun x => { x with rty := { x.rty with replay := x.rty.replay.drop (n + 1), episodes := 0 } }))
        (ackFrames p (n + 1) s) := Freed.foldl (fun s f => freed_freeFrame p f s) _ _
    have hrty : ((ackFrames p (n + 1) s).port p).rty = { (s.port p).rty with replay := (s.port p).rty.replay.drop (n + 1), episodes := 0 } := by
      rw [hfreed.2.2.1, port_modPort_same]
    obtain ⟨b, hb⟩ := pump_of_nothing (x := (ackFrames p (n + 1) s).port p) (ackFrames p (n + 1) s).day.tick
      (by rw [hrty]; exact hunsent) (by rw [hrty]; exact hnak)
    refine ⟨0, b, ?_⟩
    have := hfreed.modRty (fun r => { r with ackOwed := b })
    rw [modPort_modPort] at this
    change Freed p _ _ (pumpPort p (ackFrames p (n + 1) s))
    rw [pumpPort, modPort_eq _ _ _ (fun x => { x with rty := { x.rty with ackOwed := b } }) hb]
    exact this

/-- Settles O6: the frame is counted, and what its ACK covers is freed. -/
theorem ackFreesFramesAndTags : Obligations.AckFreesFramesAndTags := by
  intro s p a k hcalm hrx hk hunsent hnak
  have hport : (countDown p.val s).port p.val = { (s.port p.val).descramble with
      fr := { (s.port p.val).fr with framesDn := (s.port p.val).fr.framesDn + 1 } } := port_modPort_same _ _ _
  obtain ⟨e, b, hframe, hports, hnow, htags⟩ := useAck_frees (s := countDown p.val s) 0x00 0
    (by rw [hport]; exact hk) (by rw [hport]; exact hunsent) (by rw [hport]; exact hnak)
  have hidle : rxIdle p.val a s = (useAck p.val a 0x00 0 (countDown p.val s)).1 := if_neg (by simp [hrx])
  rw [← hidle] at hframe hports hnow htags
  rw [port_modPort_same, hport] at hnow htags
  have hexec : exec (.idle p a) s = .next (settle s (rxIdle p.val a s)) := rfl
  rw [hexec]
  clear hidle hexec
  generalize rxIdle p.val a s = t at *
  have hother (q : Nat) (hq : q ≠ p.val) : t.port q = s.port q := by
    rw [hports q hq, port_modPort_ne _ _ _ _ hq, countDown, port_modPort_ne _ _ _ _ hq]
  have hsettle : settle s t = t := by
    refine settle_calm s t (by rw [hframe]; exact hcalm) (by rw [hframe]; rfl) (fun q => ?_)
    by_cases hq : q = p.val
    · rw [hq, hnow]; exact ⟨rfl, rfl⟩
    · rw [hother q hq]; exact ⟨rfl, rfl⟩
  refine ⟨t, by rw [hsettle], ?_, ?_, ?_, ?_, ?_, ?_, ?_, hother, ?_⟩
  · rw [hnow]; rfl
  · intro g hg; exact (htags g).trans (if_pos hg)
  · intro g hg; exact (htags g).trans (if_neg hg)
  · rw [hnow]; rfl
  · rw [hnow]; rfl
  · rw [hnow]
  · rw [hnow]; rfl
  · exact hframe

end Sys2Proof.Machine
end

section
/-! SUPPORT. The failures that stop a cluster, the parity alert (R157 to R160), and the obligation on them. -/

namespace Sys2Proof.Machine

/-! ### A parity alert outside a storm (R158, R159) -/

/-- The banks of die `d` as the list `xs` gives them, for the banks `l` of the die. -/
def Sched.restored (d : Nat) (xs : List Bank) (l : List Nat) (q : Sched) : Sched :=
  l.foldl (fun q j => match xs[j]? with
    | some x => q.modBank (8 * d + j) (fun _ => x)
    | none => q) q

theorem restored_cons (d j : Nat) (xs : List Bank) (l : List Nat) (q : Sched) :
    q.restored d xs (j :: l) = (match xs[j]? with
      | some x => q.modBank (8 * d + j) (fun _ => x)
      | none => q).restored d xs l := rfl

theorem restored_frame (d : Nat) (xs : List Bank) (l : List Nat) (q : Sched) :
    q.restored d xs l = { q with banks := (q.restored d xs l).banks } := by
  induction l generalizing q with
  | nil => rfl
  | cons j l ih =>
    rw [restored_cons]
    split
    · exact ih _
    · exact ih _

theorem bank_restored_of_ne {d b : Nat} (xs : List Bank) {l : List Nat} (q : Sched) (h : ∀ j ∈ l, b ≠ 8 * d + j) :
    (q.restored d xs l).bank b = q.bank b := by
  induction l generalizing q with
  | nil => rfl
  | cons j l ih =>
    rw [restored_cons, ih _ (fun k hk => h k (List.mem_cons_of_mem _ hk))]
    split
    · rw [Sched.bank_modBank, if_neg (h j List.mem_cons_self)]
    · rfl

theorem bank_restored {d j : Nat} {xs : List Bank} {y : Bank} (hy : xs[j]? = some y) {l : List Nat} (q : Sched) (h : j ∈ l) :
    (q.restored d xs l).bank (8 * d + j) = y := by
  induction l generalizing q with
  | nil => cases h
  | cons k l ih =>
    rw [restored_cons]
    by_cases hj : j ∈ l
    · exact ih _ hj
    · obtain rfl : j = k := by simpa [hj] using h
      rw [bank_restored_of_ne xs _ (fun i hi he => hj (by rwa [show j = i by omega])), hy]
      simp

/-- A slice as the retry buffer has it, with its counts of alerts. -/
def Issued.sliceNow (bad : Issued) (y : Slice) : Slice := { bad.slice with alertsTick := y.alertsTick, alertsRound := y.alertsRound }

/-- The scheduler at the start of a replay episode of die `d`, whose banks are already as before the erroneous command (R159). -/
def Sched.replaying (lat d : Nat) (bad : Issued) (again : List Issued) (q : Sched) : Sched :=
  { q.modSlice d bad.sliceNow with
    clk := max q.clk (bad.clk + lat)
    flights := q.flights.filter (fun f => !(dieOf f.bank = d ∧ bad.clk ≤ f.clk))
    replay := again, replayBase := bad.clk, replayFrom := max q.clk (bad.clk + lat) }

/-- A replay episode puts back the banks of the die and keeps what it has to reissue (R159). -/
theorem replayOf_eq (lat d : Nat) (bad : Issued) (q : Sched) :
    q.replayOf lat d bad = Sched.replaying lat d bad (q.retry.filter (fun c => c.die = d ∧ bad.clk ≤ c.clk) ++
        q.replay.map (fun i => { i with clk := q.replayFrom + (i.clk - q.replayBase) }))
      { q with banks := (q.restored d bad.banks (List.range 8)).banks } :=
  congrArg (Sched.replaying lat d bad _) (restored_frame d bad.banks (List.range 8) q)

theorem slice_replaying (lat d : Nat) (bad : Issued) (again : List Issued) (q : Sched) :
    (Sched.replaying lat d bad again q).slice d = bad.sliceNow (q.slice d) :=
  (Sched.slice_modSlice _ _ _ _).trans (if_pos rfl)

/-- What the alert's episode is where there is an erroneous command, the scheduler as it is where there is none. -/
def Sched.episodeOf (lat d : Nat) (q : Sched) : Sched :=
  match erroneous lat q d with
  | some c => q.replayOf lat d c
  | none => q

/-- A slice that shows one more parity alert. -/
def Slice.alerted (y : Slice) : Slice := { y with alert := true, alertsTick := y.alertsTick + 1, alertsRound := y.alertsRound + 1 }

/-- The scheduler on which die `d` shows a parity alert that makes no storm; `info` is what the register keeps of it. -/
def Sched.alerted (lat d : Nat) (info : Word32) (q : Sched) : Sched :=
  { (q.episodeOf lat d).modSlice d Slice.alerted with
    parCnt := satInc (q.episodeOf lat d).parCnt, parInfo := info
    queue := (q.episodeOf lat d).queue.map (fun e => { e with a := e.a + 1 }) }

/-- A parity alert outside a storm changes the scheduler, an event bit of the cluster and the Beacon unit, and raises one event of class C1. -/
theorem parityAlert_of_no_storm {s : State} {ch d : Nat} (htick : ((s.chan ch).q.slice d).alertsTick + 1 < 4)
    (hround : ((s.chan ch).q.slice d).alertsRound + 1 < 64) :
    ∃ info det ev, parityAlert ch d false s = raiseInj 15 ch .c1 det false (emit ev
      ((s.modSched ch (Sched.alerted (alertLat (s.clu (cluOf ch)).step) d info)).modClu (cluOf ch) (fun u => { u with evt := u.evt.raise 2 }))) := by
  have htick' : ¬ 4 ≤ ((s.chan ch).q.slice d).alertsTick + 1 := by omega
  have hround' : ¬ 64 ≤ ((s.chan ch).q.slice d).alertsRound + 1 := by omega
  unfold parityAlert
  simp only [Bool.not_false, Bool.true_and, ge_iff_le, htick', hround', decide_false, Bool.or_false, Bool.false_eq_true, if_false]
  exact ⟨_, _, _, rfl⟩

/-- Outside the slices and what an alert sets, the alert changes what its episode changes. -/
theorem alerted_facts (lat d : Nat) (info : Word32) (q : Sched) :
    ((q.alerted lat d info).slice d).alert = true ∧ ((q.alerted lat d info).slice d).alertsTick = (q.slice d).alertsTick + 1 ∧
      (q.alerted lat d info).parCnt = satInc q.parCnt ∧ (q.alerted lat d info).queue = q.queue.map (fun e => { e with a := e.a + 1 }) := by
  have hslice : (q.alerted lat d info).slice d = ((q.episodeOf lat d).slice d).alerted :=
    (Sched.slice_modSlice _ _ _ _).trans (if_pos rfl)
  have hepisode : ((q.episodeOf lat d).slice d).alertsTick = (q.slice d).alertsTick ∧ (q.episodeOf lat d).parCnt = q.parCnt ∧
      (q.episodeOf lat d).queue = q.queue := by
    unfold Sched.episodeOf
    split
    next x _ =>
      rw [replayOf_eq]
      exact ⟨(congrArg Slice.alertsTick (slice_replaying _ _ _ _ _)).trans rfl, rfl, rfl⟩
    next => exact ⟨rfl, rfl, rfl⟩
  obtain ⟨htick, hcnt, hqueue⟩ := hepisode
  refine ⟨by rw [hslice]; rfl, by rw [hslice, ← htick]; rfl, congrArg satInc hcnt, congrArg (List.map _) hqueue⟩

/-- The alert of an erroneous command takes the die back to before it (R159). -/
theorem alerted_of_erroneous {lat d : Nat} {q : Sched} {x : Issued} (hx : erroneous lat q d = some x) (info : Word32) :
    (q.replay = [] → (q.alerted lat d info).replay = q.retry.filter (fun y => y.die = d ∧ x.clk ≤ y.clk)) ∧
      (q.alerted lat d info).flights = q.flights.filter (fun f => !(dieOf f.bank = d ∧ x.clk ≤ f.clk)) ∧
      (∀ b, b / 8 ≠ d → (q.alerted lat d info).bank b = q.bank b) ∧
      ∀ j < 8, ∀ y, x.banks[j]? = some y → (q.alerted lat d info).bank (8 * d + j) = y := by
  have hepisode : q.episodeOf lat d = q.replayOf lat d x := by rw [Sched.episodeOf, hx]
  have hbank (b : Nat) : (q.alerted lat d info).bank b = (q.restored d x.banks (List.range 8)).bank b := by
    change (q.episodeOf lat d).bank b = _
    rw [hepisode, replayOf_eq]
    rfl
  refine ⟨fun hnil => ?_, ?_, fun b hb => ?_, fun j hj y hy => ?_⟩
  · change (q.episodeOf lat d).replay = _
    rw [hepisode, replayOf_eq]
    simp [Sched.replaying, hnil]
  · change (q.episodeOf lat d).flights = _
    rw [hepisode, replayOf_eq]
    rfl
  · rw [hbank, bank_restored_of_ne _ _ (fun j hj he => hb (by have := List.mem_range.1 hj; omega))]
  · rw [hbank, bank_restored hy _ (List.mem_range.2 hj)]

theorem alerted_of_none {lat d : Nat} {q : Sched} (hx : erroneous lat q d = none) (info : Word32) :
    (q.alerted lat d info).replay = q.replay ∧ (q.alerted lat d info).banks = q.banks := by
  have hepisode : q.episodeOf lat d = q := by rw [Sched.episodeOf, hx]
  exact ⟨(congrArg Sched.replay hepisode :), (congrArg Sched.banks hepisode :)⟩

/-! ### Folds that touch each component once -/

/-- A fold whose step `j` touches of the components of a state the one with key `j` alone, where that component is as `C` says: every other
keeps its value, and each that is touched gets what its own step makes of it. -/
theorem foldl_touches {σ α : Type} {get : σ → Nat → α} {f : σ → Nat → σ} {I : σ → Prop} {C : Nat → α → Prop} {P : Nat → α → α → Prop}
    (key : Nat → Nat) (hI : ∀ s j, I s → C j (get s (key j)) → I (f s j))
    (hne : ∀ s j c, I s → C j (get s (key j)) → c ≠ key j → get (f s j) c = get s c)
    (hP : ∀ s j, I s → C j (get s (key j)) → P j (get s (key j)) (get (f s j) (key j))) {l : List Nat} (hl : (l.map key).Nodup) {s : σ}
    (h : I s) (hC : ∀ j ∈ l, C j (get s (key j))) :
    I (l.foldl f s) ∧ (∀ c, c ∉ l.map key → get (l.foldl f s) c = get s c) ∧
      ∀ j ∈ l, P j (get s (key j)) (get (l.foldl f s) (key j)) := by
  induction l generalizing s with
  | nil => exact ⟨h, fun _ _ => rfl, fun _ hj => nomatch hj⟩
  | cons i l ih =>
    obtain ⟨hi, hl⟩ := List.nodup_cons.1 hl
    have hCi := hC i List.mem_cons_self
    have hkey (j : Nat) (hj : j ∈ l) : key j ≠ key i := fun he => hi (he ▸ List.mem_map_of_mem hj)
    obtain ⟨hinv, hother, htouch⟩ := ih hl (hI s i h hCi) (fun j hj => by
      rw [hne s i _ h hCi (hkey j hj)]
      exact hC j (List.mem_cons_of_mem _ hj))
    refine ⟨hinv, fun c hc => ?_, fun j hj => ?_⟩
    · rw [List.map_cons, List.mem_cons, not_or] at hc
      exact (hother c hc.2).trans (hne s i c h hCi hc.1)
    · rcases List.mem_cons.1 hj with rfl | hj
      · rw [List.foldl_cons, hother _ hi]
        exact hP s j h hCi
      · have := htouch j hj
        rwa [hne s i _ h hCi (hkey j hj)] at this

/-- The channels of a cluster are different ones. -/
theorem channels_nodup (k n : Nat) : ((List.range n).map (fun j => 4 * k + j)).Nodup :=
  List.nodup_range.map (fun _ _ h => Nat.add_left_cancel h)

/-! ### Self-refresh (R152, R153) -/

/-- A scheduler without its banks, its slices, its clock and its retry buffer. -/
def Sched.noRows (q : Sched) : Sched := { q with banks := [], slices := [], clk := 0, retry := [] }

/-- From `q` to `r` only the banks, the slices, the clock and the retry buffer changed. -/
abbrev OnRows (q r : Sched) : Prop := r.noRows = q.noRows

theorem OnRows.foldl {α : Type} {f : Sched → α → Sched} (hf : ∀ q x, OnRows q (f q x)) (l : List α) (q : Sched) :
    OnRows q (l.foldl f q) := by
  induction l generalizing q with
  | nil => rfl
  | cons x l ih => exact (ih _).trans (hf q x)

theorem onRows_log (q : Sched) (cmd : DramCmd) (die bank arg : Nat) (job : Option ScrubJob) : OnRows q (q.log cmd die bank arg job) := (rfl)

theorem onRows_until {q r : Sched} {step : Nat} {c : Cmd} (h : q.until step c = some r) : OnRows q r := by
  obtain ⟨n, -, rfl⟩ := Option.map_eq_some_iff.1 h
  rfl

theorem slices_until {q r : Sched} {step : Nat} {c : Cmd} (h : q.until step c = some r) : r.slices = q.slices := by
  obtain ⟨n, -, rfl⟩ := Option.map_eq_some_iff.1 h
  rfl

/-- Changes of banks leave the slices as they are. -/
theorem foldl_modBank_keeps (b : Nat → Nat) (f : Sched → Bank → Bank) (l : List Nat) (q : Sched) :
    OnRows q (l.foldl (fun q j => q.modBank (b j) (f q)) q) ∧ (l.foldl (fun q j => q.modBank (b j) (f q)) q).slices = q.slices := by
  induction l generalizing q with
  | nil => exact ⟨rfl, rfl⟩
  | cons j l ih => exact ih (q.modBank (b j) (f q))

theorem timer_keeps (q : Sched) (tick d : Nat) : OnRows q (q.timer tick d) ∧ (q.timer tick d).slices = q.slices :=
  foldl_modBank_keeps _ (fun _ => Bank.timer _) _ _

theorem slice_congr {q r : Sched} (h : r.slices = q.slices) (d : Nat) : r.slice d = q.slice d := by
  rw [Sched.slice, h]; rfl

/-- SRE puts the slice into self-refresh, whatever state it is in, and changes no other slice. -/
theorem sre_facts (q : Sched) (tick d : Nat) (doubled : Bool) :
    OnRows q (q.sre tick d doubled) ∧ ((q.sre tick d doubled).slice d).sr = true ∧ ∀ e, e ≠ d → (q.sre tick d doubled).slice e = q.slice e := by
  obtain ⟨htimer, hslices⟩ := timer_keeps q tick d
  obtain ⟨hshut, hslices'⟩ := foldl_modBank_keeps (fun j => 8 * d + j) (fun _ => Bank.shut) (List.range 8) q
  unfold Sched.sre
  dsimp only
  split
  next hsr =>
    split
    · refine ⟨htimer, ?_, fun e he => ?_⟩
      · rw [Sched.slice_modSlice, if_pos rfl]
        exact (congrArg Slice.sr (slice_congr hslices d)).trans hsr
      · rw [Sched.slice_modSlice, if_neg he, slice_congr hslices]
    · exact ⟨rfl, hsr, fun _ _ => rfl⟩
  next =>
    refine ⟨hshut, ?_, fun e he => ?_⟩
    · rw [Sched.slice_modSlice, if_pos rfl]
    · rw [Sched.slice_modSlice, if_neg he, slice_congr hslices']

theorem onRows_sre (q : Sched) (tick d : Nat) (doubled : Bool) : OnRows q (q.sre tick d doubled) := (sre_facts q tick d doubled).1

theorem slices_log (q : Sched) (cmd : DramCmd) (die bank arg : Nat) (job : Option ScrubJob) :
    (q.log cmd die bank arg job).slices = q.slices := (rfl)

theorem prea_keeps (q : Sched) (step d : Nat) : OnRows q (q.prea step d) ∧ (q.prea step d).slices = q.slices := by
  unfold Sched.prea
  split
  · exact ⟨rfl, rfl⟩
  · obtain ⟨hrows, hslices⟩ := foldl_modBank_keeps (fun j => 8 * d + j)
      (fun q x => { x.shut with rdyAct := max x.rdyAct (q.clk + tRP step) }) (List.range 8) (q.log .prea d 0 0)
    exact ⟨hrows.trans (onRows_log _ _ _ _ _ _), hslices.trans (slices_log _ _ _ _ _ _)⟩

/-- The slice's rows closed by PREA where one is open. -/
def Sched.allClosed (step d : Nat) (q : Sched) : Sched :=
  if (List.range 8).all (fun j => (q.bank (8 * d + j)).row.isNone) then q
  else match q.until step (.prea d) with
    | some q => q.prea step d
    | none => q

/-- The slice sent into self-refresh by SRE where that is due. -/
def Sched.entered (step tick d : Nat) (doubled : Bool) (q : Sched) : Sched :=
  match q.until step (.sre d) with
  | some q => (q.log .sre d 0 0).sre tick d doubled
  | none => q

theorem sleep_eq (step tick : Nat) (doubled : Bool) (q : Sched) (d : Nat) : q.sleep step tick doubled d =
    if (q.slice d).sr then q.sre tick d doubled
    else if (q.slice d).alert then q
    else (q.allClosed step d).entered step tick d doubled := rfl

theorem allClosed_keeps (step d : Nat) (q : Sched) : OnRows q (q.allClosed step d) ∧ (q.allClosed step d).slices = q.slices := by
  unfold Sched.allClosed
  split
  · exact ⟨rfl, rfl⟩
  · split
    next u hu =>
      obtain ⟨hrows, hslices⟩ := prea_keeps u step d
      exact ⟨hrows.trans (onRows_until hu), hslices.trans (slices_until hu)⟩
    next => exact ⟨rfl, rfl⟩

theorem onRows_entered (step tick d : Nat) (doubled : Bool) (q : Sched) : OnRows q (q.entered step tick d doubled) := by
  unfold Sched.entered
  split
  next u hu => exact (onRows_sre _ _ _ _).trans ((onRows_log _ _ _ _ _ _).trans (onRows_until hu))
  next => rfl

theorem onRows_sleep (step tick : Nat) (doubled : Bool) (q : Sched) (d : Nat) : OnRows q (q.sleep step tick doubled d) := by
  rw [sleep_eq]
  split
  · exact onRows_sre _ _ _ _
  · split
    · rfl
    · exact (onRows_entered _ _ _ _ _).trans (allClosed_keeps step d q).1

/-- The requests of a channel and those that have ended. -/
def Sched.requests (q : Sched) : List Entry × List Entry × List Done := (q.queue, q.link, q.done)

theorem requests_of_onRows {q r : Sched} (h : OnRows q r) : r.requests = q.requests := (congrArg Sched.requests h :)

/-- A scheduler with nothing to do and nothing on its way. -/
def Sched.cleared (q : Sched) : Sched := { q with maint := [], replay := [], flights := [], alertDue := none, retry := [] }

theorem slice_cleared (q : Sched) (d : Nat) : q.cleared.slice d = q.slice d := rfl
theorem requests_cleared (q : Sched) : q.cleared.requests = q.requests := rfl

/-- A halted channel (R157, R367): its slices are in self-refresh, and its requests and its integrity unit are as before. -/
def Halted (x y : Chan) : Prop := y.i = x.i ∧ y.q.requests = x.q.requests ∧ ∀ d < 16, (y.q.slice d).sr = true

/-- Every slice into self-refresh, one that shows a parity alert with them. -/
def Sched.forceSleep (tick : Nat) (doubled : Bool) (q : Sched) (d : Nat) : Sched :=
  (q.modSlice d (fun y => { y with alert := false })).sre tick d doubled

theorem forceSleep_all (tick : Nat) (doubled : Bool) (q : Sched) :
    OnRows q ((List.range 16).foldl (Sched.forceSleep tick doubled) q) ∧
      ∀ d < 16, (((List.range 16).foldl (Sched.forceSleep tick doubled) q).slice d).sr = true := by
  obtain ⟨hrows, -, hsr⟩ := foldl_touches (get := Sched.slice) (I := OnRows q) (C := fun _ _ => True) (P := fun _ _ y => y.sr = true) id
    (f := Sched.forceSleep tick doubled)
    (fun r d h _ => (onRows_sre _ _ _ _).trans h)
    (fun r d e _ _ he => ((sre_facts _ _ _ _).2.2 e he).trans ((Sched.slice_modSlice _ _ _ _).trans (if_neg he)))
    (fun r d _ _ => (sre_facts _ _ _ _).2.1) (l := List.range 16) (by rw [List.map_id]; exact List.nodup_range) rfl (fun _ _ => trivial)
  exact ⟨hrows, fun d hd => hsr d (List.mem_range.2 hd)⟩

/-- What halting a channel changes (R157, R367, R424). -/
theorem chanHalt_facts (doubled : Bool) (ch : Nat) (s : State) :
    chanHalt doubled ch s = { s with chans := (chanHalt doubled ch s).chans } ∧
      (∀ c, c ≠ ch → (chanHalt doubled ch s).chan c = s.chan c) ∧ Halted (s.chan ch) ((chanHalt doubled ch s).chan ch) := by
  have hother (c : Nat) (hc : c ≠ ch) : (chanHalt doubled ch s).chan c = s.chan c := by
    rw [chanHalt, State.modSched, State.chan_modChan, if_neg hc, chanSleep, State.chan_modChan, if_neg hc]
  refine ⟨rfl, hother, ?_⟩
  have hsleep : OnRows (s.chan ch).q ((chanSleep doubled ch s).chan ch).q := by
    rw [chanSleep, State.chan_modChan, if_pos rfl]
    exact OnRows.foldl (onRows_sleep _ _ _) _ _
  have hi : ((chanSleep doubled ch s).chan ch).i = (s.chan ch).i := by
    rw [chanSleep, State.chan_modChan, if_pos rfl]
  obtain ⟨hrows, hsr⟩ := forceSleep_all s.day.tick doubled ((chanSleep doubled ch s).chan ch).q
  have hq : ((chanHalt doubled ch s).chan ch).q =
      ((List.range 16).foldl (Sched.forceSleep s.day.tick doubled) ((chanSleep doubled ch s).chan ch).q).cleared := State.modSched_q _ _ _
  refine ⟨(State.modSched_i _ _ _ _).trans hi, ?_, ?_⟩
  · rw [hq, requests_cleared]
    exact requests_of_onRows (hrows.trans hsleep)
  · intro d hd
    rw [hq, slice_cleared]
    exact hsr d hd

/-! ### The end of a channel's requests (R157) -/

/-- A scheduler without the places and holds of its queue. -/
def Sched.noPlaces (q : Sched) : Sched := { q with places := [], holds := 0 }

/-- From `s` to `t` only the places and holds of channel `ch` and the arbiter's counts changed. -/
abbrev OnPlaces (ch : Nat) (s t : State) : Prop :=
  t = { s with chans := t.chans, sec := t.sec } ∧ (∀ c, c ≠ ch → t.chan c = s.chan c) ∧
    (t.chan ch).i = (s.chan ch).i ∧ (t.chan ch).q.noPlaces = (s.chan ch).q.noPlaces

theorem OnPlaces.trans {ch : Nat} {s t u : State} (h : OnPlaces ch s t) (h' : OnPlaces ch t u) : OnPlaces ch s u := by
  obtain ⟨hf, hc, hi, hq⟩ := h
  obtain ⟨hf', hc', hi', hq'⟩ := h'
  exact ⟨by rw [hf] at hf'; exact hf', fun c h => (hc' c h).trans (hc c h), hi'.trans hi, hq'.trans hq⟩

theorem onPlaces_releasePlace (ch c : Nat) (s : State) : OnPlaces ch s (releasePlace ch c s) := by
  obtain ⟨hf, -, hc⟩ := refreshHolds_places ch (fun q => tset q.places c (q.used c - 1)) s
  obtain ⟨⟨_, _, he⟩, -⟩ := hc ch
  refine ⟨hf, fun c' h => (hc c').2 h, ?_, ?_⟩
  · exact (congrArg Chan.i he).trans rfl
  · exact (congrArg (fun x : Chan => x.q.noPlaces) he).trans rfl

theorem onPlaces_releaseAll (ch : Nat) (l : List Entry) (s : State) :
    OnPlaces ch s (l.foldl (fun s e => releasePlace ch e.cls s) s) := by
  induction l generalizing s with
  | nil => exact ⟨rfl, fun _ _ => rfl, rfl, rfl⟩
  | cons e l ih => exact (onPlaces_releasePlace ch e.cls s).trans (ih _)

/-- A channel on which every request has ended with `how`. -/
def Ended (how : Fin_) (x y : Chan) : Prop :=
  y.i = x.i ∧ y.q.slices = x.q.slices ∧ y.q.queue = [] ∧ y.q.link = [] ∧
    y.q.done = x.q.done ++ (x.q.queue ++ x.q.link).map (fun e => { e := e, how := how })

theorem leaveQueue_of_nothing {s : State} {ch : Nat} (hq : (s.chan ch).q.queue = []) (hl : (s.chan ch).q.link = []) :
    leaveQueue ch s = s := by
  simp [leaveQueue, hq, hl]

/-- A scheduler all of whose requests have ended with `how`. -/
def Sched.allEnded (how : Fin_) (q : Sched) : Sched :=
  { q with queue := [], link := [], done := q.done ++ (q.queue ++ q.link).map (fun e => { e := e, how := how }) }

theorem endRequests_all (ch : Nat) (how : Fin_) (s : State) : endRequests ch how (fun _ => false) s =
    leaveQueue ch (((s.chan ch).q.queue ++ (s.chan ch).q.link).foldl (fun s e => releasePlace ch e.cls s)
      (s.modSched ch (Sched.allEnded how))) := by
  have hgone (l : List Entry) : l.filter (fun e => !(fun _ => false) e) = l := by simp
  have hstay (l : List Entry) : l.filter (fun _ => false) = [] := by simp
  simp only [endRequests, hgone, hstay]
  rfl

theorem endRequests_facts (ch : Nat) (how : Fin_) (s : State) :
    endRequests ch how (fun _ => false) s = { s with
        chans := (endRequests ch how (fun _ => false) s).chans, sec := (endRequests ch how (fun _ => false) s).sec } ∧
      (∀ c, c ≠ ch → (endRequests ch how (fun _ => false) s).chan c = s.chan c) ∧
      Ended how (s.chan ch) ((endRequests ch how (fun _ => false) s).chan ch) := by
  obtain ⟨hf, hc, hi, hq⟩ := onPlaces_releaseAll ch ((s.chan ch).q.queue ++ (s.chan ch).q.link) (s.modSched ch (Sched.allEnded how))
  rw [endRequests_all]
  generalize ((s.chan ch).q.queue ++ (s.chan ch).q.link).foldl (fun s e => releasePlace ch e.cls s) _ = u at hf hc hi hq ⊢
  rw [State.modSched_q] at hq
  have hqueue : (u.chan ch).q.queue = [] := (congrArg Sched.queue hq :)
  have hlink : (u.chan ch).q.link = [] := (congrArg Sched.link hq :)
  rw [leaveQueue_of_nothing hqueue hlink]
  refine ⟨hf, fun c h => (hc c h).trans ((onChan_modSched s ch _).2 c h), hi.trans (State.modSched_i _ _ _ _), ?_, hqueue, hlink, ?_⟩
  · exact (congrArg Sched.slices hq :)
  · exact (congrArg Sched.done hq :)

/-! ### The end of a command that changes the readiness of a cluster (R60, R435) -/

/-- From `s` to `t` only the capacity marks of the clusters, the collector and the Beacon unit changed. -/
abbrev OnCap (s t : State) : Prop :=
  t = { s with flt := t.flt, bcn := t.bcn, clus := t.clus } ∧ ∀ k, ∃ cap, t.clu k = { s.clu k with cap := cap }

theorem OnCap.trans {s t u : State} (h : OnCap s t) (h' : OnCap t u) : OnCap s u := by
  obtain ⟨hf, hc⟩ := h
  obtain ⟨hf', hc'⟩ := h'
  refine ⟨by rw [hf] at hf'; exact hf', fun k => ?_⟩
  obtain ⟨cap, hcap⟩ := hc k
  obtain ⟨cap', hcap'⟩ := hc' k
  exact ⟨cap', by rw [hcap', hcap]⟩

theorem OnFlt.onCap {s t : State} (h : OnlyFlt s t) : OnCap s t := by
  have hclus : t.clus = s.clus := by rw [h]
  exact ⟨by rw [hclus]; exact h, fun k => ⟨(s.clu k).cap, by rw [State.clu, hclus]; rfl⟩⟩

theorem onCap_capTrack (old : BitVec 16) (s : State) : OnCap s (capTrack old s) := by
  unfold capTrack
  generalize List.range 8 = l
  induction l generalizing s with
  | nil => exact ⟨rfl, fun k => ⟨(s.clu k).cap, rfl⟩⟩
  | cons k l ih =>
    refine OnCap.trans (t := if old.getLsbD k != s.ready.getLsbD k && (List.range 4).any (fun j => (s.chan (4 * k + j)).i.capSome) then
      s.modClu k (fun u => { u with cap := u.cap.raise 0 }) else s) ?_ (ih _)
    refine ite_state ⟨rfl, fun j => ?_⟩ ⟨rfl, fun k => ⟨(s.clu k).cap, rfl⟩⟩
    rw [State.clu_modClu]
    split
    next hj => exact ⟨(s.clu j).cap.raise 0, by rw [hj]⟩
    next => exact ⟨(s.clu j).cap, rfl⟩

/-- The end of a command that raised quiet events, whatever readiness it changed. -/
theorem onCap_settle (s0 s : State) (hc : s.ls.ctl = false) (h : ∀ e ∈ s.flt.line, Quiet e) : OnCap s (settle s0 s) := by
  obtain ⟨hcollect, -⟩ := collect_quiet s hc h
  unfold settle
  dsimp only
  refine (OnFlt.onCap hcollect).trans (OnCap.trans ?_ (OnFlt.onCap (readyRecords_quiet _ _).1))
  exact ite_state ⟨rfl, fun k => ⟨((collect s).clu k).cap, rfl⟩⟩ (onCap_capTrack _ _)

/-! ### A step failure (R157) -/

/-- A cluster whose start-up begins anew after a failure. -/
def Clu.failed (u : Clu) : Clu := { u with
  stepTick := 0, t1Done := false, t3Done := false, phyBad := false, clkStop := true
  stage := .off, stageTicks := 0, stageEnded := false, restarted := false
  stepFail := satInc u.stepFail, evt := u.evt.raise 1 }

/-- Cluster `k` halted and started anew, its ready bit 0. -/
def cluHalted (k : Nat) (s : State) : State :=
  let t := ((List.range 4).foldl (fun s j => chanHalt false (4 * k + j) s) s).modClu k Clu.failed
  { t with ready := t.ready &&& ~~~(1#16 <<< k) }

/-- A failed cluster's channel, from before the failure to after it. -/
def Stopped (x y : Chan) : Prop :=
  y.i = x.i ∧ (∀ d < 16, (y.q.slice d).sr = true) ∧ y.q.queue = [] ∧ y.q.link = [] ∧
    y.q.done = x.q.done ++ (x.q.queue ++ x.q.link).map (fun e => { e := e, how := .notReady })

theorem Halted.stopped {x y z : Chan} (h : Halted x y) (h' : Ended .notReady y z) : Stopped x z := by
  obtain ⟨hi, hreq, hsr⟩ := h
  obtain ⟨hi', hslices, hqueue, hlink, hdone⟩ := h'
  obtain ⟨hq, hl, hd⟩ : y.q.queue = x.q.queue ∧ y.q.link = x.q.link ∧ y.q.done = x.q.done := by
    simpa [Sched.requests] using hreq
  refine ⟨hi'.trans hi, fun d hd => ?_, hqueue, hlink, by rw [hdone, hq, hl, hd]⟩
  rw [slice_congr hslices]
  exact hsr d hd

/-- What of the state the halted channels leave as it is, and what becomes of the channels. -/
theorem chanHalt_cluster (k : Nat) (s : State) :
    (List.range 4).foldl (fun s j => chanHalt false (4 * k + j) s) s =
        { s with chans := ((List.range 4).foldl (fun s j => chanHalt false (4 * k + j) s) s).chans } ∧
      ∀ j < 4, Halted (s.chan (4 * k + j)) (((List.range 4).foldl (fun s j => chanHalt false (4 * k + j) s) s).chan (4 * k + j)) := by
  obtain ⟨hframe, -, hhalt⟩ := foldl_touches (get := State.chan) (I := fun t => t = { s with chans := t.chans }) (C := fun _ _ => True)
    (P := fun _ => Halted)
    (f := fun s j => chanHalt false (4 * k + j) s) (fun j => 4 * k + j)
    (fun t j h _ => by rw [(chanHalt_facts false (4 * k + j) t).1, h])
    (fun t j c _ _ hc => (chanHalt_facts false (4 * k + j) t).2.1 c hc)
    (fun t j _ _ => (chanHalt_facts false (4 * k + j) t).2.2) (channels_nodup k 4) (s := s) rfl (fun _ _ => trivial)
  exact ⟨hframe, fun j hj => hhalt j (List.mem_range.2 hj)⟩

theorem cluNotReady_facts (k : Nat) (s : State) :
    cluNotReady k s = { s with chans := (cluNotReady k s).chans, sec := (cluNotReady k s).sec } ∧
      ∀ j < 4, Ended .notReady (s.chan (4 * k + j)) ((cluNotReady k s).chan (4 * k + j)) := by
  obtain ⟨hframe, -, hend⟩ := foldl_touches (get := State.chan) (I := fun t => t = { s with chans := t.chans, sec := t.sec })
    (C := fun _ _ => True) (P := fun _ => Ended .notReady) (f := fun s j => endRequests (4 * k + j) .notReady (fun _ => false) s) (fun j => 4 * k + j)
    (fun t j h _ => by rw [(endRequests_facts (4 * k + j) .notReady t).1, h])
    (fun t j c _ _ hc => (endRequests_facts (4 * k + j) .notReady t).2.1 c hc)
    (fun t j _ _ => (endRequests_facts (4 * k + j) .notReady t).2.2) (channels_nodup k 4) (s := s) rfl (fun _ _ => trivial)
  exact ⟨hframe, fun j hj => hend j (List.mem_range.2 hj)⟩

/-- A failed step ends the requests of the halted cluster, makes a record and raises one event of class C2 (R157, R343, R356). -/
theorem stepFail_eq (k src : Nat) (s : State) :
    ∃ det, stepFail k src s = raise src k .c2 det (cluRecord k (cluNotReady k (cluHalted k s))) := by
  unfold stepFail cluHalted
  exact ⟨_, rfl⟩

/-- What a step failure leaves of the cluster and its channels. -/
theorem stepFail_stops (k : CluId) (src : Nat) {s : State} (hcalm : Calm s) :
    let t := settle s (stepFail k.val src s)
    t.cluReady k.val = false ∧ t.clu k.val = { (s.clu k.val).failed with cap := (t.clu k.val).cap } ∧
      ∀ j < 4, Stopped (s.chan (4 * k.val + j)) (t.chan (4 * k.val + j)) := by
  intro t
  obtain ⟨hline, hctl⟩ := hcalm
  obtain ⟨det, hfail⟩ := stepFail_eq k.val src s
  obtain ⟨hhframe, hhalt⟩ := chanHalt_cluster k.val s
  obtain ⟨hnframe, hend⟩ := cluNotReady_facts k.val (cluHalted k.val s)
  have hhalted : cluHalted k.val s = { s with
      chans := ((List.range 4).foldl (fun s j => chanHalt false (4 * k.val + j) s) s).chans
      clus := tmod {} s.clus k.val Clu.failed, ready := s.ready &&& ~~~(1#16 <<< k.val) } := by
    unfold cluHalted
    generalize (List.range 4).foldl (fun s j => chanHalt false (4 * k.val + j) s) s = h at hhframe
    rw [hhframe]
    rfl
  have hemit : cluRecord k.val (cluNotReady k.val (cluHalted k.val s)) =
      { cluNotReady k.val (cluHalted k.val s) with bcn := (cluRecord k.val (cluNotReady k.val (cluHalted k.val s))).bcn } := emit_frame _ _
  generalize (List.range 4).foldl (fun s j => chanHalt false (4 * k.val + j) s) s = h at hhframe hhalt hhalted
  generalize cluHalted k.val s = v at hhalted hnframe hemit hfail hend
  generalize cluNotReady k.val v = u at hnframe hemit hfail hend
  generalize cluRecord k.val u = w at hemit hfail
  have hx : stepFail k.val src s = { s with
      chans := u.chans, sec := (stepFail k.val src s).sec, bcn := (stepFail k.val src s).bcn
      flt := { s.flt with line := [{ src := src, inst := k.val, cls := .c2, detail := det }] }
      clus := tmod {} s.clus k.val Clu.failed, ready := s.ready &&& ~~~(1#16 <<< k.val) } := by
    rw [hhalted] at hnframe
    rw [hfail, hemit, hnframe]
    simp only [raise, hline, List.nil_append]
  obtain ⟨hframe, hclu⟩ : OnCap (stepFail k.val src s) t := onCap_settle s (stepFail k.val src s) (by rw [hx]; exact hctl) (by rw [hx]; simp [Quiet])
  clear_value t
  obtain ⟨cap, hcap⟩ := hclu k.val
  have hchan (c : Nat) : t.chan c = u.chan c := by
    rw [State.chan, show t.chans = (stepFail k.val src s).chans by rw [hframe], hx]
    rfl
  have hready : t.ready = s.ready &&& ~~~(1#16 <<< k.val) := by
    rw [show t.ready = (stepFail k.val src s).ready by rw [hframe], hx]
  have hk : (stepFail k.val src s).clu k.val = (s.clu k.val).failed := by
    rw [hx]
    exact tget_tmod_same _ _ _ _
  refine ⟨?_, ?_, fun j hj => ?_⟩
  · rw [State.cluReady, hready]
    have : k.val < 16 := by have := k.isLt; omega
    simp [this]
  · rw [hcap, hk]
  · rw [hchan]
    refine Halted.stopped ?_ (hend j hj)
    rw [hhalted]
    exact hhalt j hj

/-! ### The obligation -/

/-- A parity alert outside a storm, to the end of its command. -/
theorem parityAlert_settled {s : State} {c d : Nat} (hcalm : Calm s) (htick : ((s.chan c).q.slice d).alertsTick + 1 < 4)
    (hround : ((s.chan c).q.slice d).alertsRound + 1 < 64) :
    ∃ t info, settle s (parityAlert c d false s) = t ∧
      (t.chan c).q = (s.chan c).q.alerted (alertLat (s.clu (cluOf c)).step) d info ∧ (t.chan c).i = (s.chan c).i ∧
      t.mem = s.mem ∧ t.chk = s.chk ∧ t.ports = s.ports := by
  obtain ⟨hline, hctl⟩ := hcalm
  obtain ⟨info, det, ev, halert⟩ := parityAlert_of_no_storm htick hround
  rw [emit_frame] at halert
  have hevent : (parityAlert c d false s).flt.line = [{ src := 15, inst := c, cls := .c1, detail := det }] := by
    rw [halert]
    simp [raiseInj, hline, State.modClu, State.modSched, State.modChan]
  obtain ⟨hflt, -⟩ := settle_quiet s (parityAlert c d false s) (by rw [halert]; exact hctl) (by rw [hevent]; simp [Quiet]) (by rw [halert]; rfl)
  refine ⟨_, info, rfl, ?_, ?_, ?_, ?_, ?_⟩
  · rw [hflt, halert]
    exact State.modSched_q s c _
  · rw [hflt, halert]
    exact State.modSched_i s c c _
  all_goals
    rw [hflt, halert]
    rfl

/-- Settles O40: a failure halts the four channels and ends their requests; an alert outside a storm starts its episode. -/
theorem clusterFailuresStopTheCluster : Obligations.ClusterFailuresStopTheCluster := by
  refine ⟨fun s k i hcalm hi => ?_, fun s c d hcalm hon hdoom => ?_⟩
  · obtain ⟨src, hexec⟩ : ∃ src, exec i s = .next (settle s (stepFail k.val src s)) := by
      rcases hi with ⟨rfl, hstep⟩ | ⟨rfl, hdom, hls⟩
      · exact ⟨16, congrArg Host.Outcome.next (if_pos hstep)⟩
      · exact ⟨20, congrArg Host.Outcome.next (if_pos (by simp [hdom, hls]))⟩
    obtain ⟨hready, hclu, hchans⟩ := stepFail_stops k src hcalm
    refine ⟨_, hexec, hready, ?_, ?_, ?_, fun j hj => ?_⟩
    · rw [hclu]; rfl
    · rw [hclu]; rfl
    · rw [hclu]; rfl
    · obtain ⟨hinteg, hsr, hqueue, hlink, hdone⟩ := hchans j hj
      exact ⟨hsr, hqueue, hlink, congrArg Integ.merge hinteg, hdone⟩
  · intro q lat htick hround
    obtain ⟨t, info, ht, hq, hinteg, hmem, hchk, hports⟩ := parityAlert_settled hcalm htick hround
    have hexec : exec (.parityAlert c d) s = .next t :=
      congrArg Host.Outcome.next ((if_pos (by simp [hon, hdoom])).trans ht)
    obtain ⟨hshown, hcount, hcnt, hqueue⟩ := alerted_facts lat d.val info q
    refine ⟨t, hexec, ?_, ?_, ?_, fun x hx => ?_, fun hx => ?_, ?_, hinteg, hmem, hchk, hports⟩
    all_goals rw [hq]
    · exact hshown
    · exact hcount
    · exact hcnt
    · exact alerted_of_erroneous hx info
    · exact alerted_of_none hx info
    · exact hqueue

end Sys2Proof.Machine
end

section
/-! SUPPORT. What the ticks of a frequency step do with channels that have nothing on their way (R154, R155), and the obligation on them. -/

namespace Sys2Proof.Machine

/-! ### A slice goes into self-refresh, or leaves it (R152, R155) -/

/-- PREA closes every row of an awake slice. -/
theorem rows_prea {q : Sched} {step d : Nat} (hsr : (q.slice d).sr = false) (hal : (q.slice d).alert = false) :
    ∀ j < 8, ((q.prea step d).bank (8 * d + j)).row = none := by
  obtain ⟨-, -, hrow⟩ := foldl_touches (get := Sched.bank) (I := fun _ => True) (C := fun _ _ => True) (P := fun _ _ y => y.row = none)
    (f := fun q j => q.modBank (8 * d + j) (fun x => { x.shut with rdyAct := max x.rdyAct (q.clk + tRP step) })) (fun j => 8 * d + j)
    (fun _ _ _ _ => trivial) (fun q j b _ _ hb => (Sched.bank_modBank _ _ _ _).trans (if_neg hb))
    (fun q j _ _ => by rw [Sched.bank_modBank, if_pos rfl]; rfl) (l := List.range 8)
    (List.nodup_range.map (fun _ _ h => Nat.add_left_cancel h)) (s := q.log .prea d 0 0) trivial (fun _ _ => trivial)
  intro j hj
  rw [Sched.prea, if_neg (by simp [hsr, hal])]
  exact hrow j (List.mem_range.2 hj)

/-- An awake slice can be made ready for SRE. -/
theorem rows_allClosed {q : Sched} {d : Nat} (step : Nat) (hsr : (q.slice d).sr = false) (hal : (q.slice d).alert = false) :
    ∀ j < 8, ((q.allClosed step d).bank (8 * d + j)).row = none := by
  unfold Sched.allClosed
  split
  next h => simpa using h
  next =>
    have hdue : (q.due step (.prea d)).isSome = true := by simp [Sched.due, hsr]
    obtain ⟨n, hn⟩ := Option.isSome_iff_exists.1 hdue
    have huntil : q.until step (.prea d) = some { q with clk := max (q.clk + 1) n } := by rw [Sched.until, hn]; rfl
    rw [huntil]
    exact rows_prea (q := { q with clk := max (q.clk + 1) n }) hsr hal

/-- A slice whose die shows no parity alert goes into self-refresh when it is sent there, and no other slice changes. -/
theorem sleep_facts {q : Sched} {d : Nat} (step tick : Nat) (doubled : Bool) (hal : (q.slice d).alert = false) :
    ((q.sleep step tick doubled d).slice d).sr = true := by
  rw [sleep_eq]
  split
  next => exact (sre_facts _ _ _ _).2.1
  next hsr =>
    have hsr : (q.slice d).sr = false := by simpa using hsr
    have hrows := rows_allClosed step hsr hal
    have hslice : (q.allClosed step d).slice d = q.slice d := slice_congr (allClosed_keeps step d q).2 d
    have hdue : ((q.allClosed step d).due step (.sre d)).isSome = true := by
      simp only [Sched.due, hslice, hsr]
      simpa using hrows
    obtain ⟨n, hn⟩ := Option.isSome_iff_exists.1 hdue
    rw [if_neg (by simp [hal]), Sched.entered, Sched.until, hn]
    exact (sre_facts _ _ _ _).2.1

theorem slice_sleep_ne (step tick : Nat) (doubled : Bool) (q : Sched) {d e : Nat} (he : e ≠ d) :
    (q.sleep step tick doubled d).slice e = q.slice e := by
  rw [sleep_eq]
  split
  · exact (sre_facts _ _ _ _).2.2 e he
  · split
    · rfl
    · have hclosed : (q.allClosed step d).slice e = q.slice e := slice_congr (allClosed_keeps step d q).2 e
      unfold Sched.entered
      split
      next u hu =>
        have hu' : u.slice e = (q.allClosed step d).slice e := slice_congr (slices_until hu) e
        rw [(sre_facts _ _ _ _).2.2 e he, slice_congr (slices_log _ _ _ _ _ _), hu', hclosed]
      next => exact hclosed

/-- A slice whose die shows no parity alert is awake after it has been told to leave self-refresh, and no other slice changes. -/
theorem exitSr_facts (step tick : Nat) (q : Sched) (d : Nat) :
    ((q.slice d).alert = false → ((q.exitSr step tick d).slice d).sr = false) ∧
      ∀ e, e ≠ d → (q.exitSr step tick d).slice e = q.slice e := by
  have hsrx (r : Sched) (hr : r.slices = q.slices) : (r.slice d).sr = true →
      ((r.srx step tick d).slice d).sr = false ∧ ∀ e, e ≠ d → (r.srx step tick d).slice e = q.slice e := by
    intro hsr
    have htimer := (timer_keeps r tick d).2
    rw [Sched.srx, if_pos hsr]
    refine ⟨by rw [Sched.slice_modSlice, if_pos rfl], fun e he => ?_⟩
    rw [Sched.slice_modSlice, if_neg he, slice_congr htimer, slice_congr hr]
  unfold Sched.exitSr
  by_cases hal : (q.slice d).alert = true
  · rw [if_pos hal]
    exact ⟨fun h => absurd h (by simp [hal]), fun _ _ => rfl⟩
  · rw [if_neg hal]
    by_cases hsr : (q.slice d).sr = true
    · have huntil : q.until step (.srx d) = some { q with clk := max (q.clk + 1) ((q.slice d).rdy + tCKESR step) } := by
        simp [Sched.until, Sched.due, hsr]
      rw [huntil]
      obtain ⟨hout, hother⟩ := hsrx (({ q with clk := max (q.clk + 1) ((q.slice d).rdy + tCKESR step) } : Sched).log .srx d 0 0)
        (slices_log _ _ _ _ _ _) hsr
      exact ⟨fun _ => hout, hother⟩
    · have huntil : q.until step (.srx d) = none := by simp [Sched.until, Sched.due, hsr]
      rw [huntil]
      exact ⟨fun _ => by simpa using hsr, fun _ _ => rfl⟩

/-- The slices of a channel to which commands still go are as `sr` says. -/
def SlicesSr (sr : Bool) (x : Chan) : Prop := ∀ d < 16, doomed x.i d = false → (x.q.slice d).sr = sr

/-- A channel with nothing on its way. -/
def Chan.IsStill (x : Chan) : Prop :=
  x.q.flights = [] ∧ x.q.alertDue = none ∧ x.q.replay = [] ∧ ∀ d < 16, (x.q.slice d).alert = false

theorem cluSr_of_slices {sr : Bool} {k : Nat} {s : State} (h : ∀ j < 4, SlicesSr sr (s.chan (4 * k + j))) : cluSr sr k s = true := by
  simp only [cluSr, List.all_eq_true, List.mem_range, Bool.or_eq_true, beq_iff_eq]
  intro j hj d hd
  cases hdoom : doomed (s.chan (4 * k + j)).i d with
  | true => exact .inl rfl
  | false => exact .inr (h j hj d hd hdoom)

/-- Each slice to which commands still go changes once. -/
theorem foldl_slices {f : Sched → Nat → Sched} {sr : Bool} {x : Chan} (hother : ∀ q d e, e ≠ d → (f q d).slice e = q.slice e)
    (hsr : ∀ q d, (q.slice d).alert = false → ((f q d).slice d).sr = sr) (h : x.IsStill) :
    ∀ d < 16, doomed x.i d = false → ((((List.range 16).filter (fun d => !doomed x.i d)).foldl f x.q).slice d).sr = sr := by
  obtain ⟨-, -, -, halert⟩ := h
  obtain ⟨-, -, hslices⟩ := foldl_touches (get := Sched.slice) (I := fun _ => True) (C := fun _ y => y.alert = false)
    (P := fun _ _ y => y.sr = sr) (f := f) id (fun _ _ _ _ => trivial) (fun q d e _ _ he => hother q d e he) (fun q d _ hc => hsr q d hc)
    (l := (List.range 16).filter (fun d => !doomed x.i d)) (by rw [List.map_id]; exact List.nodup_range.filter _) (s := x.q) trivial
    (fun d hd => halert d (List.mem_range.1 (List.mem_of_mem_filter hd)))
  intro d hd hdoom
  exact hslices d (List.mem_filter.2 ⟨List.mem_range.2 hd, by simp [hdoom]⟩)

/-! ### The ticks T1 to T3 -/

/-- Nothing lands on a channel that is still. -/
theorem landAll_of_still {s : State} {ch : Nat} (h : Claims.Still s ch) :
    landAll ch s = { s with chans := (landAll ch s).chans } ∧ ∀ c, (landAll ch s).chan c = s.chan c := by
  obtain ⟨hfl, -⟩ := h
  have hland : landAll ch s = s.modSched ch (fun q => { q with clk := maxOf (q.clk :: q.flights.map (·.due)) }) := by
    simp [landAll, land, hfl]
  refine ⟨by rw [hland]; rfl, fun c => ?_⟩
  rw [hland, State.modSched, State.chan_modChan]
  split
  next hc =>
    subst hc
    have hclk : maxOf ((s.chan c).q.clk :: (s.chan c).q.flights.map (·.due)) = (s.chan c).q.clk := by simp [hfl, maxOf]
    rw [hclk]
  next => rfl

theorem chanSleep_sleeps {s : State} {ch : Nat} (doubled : Bool) (h : (s.chan ch).IsStill) :
    SlicesSr true ((chanSleep doubled ch s).chan ch) := by
  intro d hd hdoom
  rw [chanSleep, State.chan_modChan, if_pos rfl] at hdoom ⊢
  exact foldl_slices (fun q d e he => slice_sleep_ne _ _ _ q he) (fun q d hal => sleep_facts _ _ _ hal) h d hd hdoom

/-- T1 on one channel: its slices go into self-refresh, and no maintenance is left. -/
def sleepT1 (ch : Nat) (s : State) : State :=
  (chanSleep s.ls.on ch (recover ch 80 (landAll ch s))).modSched ch (fun q => { q with maint := [] })

theorem sleepT1_facts {s : State} {ch : Nat} (h : Claims.Still s ch) :
    sleepT1 ch s = { s with chans := (sleepT1 ch s).chans } ∧ (∀ c, c ≠ ch → (sleepT1 ch s).chan c = s.chan c) ∧
      ((sleepT1 ch s).chan ch).i = (s.chan ch).i ∧ SlicesSr true ((sleepT1 ch s).chan ch) := by
  obtain ⟨hf, hc⟩ := landAll_of_still h
  have hstill : Claims.Still (landAll ch s) ch := by rw [Claims.Still, hc]; exact h
  rw [sleepT1, recover_of_still hstill]
  generalize landAll ch s = t at hf hc hstill
  refine ⟨?_, fun c hne => ?_, ?_, ?_⟩
  · rw [hf]; rfl
  · rw [State.modSched, State.chan_modChan, if_neg hne, chanSleep, State.chan_modChan, if_neg hne, hc]
  · rw [State.modSched_i, chanSleep, State.chan_modChan, if_pos rfl, hc]
  · have hsleep := chanSleep_sleeps s.ls.on (s := t) hstill
    intro d hd hdoom
    rw [State.modSched_i] at hdoom
    rw [State.modSched_q]
    exact hsleep d hd hdoom

/-- T3 on one channel: its slices leave self-refresh, and no maintenance is left. -/
def wakeT3 (step ch : Nat) (s : State) : State :=
  (recover ch 80 s).modChan ch (fun x => { x with q :=
    { (((List.range 16).filter (fun d => !doomed x.i d)).foldl (Sched.exitSr step (recover ch 80 s).day.tick) x.q) with maint := [] } })

theorem wakeT3_facts {s : State} {ch : Nat} (step : Nat) (h : Claims.Still s ch) :
    wakeT3 step ch s = { s with chans := (wakeT3 step ch s).chans } ∧ (∀ c, c ≠ ch → (wakeT3 step ch s).chan c = s.chan c) ∧
      ((wakeT3 step ch s).chan ch).i = (s.chan ch).i ∧ SlicesSr false ((wakeT3 step ch s).chan ch) := by
  rw [wakeT3, recover_of_still h]
  refine ⟨rfl, fun c hne => ?_, ?_, ?_⟩
  · rw [State.chan_modChan, if_neg hne]
  · rw [State.chan_modChan, if_pos rfl]
  · intro d hd hdoom
    rw [State.chan_modChan, if_pos rfl] at hdoom ⊢
    exact foldl_slices (fun q d e he => (exitSr_facts _ _ q d).2 e he) (fun q d hal => (exitSr_facts _ _ q d).1 hal) h d hd hdoom

/-- What an operation on the channels of cluster `k` may change, when each step keeps to its own channel. -/
theorem cluster_channels {f : State → Nat → State} {C : Nat → Chan → Prop} {P : Chan → Chan → Prop} {k : Nat} {s : State}
    (hf : ∀ t j, t = { s with chans := t.chans } → C j (t.chan (4 * k + j)) → f t j = { t with chans := (f t j).chans } ∧
      (∀ c, c ≠ 4 * k + j → (f t j).chan c = t.chan c) ∧ P (t.chan (4 * k + j)) ((f t j).chan (4 * k + j)))
    (hC : ∀ j < 4, C j (s.chan (4 * k + j))) :
    (List.range 4).foldl f s = { s with chans := ((List.range 4).foldl f s).chans } ∧
      (∀ c, cluOf c ≠ k → ((List.range 4).foldl f s).chan c = s.chan c) ∧
      ∀ j < 4, P (s.chan (4 * k + j)) (((List.range 4).foldl f s).chan (4 * k + j)) := by
  obtain ⟨hframe, hother, hP⟩ := foldl_touches (get := State.chan) (I := fun t => t = { s with chans := t.chans }) (C := C)
    (P := fun _ => P) (f := f) (fun j => 4 * k + j) (fun t j h hc => by rw [(hf t j h hc).1, h])
    (fun t j c h hc hne => (hf t j h hc).2.1 c hne) (fun t j h hc => (hf t j h hc).2.2) (channels_nodup k 4) rfl (fun j hj => hC j (List.mem_range.1 hj))
  refine ⟨hframe, fun c hc => hother c fun hmem => hc ?_, fun j hj => hP j (List.mem_range.2 hj)⟩
  obtain ⟨j, hj, rfl⟩ := List.mem_map.1 hmem
  have := List.mem_range.1 hj
  rw [cluOf]; omega

/-- The end of a command that changed only clusters and channels. -/
theorem settle_onClu {s t : State} {k : CluId} (hcalm : Calm s) (h : Claims.OnlyClu s t k) : settle s t = t := by
  obtain ⟨hf, -, -⟩ := h
  exact settle_ports s t (by rw [hf]; exact hcalm) (by rw [hf]) (by rw [hf])

/-- Cluster `k` changed after its channels. -/
theorem onlyClu_modClu {s t : State} {k : CluId} (f : Clu → Clu) (hf : t = { s with chans := t.chans })
    (hc : ∀ c, cluOf c ≠ k.val → t.chan c = s.chan c) :
    Claims.OnlyClu s (t.modClu k.val f) k ∧ (t.modClu k.val f).clu k.val = f (s.clu k.val) := by
  have hclu (j : Nat) : t.clu j = s.clu j := by rw [hf]; rfl
  refine ⟨⟨?_, fun j hj => ?_, hc⟩, ?_⟩
  · rw [hf]; rfl
  · rw [State.clu_modClu, if_neg hj, hclu]
  · rw [State.clu_modClu, if_pos rfl, hclu]

/-- T1 (R155). -/
theorem stepT1_facts {s : State} {k : CluId} (htick : (s.clu k.val).stepTick = 1) (hdone : (s.clu k.val).t1Done = false)
    (hstill : ∀ j < 4, Claims.Still s (4 * k.val + j)) :
    Claims.OnlyClu s (stepT1 k.val s) k ∧
      (stepT1 k.val s).clu k.val = { s.clu k.val with t1Done := true, step := (s.clu k.val).stepTo, clkStop := true } ∧
      ∀ j < 4, ((stepT1 k.val s).chan (4 * k.val + j)).i = (s.chan (4 * k.val + j)).i ∧
        SlicesSr true ((stepT1 k.val s).chan (4 * k.val + j)) := by
  obtain ⟨hf, hc, hP⟩ := cluster_channels (f := fun t j => sleepT1 (4 * k.val + j) t) (C := fun _ => Chan.IsStill)
    (P := fun x y => y.i = x.i ∧ SlicesSr true y) (fun t j _ h => sleepT1_facts h) hstill
  have hstep : stepT1 k.val s = if cluSr true k.val ((List.range 4).foldl (fun t j => sleepT1 (4 * k.val + j) t) s) then
      ((List.range 4).foldl (fun t j => sleepT1 (4 * k.val + j) t) s).modClu k.val
        (fun u => { u with t1Done := true, step := u.stepTo, clkStop := true })
      else (List.range 4).foldl (fun t j => sleepT1 (4 * k.val + j) t) s := if_pos (by simp [htick, hdone])
  generalize (List.range 4).foldl (fun t j => sleepT1 (4 * k.val + j) t) s = t at hf hc hP hstep
  rw [hstep, if_pos (cluSr_of_slices fun j hj => (hP j hj).2)]
  obtain ⟨honly, hclu⟩ := onlyClu_modClu (fun u => { u with t1Done := true, step := u.stepTo, clkStop := true }) hf hc
  exact ⟨honly, hclu, hP⟩

/-- T3 (R155). -/
theorem stepT3_facts {s : State} {k : CluId} (htick : (s.clu k.val).stepTick = 3) (hdone : (s.clu k.val).t3Done = false)
    (hphy : (s.clu k.val).phyBad = false) (hstill : ∀ j < 4, Claims.Still s (4 * k.val + j)) (ok : Bool) :
    Claims.OnlyClu s (stepT3 k.val ok s) k ∧ (stepT3 k.val ok s).clu k.val = { s.clu k.val with t3Done := ok, clkStop := false } ∧
      ∀ j < 4, ((stepT3 k.val ok s).chan (4 * k.val + j)).i = (s.chan (4 * k.val + j)).i ∧
        SlicesSr false ((stepT3 k.val ok s).chan (4 * k.val + j)) := by
  obtain ⟨hf, hc, hP⟩ := cluster_channels (f := fun t j => wakeT3 (s.clu k.val).step (4 * k.val + j) t) (C := fun _ => Chan.IsStill)
    (P := fun x y => y.i = x.i ∧ SlicesSr false y) (fun t j _ h => wakeT3_facts _ h) hstill
  have hstep : stepT3 k.val ok s = ((List.range 4).foldl (fun t j => wakeT3 (s.clu k.val).step (4 * k.val + j) t) s).modClu k.val
      (fun u => { u with
        t3Done := ok && cluSr false k.val ((List.range 4).foldl (fun t j => wakeT3 (s.clu k.val).step (4 * k.val + j) t) s)
        clkStop := false }) := if_pos (by simp [htick, hdone, hphy])
  generalize (List.range 4).foldl (fun t j => wakeT3 (s.clu k.val).step (4 * k.val + j) t) s = t at hf hc hP hstep
  rw [hstep, cluSr_of_slices fun j hj => (hP j hj).2]
  obtain ⟨honly, hclu⟩ := onlyClu_modClu (fun u => { u with t3Done := ok && true, clkStop := false }) hf hc
  exact ⟨honly, by rw [hclu, Bool.and_true], hP⟩

/-! ### T2 without lock (R155, R174) -/

/-- Every TSV of the list that is not declared failed is a suspect. -/
theorem suspects_foldl (tick : Nat) (l : List Nat) (i : Integ) :
    (l.foldl (fun i t => i.suspect tick t) i).declared = i.declared ∧
      (∀ n ∈ i.suspects.map (·.1), n ∈ (l.foldl (fun i t => i.suspect tick t) i).suspects.map (·.1)) ∧
      ∀ n ∈ l, n ∉ i.declared → n ∈ (l.foldl (fun i t => i.suspect tick t) i).suspects.map (·.1) := by
  induction l generalizing i with
  | nil => exact ⟨rfl, fun _ h => h, fun _ h => nomatch h⟩
  | cons t l ih =>
    obtain ⟨hdecl, hkeep, hnew⟩ := ih (i.suspect tick t)
    have hone : (i.suspect tick t).declared = i.declared ∧ (∀ n ∈ i.suspects.map (·.1), n ∈ (i.suspect tick t).suspects.map (·.1)) ∧
        (t ∉ i.declared → t ∈ (i.suspect tick t).suspects.map (·.1)) := by
      unfold Integ.suspect
      split
      next h =>
        refine ⟨rfl, fun _ h => h, fun hn => ?_⟩
        have hany : i.suspects.any (fun x => x.1 = t) = true := by simpa [hn] using h
        obtain ⟨x, hx, he⟩ := List.any_eq_true.1 hany
        exact List.mem_map.2 ⟨x, hx, by simpa using he⟩
      next => exact ⟨rfl, fun n hn => by simp only [List.map_append, List.mem_append]; exact .inl hn, fun _ => by simp⟩
    obtain ⟨hdecl', hkeep', hnew'⟩ := hone
    rw [List.foldl_cons]
    refine ⟨hdecl.trans hdecl', fun n hn => hkeep n (hkeep' n hn), fun n hn hnot => ?_⟩
    rcases List.mem_cons.1 hn with rfl | hn
    · exact hkeep n (hnew' hnot)
    · exact hnew n hn (by rwa [hdecl'])

theorem stepT2_unlocked {s : State} {k : CluId} (htick : (s.clu k.val).stepTick = 2) :
    Claims.OnlyClu s (stepT2 k.val false s) k ∧ (stepT2 k.val false s).clu k.val = { s.clu k.val with phyBad := true } ∧
      ∀ j < 4, ∀ n < 324, n ∉ (s.chan (4 * k.val + j)).i.declared → n ∈ ((stepT2 k.val false s).chan (4 * k.val + j)).i.suspects.map (·.1) := by
  obtain ⟨⟨hm, hother, -⟩, hclu⟩ := onlyClu_modClu (s := s) (t := s) (k := k) (fun u => { u with phyBad := true }) rfl (fun _ _ => rfl)
  have hstep : stepT2 k.val false s = (List.range 4).foldl (fun t j => t.modInteg (4 * k.val + j) (fun i =>
      (List.range 324).foldl (fun i n => i.suspect t.day.tick n) i)) (s.modClu k.val (fun u => { u with phyBad := true })) :=
    if_pos (by simp [htick])
  obtain ⟨hf, hc, hP⟩ := cluster_channels (k := k.val) (s := s.modClu k.val (fun u => { u with phyBad := true }))
    (f := fun t j => t.modInteg (4 * k.val + j) (fun i => (List.range 324).foldl (fun i n => i.suspect t.day.tick n) i))
    (C := fun _ _ => True) (P := fun x y => ∀ n < 324, n ∉ x.i.declared → n ∈ y.i.suspects.map (·.1))
    (fun t j _ _ => ⟨rfl, fun c hne => (onChan_modChan _ _ _).2 c hne, fun n hn hnot => by
      rw [State.modInteg_i]
      exact (suspects_foldl _ _ _).2.2 n (List.mem_range.2 hn) hnot⟩) (fun _ _ => trivial)
  rw [hstep]
  generalize (List.range 4).foldl _ (s.modClu k.val _) = t at hf hc hP
  have hclus (j : Nat) : t.clu j = (s.modClu k.val (fun u => { u with phyBad := true })).clu j := by rw [hf]; rfl
  exact ⟨⟨by rw [hf]; rfl, fun j hj => (hclus j).trans (hother j hj), hc⟩, (hclus _).trans hclu, hP⟩

/-! ### Training (R134, R155) -/

/-- The scheduler after MRR to die `d`. -/
def Sched.mrr (d : Nat) (q : Sched) : Sched := { q with clk := max (q.clk + 1) (q.slice d).rdy }.log .mrr d 0 0

theorem mrrCmd_eq {s : State} {c d k : Nat} (hk : cluOf c = k) (htrain : (s.clu k).stepTick = 3 ∨ (s.clu k).stage = .dies)
    (hon : ctrlOn s c = true) (hawake : (s.chan c).q.awake d = true) (hdoom : doomed (s.chan c).i d = false) (ok : Bool) :
    mrrCmd c d ok s = if ok then s.modSched c (Sched.mrr d)
      else (s.modSched c (Sched.mrr d)).modClu k (fun u => { u with t3Done := false, phyBad := true }) := by
  subst hk
  exact if_pos (by simpa [hon, hawake, hdoom] using htrain)

/-- MRR is one command of its channel. -/
theorem mrr_facts (s : State) (c : ChanId) (d : Nat) :
    Claims.OnlySched s (s.modSched c.val (Sched.mrr d)) c (fun _ => False) := by
  have hq : ((s.modSched c.val (Sched.mrr d)).chan c.val).q = (s.chan c.val).q.mrr d := State.modSched_q _ _ _
  refine ⟨rfl, fun _ => rfl, (onChan_modSched _ _ _).2, State.modSched_i _ _ _ _, ?_, ?_, fun b _ => ?_⟩
  · rw [hq]; rfl
  · rw [hq]
    exact Nat.lt_of_lt_of_le (Nat.lt_succ_self _) (Nat.le_max_left _ _)
  · rw [hq]; rfl

/-! ### The end of a step (R154, R155) -/

theorem foldl_fixed_of_mem {σ α : Type} {f : σ → α → σ} {s : σ} {l : List α} (h : ∀ x ∈ l, f s x = s) : l.foldl f s = s := by
  induction l with
  | nil => rfl
  | cons x l ih => rw [List.foldl_cons, h x List.mem_cons_self, ih (fun y hy => h y (List.mem_cons_of_mem _ hy))]

/-- An empty channel without merge entries. -/
def Chan.IsIdle (x : Chan) : Prop := (x.IsStill ∧ x.q.queue = [] ∧ x.q.link = []) ∧ x.i.merge = []

theorem closeDue_of_no_merge {s : State} {ch : Nat} (h : (s.chan ch).i.merge = []) : closeDue ch s = s := by
  simp [closeDue, h]

/-- At the end of a step an empty channel without merge entries has nothing to go on with. -/
theorem stepOver_channel {s : State} {ch : Nat} (h : (s.chan ch).IsIdle) : leaveQueue ch (settleAll ch (closeDue ch s)) = s := by
  obtain ⟨⟨-, hqueue, hlink⟩, hmerge⟩ := h
  have hall : settleAll ch s = s := by simp [settleAll, hqueue]
  rw [closeDue_of_no_merge hmerge, hall, leaveQueue_of_nothing hqueue hlink]

theorem stepOver_of_idle {s : State} {k : CluId} (h : ∀ j < 4, (s.chan (4 * k.val + j)).IsIdle) :
    stepOver k.val s = s.modClu k.val (fun u => { u with
      stepTick := 4, t1Done := false, t3Done := false, sinceEnd := 0, stepCnt := satInc u.stepCnt, evt := u.evt.raise 0 }) :=
  foldl_fixed_of_mem fun j hj => stepOver_channel (h j (List.mem_range.1 hj))

/-- What the scheduler may pick on an idle channel that owes no maintenance: PRE of rows that the predictor closes (R138, R142). -/
theorem candidates_of_idle {s : State} {ch : Nat} (h : (s.chan ch).IsIdle) (hmaint : (s.chan ch).q.maint = []) :
    ∀ p ∈ candidates ch s, ∃ b, p = { cmd := .pre b } := by
  obtain ⟨⟨hstill, hqueue, -⟩, -⟩ := h
  have hep : (s.chan ch).q.episode = none := episode_of_still (s := s) hstill
  have hpicks : maintPicks ch s = [] := by simp [maintPicks, hmaint]
  intro p hp
  unfold candidates at hp
  simp only [hep, hpicks, hqueue] at hp
  split at hp
  · cases hp
  · simp only [List.filter_nil, List.flatMap_nil, List.filterMap_nil, List.nil_append, List.map_map, List.mem_map, List.flatMap_cons] at hp
    obtain ⟨y, -, rfl⟩ := hp
    exact ⟨y.1, rfl⟩

theorem overrunCheck_of_no_maint {s : State} {ch : Nat} (h : (s.chan ch).q.maint = []) : overrunCheck ch s = s := by
  simp [overrunCheck, maintLeft, maintPicks, h]

theorem pre_keeps (q : Sched) (step b : Nat) : (q.pre step b).clk = q.clk ∧ (q.pre step b).maint = q.maint := by
  unfold Sched.pre
  dsimp only
  split <;> exact ⟨rfl, rfl⟩

/-- A scheduler one clock on, in mode `w`. -/
def Sched.clocked (w : Bool) (q : Sched) : Sched := { q with clk := q.clk + 1, writeMode := w }

/-- A command that the scheduler has picked goes out. -/
def pickOut (ch : Nat) (p : Option Pick) (s : State) : State :=
  match p with
  | some p => injectParity ch p.cmd (issue ch p s)
  | none => s

/-- A pick for the column bus, where `q` says which reissue is next. -/
def Pick.onCol (q : Sched) (p : Pick) : Bool := p.cmd.isCol || (p.cmd == .replay && replayCol q)

/-- The commands that go out in one clock, of the picks `cs` (R134, R138). -/
def clockOut (ch step : Nat) (cs : List Pick) (s : State) : State :=
  let t := pickOut ch (cs.find? (fun p => !p.onCol (s.chan ch).q)) s
  overrunCheck ch (pickOut ch (cs.find? (fun p => p.onCol (s.chan ch).q && legal (t.chan ch).q step p.cmd &&
    (p.cmd != .replay || (t.chan ch).q.replay = (s.chan ch).q.replay))) t)

/-- The picks that may go out now (R138, R143, R178). -/
def picksNow (ch step : Nat) (s : State) : List Pick :=
  (candidates ch s).filter (fun p => legal (s.chan ch).q step p.cmd && !doomed (s.chan ch).i (p.cmd.die (s.chan ch).q))

/-- A clock lets time pass, sets the mode and sends out what it picks. -/
theorem schedClock_eq (ch : Nat) (s t : State) (ht : t = closeDue ch (raiseDue ch (land ch (s.modSched ch (fun q => { q with clk := q.clk + 1 }))))) :
    schedClock ch s = clockOut ch (s.clu (cluOf ch)).step
      (picksNow ch (s.clu (cluOf ch)).step (t.modSched ch (fun q => { q with writeMode := nextMode ch t })))
      (t.modSched ch (fun q => { q with writeMode := nextMode ch t })) := by
  unfold schedClock
  dsimp only
  rw [← ht]
  generalize t.modSched ch _ = u
  rfl

/-- Of PRE commands at most one goes out in a clock. -/
theorem clockOut_of_pre {s : State} {ch : Nat} (step : Nat) {cs : List Pick} (hcs : ∀ p ∈ cs, ∃ b, p = { cmd := .pre b })
    (hmaint : (s.chan ch).q.maint = []) (hinj : injArmed s 3 ch = none) :
    clockOut ch step cs s = s ∨ ∃ k b, clockOut ch step cs s = s.modSched ch (fun q => q.pre k b) := by
  have hcol (q : Sched) : ∀ p ∈ cs, p.onCol q = false := by
    intro p hp
    obtain ⟨b, rfl⟩ := hcs p hp
    rfl
  have hnone (q : Sched) (g : Pick → Bool) : cs.find? (fun p => p.onCol q && g p) = none :=
    List.find?_eq_none.2 fun p hp => by simp [hcol q p hp]
  have hlast (t : State) : cs.find? (fun p => p.onCol (s.chan ch).q && legal (t.chan ch).q step p.cmd &&
      (p.cmd != .replay || (t.chan ch).q.replay = (s.chan ch).q.replay)) = none := by
    simpa only [Bool.and_assoc] using hnone _ _
  unfold clockOut
  simp only [hlast]
  cases hrow : cs.find? (fun p => !p.onCol (s.chan ch).q) with
  | none => exact .inl (overrunCheck_of_no_maint hmaint)
  | some p =>
    obtain ⟨b, rfl⟩ := hcs p (List.mem_of_find?_eq_some hrow)
    have hout : pickOut ch (some { cmd := .pre b }) s = s.modSched ch (fun q => q.pre (s.clu (cluOf ch)).step b) := by
      have hinj' : injArmed (s.modSched ch (fun q => q.pre (s.clu (cluOf ch)).step b)) 3 ch = none := hinj
      change injectParity ch (.pre b) (s.modSched ch (fun q => q.pre (s.clu (cluOf ch)).step b)) = _
      unfold injectParity
      simp only [hinj']
    refine .inr ⟨(s.clu (cluOf ch)).step, b, ?_⟩
    rw [hout]
    exact overrunCheck_of_no_maint (s := s.modSched ch (fun q => q.pre (s.clu (cluOf ch)).step b))
      (by rw [State.modSched_q, (pre_keeps _ _ _).2, hmaint])

/-- A clock on an idle channel that owes no maintenance adds one clock, and changes nothing but the channel. -/
theorem schedClock_of_idle {s : State} {ch : Nat} (h : (s.chan ch).IsIdle) (hmaint : (s.chan ch).q.maint = []) (hinj : injArmed s 3 ch = none) :
    schedClock ch s = { s with chans := (schedClock ch s).chans } ∧ (∀ c, c ≠ ch → (schedClock ch s).chan c = s.chan c) ∧
      ((schedClock ch s).chan ch).q.clk = (s.chan ch).q.clk + 1 := by
  have ⟨⟨⟨hfl, hal, _⟩, _⟩, hmerge⟩ := h
  have hland : land ch (s.modSched ch (fun q => { q with clk := q.clk + 1 })) = s.modSched ch (fun q => { q with clk := q.clk + 1 }) := by
    simp [land, hfl]
  have hraise : raiseDue ch (s.modSched ch (fun q => { q with clk := q.clk + 1 })) = s.modSched ch (fun q => { q with clk := q.clk + 1 }) := by
    simp [raiseDue, hal]
  rw [schedClock_eq ch s (s.modSched ch (fun q => { q with clk := q.clk + 1 }))
    (by rw [hland, hraise, closeDue_of_no_merge (by rw [State.modSched_i, hmerge])])]
  have hmode (w : Bool) : (s.modSched ch (fun q => { q with clk := q.clk + 1 })).modSched ch (fun q => { q with writeMode := w }) =
      s.modSched ch (Sched.clocked w) := by
    simp only [State.modSched, State.modChan, tmod, tget_tset_same, tset_tset, Sched.clocked]
  rw [hmode]
  generalize nextMode ch _ = w
  have hidle : ((s.modSched ch (Sched.clocked w)).chan ch).IsIdle := by
    rw [State.modSched, State.chan_modChan, if_pos rfl]
    exact h
  have hmaint' : ((s.modSched ch (Sched.clocked w)).chan ch).q.maint = [] := by rw [State.modSched_q]; exact hmaint
  have hclk : ((s.modSched ch (Sched.clocked w)).chan ch).q.clk = (s.chan ch).q.clk + 1 := by rw [State.modSched_q]; rfl
  have hother := (onChan_modSched s ch (Sched.clocked w)).2
  have hpicks := candidates_of_idle hidle hmaint'
  rcases clockOut_of_pre (s.clu (cluOf ch)).step (cs := picksNow ch (s.clu (cluOf ch)).step (s.modSched ch (Sched.clocked w)))
      (fun p hp => hpicks p (List.mem_of_mem_filter hp)) hmaint' hinj with hout | ⟨step, b, hout⟩
  · rw [hout]
    exact ⟨rfl, hother, hclk⟩
  · rw [hout]
    refine ⟨rfl, fun c hc => ((onChan_modSched _ ch _).2 c hc).trans (hother c hc), ?_⟩
    rw [State.modSched_q, (pre_keeps _ _ _).1, hclk]

/-- FREQ_STEP_END lets the channels go on in their next clock (R155). -/
theorem stepEnd_of_idle {s : State} {k : CluId} (htick : (s.clu k.val).stepTick = 4) (hdom : s.domOn (36 + k.val) = true)
    (hls : s.ls.on = false) (hidle : ∀ j < 4, (s.chan (4 * k.val + j)).IsIdle)
    (hfree : ∀ j < 4, (s.chan (4 * k.val + j)).q.maint = [] ∧ injArmed s 3 (4 * k.val + j) = none) :
    Claims.OnlyClu s (stepEnd k.val s) k ∧ (stepEnd k.val s).clu k.val = { s.clu k.val with stepTick := 0 } ∧
      ∀ j < 4, ((stepEnd k.val s).chan (4 * k.val + j)).q.clk = (s.chan (4 * k.val + j)).q.clk + 1 := by
  obtain ⟨⟨hm, hother, -⟩, hclu⟩ := onlyClu_modClu (s := s) (t := s) (k := k) (fun u => { u with stepTick := 0 }) rfl (fun _ _ => rfl)
  have hstep : stepEnd k.val s = (List.range 4).foldl (fun t j => if ctrlOn t (4 * k.val + j) then schedClock (4 * k.val + j) t else t)
      (s.modClu k.val (fun u => { u with stepTick := 0 })) := if_pos htick
  obtain ⟨hf, hc, hP⟩ := cluster_channels (k := k.val) (s := s.modClu k.val (fun u => { u with stepTick := 0 }))
    (f := fun t j => if ctrlOn t (4 * k.val + j) then schedClock (4 * k.val + j) t else t)
    (C := fun j x => j < 4 ∧ x.IsIdle ∧ x.q.maint = []) (P := fun x y => y.q.clk = x.q.clk + 1)
    (fun t j ht hC => by
      obtain ⟨hj, hi, hmaint⟩ := hC
      have hon : ctrlOn t (4 * k.val + j) = true := by
        have hk : cluOf (4 * k.val + j) = k.val := by rw [cluOf]; omega
        have hdom' : t.domOn (36 + k.val) = true := by rw [ht]; exact hdom
        have hls' : t.ls.on = false := by rw [ht]; exact hls
        simp [ctrlOn, hk, hdom', hls']
      have hinj : injArmed t 3 (4 * k.val + j) = none := by rw [ht]; exact (hfree j hj).2
      rw [if_pos hon]
      exact schedClock_of_idle hi hmaint hinj) (fun j hj => ⟨hj, hidle j hj, (hfree j hj).1⟩)
  rw [hstep]
  generalize (List.range 4).foldl _ (s.modClu k.val _) = t at hf hc hP
  have hclus (j : Nat) : t.clu j = (s.modClu k.val (fun u => { u with stepTick := 0 })).clu j := by rw [hf]; rfl
  exact ⟨⟨by rw [hf]; rfl, fun j hj => (hclus j).trans (hother j hj), hc⟩, (hclus _).trans hclu, hP⟩

/-- Where no CLUSTER_STEP waits for the cluster, none is answered. -/
theorem answerStep_of_none {s : State} {k : Nat} (h : ∀ m < 5, ∀ was, (s.mbx m).wait ≠ some (.step k was)) : answerStep k s = s := by
  refine foldl_fixed_of_mem fun m hm => ?_
  have hno := h m (List.mem_range.1 hm)
  split
  next j was hst hwait => exact if_neg fun hj => hno was (by rw [hwait, hj])
  next => rfl

/-- Settles O39: each tick of the step, followed through the four channels of its cluster. -/
theorem frequencyStepTicks : Obligations.FrequencyStepTicks := by
  intro s k hcalm u
  refine ⟨fun htick hdone hstill => ?_, fun htick => ⟨?_, ?_⟩, fun htick hdone hphy hstill ok => ?_, fun c d hk htrain hon hawake hdoom => ?_,
    fun hidle => ⟨stepOver_of_idle hidle, fun htick hdom hls hfree hwait => ?_⟩⟩
  · obtain ⟨honly, hclu, hchan⟩ := stepT1_facts htick hdone hstill
    refine ⟨_, congrArg Host.Outcome.next (settle_onClu hcalm honly), honly, hclu, fun j hj d hd hdoom => ?_⟩
    obtain ⟨hi, hsr⟩ := hchan j hj
    exact hsr d hd (by rw [hi]; exact hdoom)
  · exact congrArg Host.Outcome.next (if_neg (by simp))
  · obtain ⟨honly, hclu, hsus⟩ := stepT2_unlocked htick
    exact ⟨_, rfl, honly, hclu, hsus⟩
  · obtain ⟨honly, hclu, hchan⟩ := stepT3_facts htick hdone hphy hstill ok
    refine ⟨_, congrArg Host.Outcome.next (settle_onClu hcalm honly), honly, hclu, fun j hj d hd hdoom => ?_⟩
    obtain ⟨hi, hsr⟩ := hchan j hj
    exact hsr d hd (by rw [hi]; exact hdoom)
  · have hmrr := mrrCmd_eq hk htrain hon hawake hdoom
    obtain ⟨hf, -, hother, hi, hqueue, -, -⟩ := mrr_facts s c d.val
    refine ⟨⟨_, congrArg Host.Outcome.next (hmrr true), mrr_facts s c d.val, rfl⟩,
      ⟨_, congrArg Host.Outcome.next (hmrr false), ⟨rfl, fun j hj => ?_, hother, hi, hqueue⟩, ?_⟩⟩
    · exact (State.clu_modClu _ _ _ _).trans (if_neg (by rw [← hk]; exact hj))
    · exact (State.clu_modClu _ _ _ _).trans (if_pos rfl)
  · obtain ⟨honly, hclu, hclk⟩ := stepEnd_of_idle htick hdom hls hidle hfree
    have hanswer : answerStep k.val (stepEnd k.val s) = stepEnd k.val s := by
      refine answerStep_of_none fun m hm was => ?_
      have hmbx : (stepEnd k.val s).mbx m = s.mbx m := by rw [honly.1]; rfl
      rw [hmbx]
      exact hwait m hm was
    refine ⟨_, congrArg Host.Outcome.next ((if_pos htick).trans ?_), honly, hclu, hclk⟩
    rw [hanswer, settle_onClu hcalm honly]

end Sys2Proof.Machine
end

section
/-! SUPPORT. What the controllers that stop for lightship mode leave as it is (R154, R367, R368). -/

namespace Sys2Proof.Machine

/-- The self-refresh bits of a channel's slices. -/
def Sched.srs (q : Sched) (d : Nat) : Bool := (q.slice d).sr

/-- In lightship mode the self-refresh bits of the channels other than `x`. -/
def State.srsApart (x : Nat) (s : State) (c d : Nat) : Bool := s.ls.on && c != x && (s.chan c).q.srs d

/-- What the work of channel `x` leaves as it is: the tick's state, staged writes, ports, clocks, readiness, lightship mode, the fault word, the
events on the line that carry a cause of R366 of their own, and in lightship mode what slices of other channels are in self-refresh. -/
def State.apart (x : Nat) (s : State) :
    (Day × List (Nat × Word32) × Tab Port × Clk) × BitVec 16 × Ls × BitVec 56 × List FaultEv × (Nat → Nat → Bool) :=
  ((s.day, s.staged, s.ports, s.clk), s.ready, s.ls, s.flt.src, s.flt.line.filter (fun e => e.lsCause ≠ 0), s.srsApart x)

@[simp] theorem apart_ite (x : Nat) {c : Prop} [Decidable c] (s t : State) :
    (if c then s else t).apart x = if c then s.apart x else t.apart x := apply_ite (State.apart x) c s t

/-- A change of any field that does not show. -/
@[simp] theorem apart_mk (x : Nat) (s : State) (clus mem chk sec regions stackId tenderPart bcn pcie pwr ret snap kpr lan ll wch tnd rlyTurn free
    pending) :
    (State.mk s.day s.staged s.ports s.clk clus s.chans mem chk sec regions stackId tenderPart s.ready bcn s.flt s.ls pcie pwr ret
      snap kpr lan ll wch tnd rlyTurn free pending).apart x = s.apart x := (rfl)

@[simp] theorem apart_foldl (x : Nat) {α : Type} {f : State → α → State} (hf : ∀ s y, (f s y).apart x = s.apart x) (l : List α) (s : State) :
    (l.foldl f s).apart x = s.apart x := by
  induction l generalizing s with
  | nil => rfl
  | cons y l ih => rw [List.foldl_cons, ih, hf]

@[simp] theorem apart_foldl_fst (x : Nat) {α β : Type} {f : State × β → α → State × β} (hf : ∀ a y, (f a y).1.apart x = a.1.apart x)
    (l : List α) (a : State × β) : (l.foldl f a).1.apart x = a.1.apart x := by
  induction l generalizing a with
  | nil => rfl
  | cons y l ih => rw [List.foldl_cons, ih, hf]

/-! ### Single fields -/

/-- A change of a channel shows in its self-refresh bits only. -/
theorem apart_modChan (x : Nat) {c : Nat} {f : Chan → Chan} (s : State)
    (h : s.ls.on = true → c ≠ x → (f (s.chan c)).q.srs = (s.chan c).q.srs) : (s.modChan c f).apart x = s.apart x := by
  have hsrs : (s.modChan c f).srsApart x = s.srsApart x := by
    funext c' d
    simp only [State.srsApart, State.chan_modChan]
    change (s.ls.on && _ && _) = _
    by_cases hc : c' = c
    · subst hc
      cases hon : s.ls.on with
      | false => rfl
      | true =>
        by_cases hx : c' = x
        · simp [hx]
        · rw [if_pos rfl, h hon hx]
    · rw [if_neg hc]
  simp only [State.apart, hsrs]
  rfl

@[simp] theorem apart_modSched_same (x : Nat) (f : Sched → Sched) (s : State) : (s.modSched x f).apart x = s.apart x :=
  apart_modChan x s (fun _ h => absurd rfl h)

@[simp] theorem apart_modChan_same (x : Nat) (f : Chan → Chan) (s : State) : (s.modChan x f).apart x = s.apart x :=
  apart_modChan x s (fun _ h => absurd rfl h)

@[simp] theorem apart_modSched (x : Nat) {f : Sched → Sched} (h : ∀ q, (f q).srs = q.srs) (c : Nat) (s : State) :
    (s.modSched c f).apart x = s.apart x := apart_modChan x s (fun _ _ => h _)

@[simp] theorem apart_modInteg (x c : Nat) (f : Integ → Integ) (s : State) : (s.modInteg c f).apart x = s.apart x :=
  apart_modChan x s (fun _ _ => rfl)

@[simp] theorem apart_modClu (x k : Nat) (f : Clu → Clu) (s : State) : (s.modClu k f).apart x = s.apart x := (rfl)
@[simp] theorem apart_modSec (x : Nat) (f : Sec → Sec) (s : State) : (s.modSec f).apart x = s.apart x := (rfl)
@[simp] theorem apart_injUse (x : Nat) (s : State) : (injUse s).apart x = s.apart x := (rfl)
@[simp] theorem apart_raiseInj (x src inst : Nat) (c : Cls) (detail : BitVec 64) (inj : Bool) (s : State) :
    (raiseInj src inst c detail inj s).apart x = s.apart x := by
  simp [raiseInj, State.apart]
  rfl
@[simp] theorem apart_raise (x src inst : Nat) (c : Cls) (detail : BitVec 64) (s : State) :
    (raise src inst c detail s).apart x = s.apart x := by
  simp [raise, State.apart]
  rfl

/-! ### Self-refresh bits -/

/-- A change of any field but the slices. -/
@[simp] theorem srs_mk (q : Sched) (queue link done nextId writeMode clk lastCol lastDie lastGroup lastRead readEnd writeEnd banks doubled maint winEnd retry replay
      replayFrom replayBase flights alertDue scrubRows emptyTicks busy overran turn cnt dieAct dieCol parCnt parInfo rfmCnt rfmBlock
      places holds) :
    (Sched.mk queue link done nextId writeMode clk lastCol lastDie lastGroup lastRead readEnd writeEnd banks q.slices doubled maint winEnd retry
      replay replayFrom replayBase flights alertDue scrubRows emptyTicks busy overran turn cnt dieAct dieCol parCnt parInfo rfmCnt
      rfmBlock places holds).srs = q.srs := (rfl)

@[simp] theorem srs_modBank (q : Sched) (b : Nat) (f : Bank → Bank) : (q.modBank b f).srs = q.srs := (rfl)
@[simp] theorem srs_log (q : Sched) (cmd : DramCmd) (die bank arg : Nat) (job : Option ScrubJob) : (q.log cmd die bank arg job).srs = q.srs := (rfl)

theorem srs_modSlice {f : Slice → Slice} (hf : ∀ y, (f y).sr = y.sr) (q : Sched) (d : Nat) : (q.modSlice d f).srs = q.srs := by
  funext e
  simp only [Sched.srs, Sched.slice_modSlice]
  split
  next h => rw [hf, h]
  next => rfl

theorem srs_until {q r : Sched} {step : Nat} {c : Cmd} (h : q.until step c = some r) : r.srs = q.srs := by
  funext d
  exact congrArg Slice.sr (slice_congr (slices_until h) d)

@[simp] theorem srs_pre (q : Sched) (step b : Nat) : (q.pre step b).srs = q.srs := by
  unfold Sched.pre
  dsimp only
  split
  · rfl
  · exact (srs_modBank _ _ _).trans (srs_log _ _ _ _ _ _)

@[simp] theorem srs_act (q : Sched) (step b r : Nat) : (q.act step b r).srs = q.srs := by
  unfold Sched.act
  dsimp only
  split
  · simp only [srs_mk, srs_modBank]
    rw [srs_modSlice (by intro; rfl), srs_log]
  · rfl

@[simp] theorem srs_openRow (step b r : Nat) (q : Sched) : (q.openRow step b r).srs = q.srs := by
  have hact (u : Sched) : (match u.until step (.act b r) with
      | some q => q.act step b r
      | none => u).srs = u.srs := by
    split
    next v hv => rw [srs_act, srs_until hv]
    next => rfl
  unfold Sched.openRow
  dsimp only
  split
  · rfl
  · refine (hact _).trans ?_
    split
    next v hv => rw [srs_pre, srs_until hv]
    next => rfl

@[simp] theorem srs_column (q : Sched) (step b col : Nat) (rd : Bool) (job : Option ScrubJob) : (q.column step b col rd job).srs = q.srs := by
  simp [Sched.column]

/-- A column command and the row commands before it put no slice into self-refresh and take none out of it. -/
@[simp] theorem srs_reach (step b r col : Nat) (rd : Bool) (q : Sched) : (q.reach step b r col rd).srs = q.srs := by
  unfold Sched.reach
  split
  · rfl
  · dsimp only
    split
    next v hv => rw [srs_column, srs_until hv, srs_openRow]
    next => exact srs_openRow _ _ _ _

@[simp] theorem srs_put (q : Sched) (e : Entry) : (q.put e).srs = q.srs := (rfl)

/-! ### Operations -/

@[simp] theorem apart_captureEv (x : Nat) (e : Ev) (s : State) : (captureEv e s).apart x = s.apart x := by simp [captureEv]
@[simp] theorem apart_emit (x : Nat) (e : Ev) (s : State) : (emit e s).apart x = s.apart x := by simp [emit]
@[simp] theorem apart_msi (x : Nat) (v : Nat) (s : State) : (msi v s).apart x = s.apart x := by simp [msi]
@[simp] theorem apart_chanSleep (doubled : Bool) (ch : Nat) (s : State) : (chanSleep doubled ch s).apart ch = s.apart ch := by simp [chanSleep]
@[simp] theorem apart_chanHalt (doubled : Bool) (ch : Nat) (s : State) : (chanHalt doubled ch s).apart ch = s.apart ch := by simp [chanHalt]
@[simp] theorem apart_refreshHolds (x : Nat) (ch : Nat) (s : State) : (refreshHolds ch s).apart x = s.apart x := by simp [refreshHolds]
@[simp] theorem apart_releasePlace (x : Nat) (ch c : Nat) (s : State) : (releasePlace ch c s).apart x = s.apart x := by simp [releasePlace]
@[simp] theorem apart_leaveOnce (x : Nat) (ch : Nat) (s : State) : (leaveOnce ch s).apart x = s.apart x := by simp [leaveOnce]
@[simp] theorem apart_putCells (x : Nat) (p : Nat) (data chk : List (BitVec 8)) (s : State) : (putCells p data chk s).apart x = s.apart x := by simp [putCells]
@[simp] theorem apart_putGran (x : Nat) (g : Nat) (v : Option (List (BitVec 8))) (s : State) : (putGran g v s).apart x = s.apart x := by simp [putGran]
@[simp] theorem apart_busAccess (x : Nat) (g : Nat) (rd : Bool) (s : State) : (busAccess g rd s).apart x = s.apart x := by simp [busAccess]

/-- Outside lightship mode self-refresh bits do not show, and in it no channel is woken. -/
@[simp] theorem apart_wake (x ch : Nat) (s : State) : (wake ch s).apart x = s.apart x := by
  unfold wake
  dsimp only
  split
  next h =>
    rw [apart_modClu]
    refine apart_modChan x s fun hon _ => ?_
    simp [hon] at h
  next => rfl

@[simp] theorem apart_ownColumn (x : Nat) (g : Nat) (rd : Bool) (s : State) : (ownColumn g rd s).apart x = s.apart x := by simp [ownColumn]
@[simp] theorem apart_ownWrite (x : Nat) (g : Nat) (v : Option (List (BitVec 8))) (s : State) : (ownWrite g v s).apart x = s.apart x := by simp [ownWrite]
@[simp] theorem apart_ownCommit (x : Nat) (s : State) : (ownCommit s).apart x = s.apart x := by simp [ownCommit]
@[simp] theorem apart_mergeClose (x : Nat) (ch : Nat) (m : MergeE) (s : State) : (mergeClose ch m s).apart x = s.apart x := by
  unfold mergeClose
  dsimp only
  split <;> simp
@[simp] theorem apart_mergeEnd (x : Nat) (ch : Nat) (m : MergeE) (s : State) : (mergeEnd ch m s).apart x = s.apart x := by simp [mergeEnd]
@[simp] theorem apart_mergeRoom (x : Nat) (ch : Nat) (s : State) : (mergeRoom ch s).apart x = s.apart x := by
  unfold mergeRoom
  dsimp only
  split <;> simp
@[simp] theorem apart_settleGran (x : Nat) (fuel ch g : Nat) (s : State) : (settleGran fuel ch g s).apart x = s.apart x := by
  induction fuel generalizing s with
  | zero => rfl
  | succ fuel ih =>
    unfold settleGran
    dsimp only
    repeat' split
    all_goals simp [ih]
@[simp] theorem apart_settleRoom (x : Nat) (fuel ch : Nat) (s : State) : (settleRoom fuel ch s).apart x = s.apart x := by
  induction fuel generalizing s with
  | zero => rfl
  | succ fuel ih =>
    unfold settleRoom
    dsimp only
    repeat' split
    all_goals simp [ih]
@[simp] theorem apart_settleOn (x : Nat) (ch g : Nat) (s : State) : (settleOn ch g s).apart x = s.apart x := by simp [settleOn]
@[simp] theorem apart_settleChunk (x : Nat) (ch chunk : Nat) (s : State) : (settleChunk ch chunk s).apart x = s.apart x := by simp [settleChunk]

@[simp] theorem apart_enqueue (x ch : Nat) (e : Entry) (s : State) : (enqueue ch e s).apart x = s.apart x := by
  unfold enqueue
  dsimp only
  rw [apart_settleChunk, apart_wake]
  exact apart_modChan x s (fun _ _ => rfl)

@[simp] theorem apart_admitLink (x : Nat) (fuel ch : Nat) (s : State) : (admitLink fuel ch s).apart x = s.apart x := by
  induction fuel generalizing s with
  | zero => rfl
  | succ fuel ih =>
    unfold admitLink
    split
    · rfl
    · simp [ih]
@[simp] theorem apart_leaveLoop (x : Nat) (fuel ch : Nat) (s : State) : (leaveLoop fuel ch s).apart x = s.apart x := by
  induction fuel generalizing s with
  | zero => rfl
  | succ fuel ih =>
    unfold leaveLoop
    dsimp only
    repeat' split
    all_goals simp [ih]
@[simp] theorem apart_leaveQueue (x : Nat) (ch : Nat) (s : State) : (leaveQueue ch s).apart x = s.apart x := by simp [leaveQueue]
@[simp] theorem apart_endRequests (x : Nat) (ch : Nat) (how : Fin_) (keep : Entry → Bool) (s : State) :
    (endRequests ch how keep s).apart x = s.apart x := by simp [endRequests]
@[simp] theorem apart_mergeFlush (x : Nat) (ch : Nat) (s : State) : (mergeFlush ch s).apart x = s.apart x := by simp [mergeFlush]
@[simp] theorem apart_parityAlert (ch d : Nat) (inj : Bool) (s : State) : (parityAlert ch d inj s).apart ch = s.apart ch := by simp [parityAlert]
@[simp] theorem apart_raiseDue (ch : Nat) (s : State) : (raiseDue ch s).apart ch = s.apart ch := by
  unfold raiseDue
  split <;> simp
@[simp] theorem apart_dccRecord (x : Nat) (ch : Nat) (c : Cls) (detail : BitVec 64) (count : Nat) (s : State) :
    (dccRecord ch c detail count s).apart x = s.apart x := by simp [dccRecord]
@[simp] theorem apart_countUE (x : Nat) (g : Nat) (inj : Bool) (s : State) : (countUE g inj s).apart x = s.apart x := by simp [countUE]
@[simp] theorem apart_countCE (x : Nat) (g : Nat) (fix : List (Nat × BitVec 8)) (inj : Bool) (s : State) : (countCE g fix inj s).apart x = s.apart x := by
  unfold countCE
  dsimp only
  repeat' split
  all_goals simp
@[simp] theorem apart_decodeGran (x : Nat) (g : Nat) (errs : List (Nat × BitVec 8)) (fill : Bool) (s : State) :
    (decodeGran g errs fill s).1.apart x = s.apart x := by
  unfold decodeGran
  dsimp only
  repeat' split
  all_goals simp
@[simp] theorem apart_scrubGran (x : Nat) (again : Bool) (g : Nat) (errs : List (Nat × BitVec 8)) (s : State) :
    (scrubGran again g errs s).apart x = s.apart x := by
  unfold scrubGran
  dsimp only
  split <;> simp
@[simp] theorem apart_copyGran (x : Nat) (g dst : Nat) (errs : List (Nat × BitVec 8)) (s : State) : (copyGran g dst errs s).apart x = s.apart x := by
  unfold copyGran
  dsimp only
  split <;> simp
@[simp] theorem apart_moveGran (x : Nat) (ch g n : Nat) (errs : List (Nat × BitVec 8)) (s : State) : (moveGran ch g n errs s).apart x = s.apart x := by
  unfold moveGran
  dsimp only
  split <;> simp
@[simp] theorem apart_scrubLand (x : Nat) (ch : Nat) (j : ScrubJob) (errs : List SymErr) (s : State) : (scrubLand ch j errs s).apart x = s.apart x := by
  unfold scrubLand
  cases j with
  | rewrite g d =>
    dsimp only
    split <;> simp
  | visit g => simp
  | reread g => simp
  | move g n => simp
  | pointer p => exact apart_foldl x (fun t i => by split <;> simp) _ _
@[simp] theorem apart_closeDue (x : Nat) (ch : Nat) (s : State) : (closeDue ch s).apart x = s.apart x := by simp [closeDue]
@[simp] theorem apart_fillReturn (x : Nat) (ch g : Nat) (errs : List (Nat × BitVec 8)) (s : State) : (fillReturn ch g errs s).apart x = s.apart x := by
  unfold fillReturn
  split
  · rfl
  · split
    · rfl
    · extract_lets r s1 fill s2 waits s3
      have h2 : s2.apart x = s.apart x := by simp [s2, s1, r]
      have h3 : s3.apart x = s.apart x := by
        unfold s3
        split
        · exact (apart_foldl x (fun t e => by split <;> simp) _ _).trans h2
        · exact h2
      simp [h3]
theorem apart_drainTo (x : Nat) {pa : Nat} {v : Word64} {s t : State} {n : Nat} (hd : drainTo pa v s = some (t, n)) : t.apart x = s.apart x := by
  unfold drainTo at hd
  extract_lets ch g b s1 r at hd
  have h1 : s1.apart x = s.apart x := by
    unfold s1
    repeat' split
    all_goals simp
  have hr : r.1.apart x = s.apart x := by simp [r, h1]
  split at hd
  · cases hd; rfl
  · split at hd
    · cases hd
    · split at hd
      · split at hd
        · obtain ⟨rfl, -⟩ := Prod.mk.inj (Option.some.inj hd)
          dsimp only
          split <;> simp [h1]
        · obtain ⟨rfl, -⟩ := Prod.mk.inj (Option.some.inj hd)
          exact h1
        · cases hd
      · split at hd
        · obtain ⟨rfl, -⟩ := Prod.mk.inj (Option.some.inj hd)
          simpa using hr
        · obtain ⟨rfl, -⟩ := Prod.mk.inj (Option.some.inj hd)
          exact hr
@[simp] theorem apart_takeData (x : Nat) (ch : Nat) (r : State × GranRes) (g : Nat) (e : Entry) (s : State) (hr : r.1.apart x = s.apart x) :
    (takeData ch r g e s).apart x = s.apart x := by
  unfold takeData
  dsimp only
  split
  · split
    · simp [hr]
    · split
      · rfl
      · simp [hr, apart_drainTo x ‹_›]
      · simp [hr, apart_drainTo x ‹_›]
  · simp [hr]
@[simp] theorem apart_serveGran (x : Nat) (ch chunk g : Nat) (errs : List (Nat × BitVec 8)) (s : State) :
    (serveGran ch chunk g errs s).apart x = s.apart x := by
  unfold serveGran
  repeat' split
  all_goals simp
@[simp] theorem apart_writePart (x : Nat) (ch : Nat) (e : Entry) (g : Nat) (s : State) : (writePart ch e g s).1.apart x = s.apart x := by
  unfold writePart
  split <;> simp
@[simp] theorem apart_landOne (x : Nat) (ch : Nat) (s : State) (f : Flight) : (landOne ch s f).apart x = s.apart x := by
  unfold landOne
  extract_lets s1
  have h1 : s1.apart x = s.apart x := by simp [s1]
  split
  · exact h1
  · split
    · simp [h1]
    · split
      · exact (apart_foldl x (fun t i => by split <;> simp) _ _).trans h1
      · split
        · exact h1
        · simp [h1]
@[simp] theorem apart_land (x : Nat) (ch : Nat) (s : State) : (land ch s).apart x = s.apart x := by simp [land]
@[simp] theorem apart_scrubTake (x : Nat) (ch : Nat) (p : Pick) (s : State) : (scrubTake ch p s).apart x = s.apart x := by
  unfold scrubTake
  repeat' split
  all_goals simp
@[simp] theorem apart_blockCheck (ch b : Nat) (s : State) : (blockCheck ch b s).apart ch = s.apart ch := by simp [blockCheck]
@[simp] theorem apart_columnIssue (x : Nat) (ch b col : Nat) (rd : Bool) (errs : List SymErr) (job : Option ScrubJob) (s : State) :
    (columnIssue ch b col rd errs job s).apart x = s.apart x := by
  unfold columnIssue
  dsimp only
  split <;> simp
@[simp] theorem apart_reissue (ch : Nat) (i : Issued) (s : State) : (reissue ch i s).apart ch = s.apart ch := by
  unfold reissue
  split <;> simp
@[simp] theorem apart_issue (ch : Nat) (p : Pick) (s : State) : (issue ch p s).apart ch = s.apart ch := by
  unfold issue
  dsimp only
  repeat' split
  all_goals simp
@[simp] theorem apart_recover (fuel ch : Nat) (s : State) : (recover ch fuel s).apart ch = s.apart ch := by
  induction fuel generalizing s with
  | zero => rfl
  | succ fuel ih =>
    unfold recover
    dsimp only
    repeat' split
    all_goals simp [ih]
@[simp] theorem apart_stopChannel (doubled : Bool) (ch : Nat) (s : State) : (stopChannel doubled ch s).apart ch = s.apart ch := by simp [stopChannel]

/-! ### Every port fenced (R123, R366) -/

theorem tget_tmodAll {α : Type} (d : α) (n : Nat) (t : Tab α) (f : Nat → α → α) (k : Nat) :
    tget d (tmodAll d n t f) k = if k < n then f k (tget d t k) else tget d t k := by
  unfold tmodAll
  induction n with
  | zero => rfl
  | succ n ih =>
    rw [List.range_succ, List.foldl_append, List.foldl_cons, List.foldl_nil, tget_tmod, ih]
    by_cases hk : k = n
    · subst hk
      simp [ih]
    · rw [if_neg hk]
      by_cases hlt : k < n
      · rw [if_pos hlt, if_pos (by omega)]
      · rw [if_neg hlt, if_neg (by omega)]

theorem allPorts_eq (s : State) (f : Nat → Port → Port) :
    ∃ P, s.allPorts f = { s with ports := P } ∧ ∀ p < 32, tget Port.reset P p = f p (s.port p) :=
  ⟨tmodAll Port.reset 32 s.ports f, rfl, fun p hp => (tget_tmodAll _ _ _ _ p).trans (if_pos hp)⟩

/-- The fence of the stack and the link of a port. -/
def Port.front (x : Port) : Bool × Link := (x.fr.fStack, x.link)

@[simp] theorem front_payNak (x : Port) : x.payNak.front = x.front := by
  unfold Port.payNak
  split <;> rfl

@[simp] theorem front_pump (tick : Nat) (x : Port) : (x.pump tick).front = x.front := by
  unfold Port.pump
  split
  · exact front_payNak x
  · rfl

@[simp] theorem front_send (tick : Nat) (b : UpBody) (x : Port) : (x.send tick b).front = x.front := by
  unfold Port.send
  split
  · exact front_pump _ _
  · rfl

@[simp] theorem front_answer (tick : Nat) (me : StackId) (t status detail : Nat) (data : List (BitVec 8)) (x : Port) :
    (x.answer tick me t status detail data).front = x.front := by
  unfold Port.answer
  dsimp only
  split
  · exact front_send _ _ _
  · rfl

/-- A port fenced with cause STACK keeps its link. -/
theorem front_fence_stack (tick : Nat) (me : StackId) (x : Port) : (x.fence tick me .stack).front = (true, x.link) := by
  have hfold (l : List Nat) (y : Port) : (l.foldl (fun y t => y.answer tick me t stFENCED 0x02 []) y).front = y.front := by
    induction l generalizing y with
    | nil => rfl
    | cons t l ih => rw [List.foldl_cons, ih, front_answer]
  unfold Port.fence
  split
  · rfl
  · exact hfold _ _

/-! ### Entry into lightship mode (R366, R367) -/

/-- From `s` to `t` lightship mode was entered or met a further cause, as far as the collector, the Beacon unit and the messages go: what stands
on the line and in the fault word is as before. -/
abbrev OnEntry (s t : State) : Prop :=
  t = { s with ls := t.ls, flt := t.flt, bcn := t.bcn, pcie := t.pcie } ∧ t.flt.line = s.flt.line ∧ t.flt.src = s.flt.src

theorem OnEntry.trans {s t u : State} (h : OnEntry s t) (h' : OnEntry t u) : OnEntry s u := by
  obtain ⟨hf, hl, hs⟩ := h
  obtain ⟨hf', hl', hs'⟩ := h'
  exact ⟨by rw [hf] at hf'; exact hf', hl'.trans hl, hs'.trans hs⟩

theorem onEntry_emit (e : Ev) (s : State) : OnEntry s (emit e s) ∧ (emit e s).ls = s.ls := by
  have hf := emit_frame e s
  refine ⟨⟨?_, by rw [emit_flt], by rw [emit_flt]⟩, by rw [hf]⟩
  generalize emit e s = t at hf
  rw [hf]

theorem onEntry_fhPulse (n : Nat) (s : State) : OnEntry s (fhPulse n s) ∧ (fhPulse n s).ls = s.ls := by
  refine ⟨⟨?_, fhPulse_line n s, fhPulse_src n s⟩, ?_⟩ <;>
    unfold fhPulse <;> split <;> rfl

/-- The marks that an entry with `cause` makes before its record is written. -/
def lsMarked (cause : Nat) (s : State) : State :=
  let first := !s.ls.on
  let on := (List.range 50).filter (fun n => tget .off s.pwr.dom n != .off)
  { s with
    ls := { s.ls with on := true, cause := cause, entryTick := BitVec.ofNat 16 s.day.tick
                      raised := s.ls.raised ||| (1#4 <<< (cause - 1))
                      phase := if first then .entered else s.ls.phase
                      domains := if first then on else s.ls.domains
                      ctl := s.ls.ctl || first, c4 := s.ls.c4 || cause = 4 } }.modFlt
    (fun f => { f with lightship := true, nowLightship := true, changed := true })

/-- The record and the pulse of an entry, and its message where it is the first. -/
def lsTold (cause : Nat) (first : Bool) (s : State) : State :=
  fhPulse (if cause = 2 then 3 else 2) (emit { unit := 0x11, inst := 0, cls := if cause = 2 then .c3 else .c2, fast := true
                                               payload := .value (BitVec.ofNat 96 cause) } (if first then msi 4 s else s))

theorem lsEnter_eq {cause : Nat} {s : State} (hexit : s.ls.exitStaged = false) :
    lsEnter cause s = if !s.ls.on then { ((lsTold cause (!s.ls.on) (lsMarked cause s)).allPorts
        (fun _ x => x.fence (lsTold cause (!s.ls.on) (lsMarked cause s)).day.tick (lsTold cause (!s.ls.on) (lsMarked cause s)).stackId .stack)) with
      ready := (lsTold cause (!s.ls.on) (lsMarked cause s)).ready &&& 0xE000#16
      wch := { (lsTold cause (!s.ls.on) (lsMarked cause s)).wch.uncoverAll (fun _ => true) with suspects := [] } }
    else lsTold cause (!s.ls.on) (lsMarked cause s) := if_neg (by simp [hexit])

theorem onEntry_lsTold (cause : Nat) (first : Bool) (s : State) : OnEntry s (lsTold cause first s) ∧ (lsTold cause first s).ls = s.ls := by
  have hmsi : OnEntry s (if first then msi 4 s else s) ∧ (if first then msi 4 s else s).ls = s.ls := by
    split <;> exact ⟨⟨rfl, rfl, rfl⟩, rfl⟩
  obtain ⟨hm, hml⟩ := hmsi
  obtain ⟨he, hel⟩ := onEntry_emit { unit := 0x11, inst := 0, cls := if cause = 2 then .c3 else .c2, fast := true
                                     payload := .value (BitVec.ofNat 96 cause) } (if first then msi 4 s else s)
  obtain ⟨hp, hpl⟩ := onEntry_fhPulse (if cause = 2 then 3 else 2) (emit { unit := 0x11, inst := 0, cls := if cause = 2 then .c3 else .c2
                                                                           fast := true, payload := .value (BitVec.ofNat 96 cause) }
    (if first then msi 4 s else s))
  exact ⟨(hm.trans he).trans hp, hpl.trans (hel.trans hml)⟩

/-- An entry marks the cause, and fences the ports and takes the readiness away where it is the first. -/
theorem lsEnter_facts {cause : Nat} {s : State} (hexit : s.ls.exitStaged = false) :
    ∃ u, OnEntry s u ∧ u.ls.on = true ∧ u.ls.cause = cause ∧ u.ls.exitStaged = false ∧ u.ls.ctl = (s.ls.ctl || !s.ls.on) ∧
      lsEnter cause s = if !s.ls.on then { (u.allPorts (fun _ x => x.fence u.day.tick u.stackId .stack)) with
        ready := u.ready &&& 0xE000#16, wch := { u.wch.uncoverAll (fun _ => true) with suspects := [] } } else u := by
  obtain ⟨htold, hls⟩ := onEntry_lsTold cause (!s.ls.on) (lsMarked cause s)
  have hmark : OnEntry s (lsMarked cause s) := ⟨rfl, rfl, rfl⟩
  refine ⟨lsTold cause (!s.ls.on) (lsMarked cause s), hmark.trans htold, ?_, ?_, ?_, ?_, lsEnter_eq hexit⟩
  · rw [hls]; rfl
  · rw [hls]; rfl
  · rw [hls]; exact hexit
  · rw [hls]; rfl

/-- One event of the line: its bit of the fault word is set, and it enters lightship mode where it has a cause. -/
theorem collectOne_facts (e : FaultEv) (s : State) :
    ∃ u, u = { s with flt := u.flt, bcn := u.bcn } ∧ u.flt.line = s.flt.line ∧ u.flt.src = s.flt.src ||| 1#56 <<< e.src ∧
      collectOne e s = if (if e.cls == .c3 then 2 else e.lsCause) ≠ 0 then lsEnter (if e.cls == .c3 then 2 else e.lsCause) u else u := by
  unfold collectOne
  extract_lets f bit big first escal cap later s1 cause pay s2 s3
  have h1 : OnlyFlt s s1 ∧ s1.flt.line = s.flt.line ∧ s1.flt.src = s.flt.src ||| 1#56 <<< e.src := ⟨rfl, rfl, rfl⟩
  have h2 : OnlyFlt s s2 ∧ s2.flt.line = s.flt.line ∧ s2.flt.src = s.flt.src ||| 1#56 <<< e.src := by
    unfold s2
    split
    · rw [emit_flt]
      exact ⟨h1.1.trans (onlyFlt_emit _ _), h1.2⟩
    · exact h1
  have hpulsed (n : Nat) : OnlyFlt s (fhPulse n s2) ∧ (fhPulse n s2).flt.line = s.flt.line ∧
      (fhPulse n s2).flt.src = s.flt.src ||| 1#56 <<< e.src :=
    ⟨h2.1.trans (onlyFlt_fhPulse _ _), (fhPulse_line _ _).trans h2.2.1, (fhPulse_src _ _).trans h2.2.2⟩
  have h3 : OnlyFlt s s3 ∧ s3.flt.line = s.flt.line ∧ s3.flt.src = s.flt.src ||| 1#56 <<< e.src := by
    unfold s3
    split
    · exact hpulsed 3
    · split
      · exact hpulsed 2
      · exact h2
  exact ⟨s3, h3.1, h3.2.1, h3.2.2, rfl⟩

/-- What the loss of the frame clock in `s` brings about, with the controllers yet to stop or stopped (R29, R91, R366). -/
structure Dark (s t : State) : Prop where
  clk : t.clk = { s.clk with framePll := false, frameFrom := s.day.tick }
  src : t.flt.src.getLsbD 38 = true
  on : t.ls.on = true
  cause : t.ls.cause = 2
  exit : t.ls.exitStaged = false
  ports : ∀ p < 32, (t.port p).fr.fStack = true ∧ (t.port p).link.noClk = true
  ready : t.ready = s.ready &&& 0xE000#16
  line : ∀ e ∈ t.flt.line, e.lsCause = 0

theorem Dark.of_apart {s t u : State} {x : Nat} (h : Dark s t) (ha : u.apart x = t.apart x) : Dark s u := by
  simp only [State.apart, Prod.mk.injEq] at ha
  obtain ⟨⟨-, -, hports, hclk⟩, hready, hls, hsrc, hline, -⟩ := ha
  obtain ⟨clk, src, on, cause, exit, ports, ready, line⟩ := h
  refine ⟨hclk.trans clk, by rw [hsrc]; exact src, by rw [hls]; exact on, by rw [hls]; exact cause, by rw [hls]; exact exit, ?_,
    hready.trans ready, ?_⟩
  · intro p hp
    rw [State.port, hports]
    exact ports p hp
  · have hnil : t.flt.line.filter (fun e => e.lsCause ≠ 0) = [] := by
      simpa [List.filter_eq_nil_iff] using line
    rw [hnil] at hline
    simpa [List.filter_eq_nil_iff] using hline

/-- A further event without a cause of its own changes nothing of this, and no channel. -/
theorem Dark.collectOne {s t : State} (h : Dark s t) {e : FaultEv} (he : e.lsCause = 0) :
    Dark s (collectOne e t) ∧ (collectOne e t).chans = t.chans ∧ (collectOne e t).ls.ctl = t.ls.ctl := by
  obtain ⟨u, hu, hline, hsrc, hone⟩ := collectOne_facts e t
  obtain ⟨clk, src, on, cause, exit, ports, ready, line⟩ := h
  have hbit : u.flt.src.getLsbD 38 = true := by simp [hsrc, src]
  have hdark : Dark s u := by
    rw [hu] at hbit hline ⊢
    exact ⟨clk, hbit, on, cause, exit, ports, ready, by rw [hline]; exact line⟩
  cases hc3 : e.cls == Cls.c3 with
  | true =>
    have huon : u.ls.on = true := hdark.on
    obtain ⟨v, ⟨hv, hvl, hvs⟩, hon, hcause, hexit, hctl, henter⟩ := lsEnter_facts (cause := 2) (s := u) hdark.exit
    simp only [hc3, if_true, ne_eq, OfNat.ofNat_ne_zero, not_false_eq_true] at hone
    rw [hone, henter, if_neg (by simp [huon])]
    refine ⟨⟨?_, by rw [hvs]; exact hbit, hon, hcause, hexit, ?_, ?_, by rw [hvl]; exact hdark.line⟩, ?_, ?_⟩
    · rw [hv]; exact hdark.clk
    · rw [hv]; exact hdark.ports
    · rw [hv]; exact hdark.ready
    · rw [hv, hu]
    · rw [hctl, huon, hu]; simp
  | false =>
    simp only [hc3, he, Bool.false_eq_true, if_false, ne_eq, not_true_eq_false] at hone
    rw [hone]
    exact ⟨hdark, by rw [hu], by rw [hu]⟩

theorem Dark.collectAll {s t : State} (h : Dark s t) {l : List FaultEv} (hl : ∀ e ∈ l, e.lsCause = 0) :
    Dark s (l.foldl (fun s e => Machine.collectOne e s) t) ∧ (l.foldl (fun s e => Machine.collectOne e s) t).chans = t.chans ∧
      (l.foldl (fun s e => Machine.collectOne e s) t).ls.ctl = t.ls.ctl := by
  induction l generalizing t with
  | nil => exact ⟨h, rfl, rfl⟩
  | cons e l ih =>
    obtain ⟨hd, hc, hctl⟩ := h.collectOne (hl e List.mem_cons_self)
    obtain ⟨hd', hc', hctl'⟩ := ih hd (fun x hx => hl x (List.mem_cons_of_mem _ hx))
    exact ⟨hd', hc'.trans hc, hctl'.trans hctl⟩

/-- A later pass of the collector changes nothing of this, and no channel. -/
theorem Dark.collectPass {s t : State} (h : Dark s t) (hctl : t.ls.ctl = false) :
    Dark s (collectPass t) ∧ (collectPass t).chans = t.chans ∧ (collectPass t).ls.ctl = false := by
  have hline : Dark s (if t.flt.line.isEmpty then t else collectLine t) ∧
      (if t.flt.line.isEmpty then t else collectLine t).chans = t.chans ∧
      (if t.flt.line.isEmpty then t else collectLine t).ls.ctl = false := by
    split
    · exact ⟨h, rfl, hctl⟩
    · have hsome := h.line
      have hempty : Dark s (t.modFlt (fun f => { f with line := [] })) :=
        ⟨h.clk, h.src, h.on, h.cause, h.exit, h.ports, h.ready, fun _ he => nomatch he⟩
      obtain ⟨hd, hc, hk⟩ := hempty.collectAll (l := sortBy lineOrder t.flt.line) (fun e he => hsome e (mem_sortBy _ _ _ he))
      exact ⟨hd, hc, hk.trans hctl⟩
  have hctl' := hline.2.2
  unfold Machine.collectPass
  dsimp only
  rw [if_neg (by rw [hctl']; simp)]
  exact hline

/-- The state in which the frame clock has gone (R29, R91). -/
def frameClockGone (s : State) : State :=
  { s with clk := { s.clk with framePll := false, frameFrom := s.day.tick } }.allPorts (fun _ x => x.modLink (fun l => { l with noClk := true }))

/-- A state in which no port has its frame clock, as the lock's loss in `s` leaves it. -/
structure ClockGone (s t : State) : Prop where
  clk : t.clk = { s.clk with framePll := false, frameFrom := s.day.tick }
  ports : ∀ p < 32, (t.port p).link.noClk = true
  ready : t.ready = s.ready
  ls : t.ls = s.ls
  line : t.flt.line = []

theorem clockGone_frameClockGone {s : State} (hline : s.flt.line = []) : ClockGone s (frameClockGone s) := by
  obtain ⟨P, hP, hports⟩ := allPorts_eq { s with clk := { s.clk with framePll := false, frameFrom := s.day.tick } }
    (fun _ x => x.modLink (fun l => { l with noClk := true }))
  rw [frameClockGone, hP]
  exact ⟨rfl, fun p hp => congrArg (fun x : Port => x.link.noClk) (hports p hp), rfl, rfl, hline⟩

/-- The event of the loss enters lightship mode for the first time (R366). -/
theorem ClockGone.dark {s t : State} (h : ClockGone s t) (hls : s.ls.on = false) (hexit : s.ls.exitStaged = false) (det : BitVec 64) :
    Dark s (Machine.collectOne { src := 38, inst := 0, cls := .c3, detail := det } t) ∧
      (Machine.collectOne { src := 38, inst := 0, cls := .c3, detail := det } t).ls.ctl = true := by
  obtain ⟨clk, ports, ready, ls, line⟩ := h
  obtain ⟨u, hu, hul, hus, hone⟩ := collectOne_facts { src := 38, inst := 0, cls := .c3, detail := det } t
  have huls : u.ls = s.ls := by rw [hu]; exact ls
  obtain ⟨v, ⟨hv, hvl, hvs⟩, hon, hcause, hexit', hctl, henter⟩ := lsEnter_facts (cause := 2) (s := u) (by rw [huls]; exact hexit)
  have hbit : v.flt.src.getLsbD 38 = true := by rw [hvs, hus]; simp
  have hportv (p : Nat) : v.port p = t.port p := by rw [hv, hu]; rfl
  rw [huls, hls] at henter hctl
  simp only [beq_self_eq_true, if_true, ne_eq, OfNat.ofNat_ne_zero, not_false_eq_true, Bool.not_false] at hone henter hctl
  rw [hone, henter]
  obtain ⟨P, hP, hPget⟩ := allPorts_eq v (fun _ x => x.fence v.day.tick v.stackId .stack)
  rw [hP]
  have hports (p : Nat) (hp : p < 32) : (tget Port.reset P p).fr.fStack = true ∧ (tget Port.reset P p).link.noClk = true := by
    rw [hPget p hp]
    obtain ⟨hstack, hlink⟩ := Prod.mk.inj (front_fence_stack v.day.tick v.stackId (v.port p))
    exact ⟨hstack, by rw [hlink, hportv]; exact ports p hp⟩
  have hvclk : v.clk = t.clk := by rw [hv, hu]
  have hvready : v.ready = t.ready := by rw [hv, hu]
  have hvline : v.flt.line = [] := by rw [hvl, hul, line]
  refine ⟨⟨hvclk.trans clk, hbit, hon, hcause, hexit', hports, ?_, fun e he => ?_⟩, by simpa using hctl⟩
  · rw [← ready, ← hvready]
  · rw [show State.flt _ = v.flt from rfl, hvline] at he
    cases he

/-- The loss of lock is the one event on the line. -/
theorem collectLine_frameLoss {s : State} (hline : s.flt.line = []) (hpll : s.clk.framePll = true) :
    (frameLossOfLock s).flt.line.isEmpty = false ∧
      collectLine (frameLossOfLock s) = Machine.collectOne { src := 38, inst := 0, cls := .c3, detail := 0 } (frameClockGone s) := by
  have hgone : (frameClockGone s).flt.line = [] := hline
  have hloss : frameLossOfLock s = raise 38 0 .c3 0 (frameClockGone s) := if_pos hpll
  have hevent : (frameLossOfLock s).flt.line = [{ src := 38, inst := 0, cls := .c3, detail := 0 }] := by
    rw [hloss, raise_line, hgone]
    rfl
  have hback : (frameLossOfLock s).modFlt (fun f => { f with line := [] }) = frameClockGone s := by
    rw [hloss]
    generalize frameClockGone s = t at hgone
    simp only [raise, State.modFlt]
    rw [← hgone]
  refine ⟨by rw [hevent]; rfl, ?_⟩
  rw [collectLine, hevent, hback]
  rfl

/-! ### The controllers stop (R154, R367, R368) -/

theorem srs_of_apart {s t : State} {x c : Nat} (ha : t.apart x = s.apart x) (hon : s.ls.on = true) (hc : c ≠ x) :
    (t.chan c).q.srs = (s.chan c).q.srs := by
  simp only [State.apart, Prod.mk.injEq] at ha
  obtain ⟨-, -, hls, -, -, hsrs⟩ := ha
  funext d
  have := congrFun (congrFun hsrs c) d
  simpa [State.srsApart, hls, hon, bne_iff_ne.2 hc] using this

/-- The slices of a stopped channel are in self-refresh. -/
theorem srs_stopChannel (doubled : Bool) (c : Nat) (s : State) : ∀ d < 16, ((stopChannel doubled c s).chan c).q.srs d = true :=
  (chanHalt_facts doubled c _).2.2.2.2

/-- Every channel stops, one after the other, and a channel that has stopped stays in self-refresh. -/
theorem Dark.stopChannels {s t : State} (h : Dark s t) :
    Dark s ((List.range 32).foldl (fun s c => stopChannel true c s) t) ∧
      ((List.range 32).foldl (fun s c => stopChannel true c s) t).ls.ctl = t.ls.ctl ∧
      ∀ c < 32, ∀ d < 16, (((List.range 32).foldl (fun s c => stopChannel true c s) t).chan c).q.srs d = true := by
  obtain ⟨⟨hdark, hctl⟩, -, hsr⟩ := foldl_touches (get := fun (u : State) c => (u.chan c).q.srs) (I := fun u => Dark s u ∧ u.ls.ctl = t.ls.ctl)
    (C := fun _ _ => True) (P := fun _ _ y => ∀ d < 16, y d = true) (f := fun u c => stopChannel true c u) id
    (fun u c hI _ => ⟨hI.1.of_apart (apart_stopChannel true c u), by
      have ha := apart_stopChannel true c u
      simp only [State.apart, Prod.mk.injEq] at ha
      obtain ⟨-, -, hls, -⟩ := ha
      rw [hls]
      exact hI.2⟩)
    (fun u c c' hI _ hne => srs_of_apart (apart_stopChannel true c u) hI.1.on hne)
    (fun u c _ _ => srs_stopChannel true c u) (l := List.range 32) (by rw [List.map_id]; exact List.nodup_range) (s := t) ⟨h, rfl⟩
    (fun _ _ => trivial)
  exact ⟨hdark, hctl, fun c hc => hsr c (List.mem_range.2 hc)⟩

/-- The clusters' part of a stop. -/
theorem foldl_modClu_frame (f : Clu → Clu) (l : List Nat) (s : State) :
    l.foldl (fun s k => s.modClu k f) s = { s with clus := (l.foldl (fun s k => s.modClu k f) s).clus } := by
  induction l generalizing s with
  | nil => rfl
  | cons k l ih => rw [List.foldl_cons, ih]; rfl

/-- A cluster stopped for lightship mode (R154). -/
def Clu.lsHalted (u : Clu) : Clu := { u with stepTick := 0, abandoned := u.stepTick ≠ 0, clkStop := true, held := none }

/-- A port's relays when the controllers have stopped. -/
def Port.relaysOver (x : Port) : Port := { x with rly := { x.rly with rtags := x.rly.rtags.map (fun t =>
  if t.2.st == .outstanding then (t.1, { t.2 with st := .zombie }) else t) } }

theorem lsControllers_eq (s : State) : Machine.lsControllers s = ((List.range 8).foldl (fun s k => s.modClu k Clu.lsHalted)
    ((List.range 32).foldl (fun s c => stopChannel true c s) s)).allPorts (fun _ x => x.relaysOver) := rfl

theorem Dark.lsControllers {s t : State} (h : Dark s t) :
    Dark s (lsControllers t) ∧ (lsControllers t).ls.ctl = t.ls.ctl ∧ ∀ c < 32, ∀ d < 16, ((lsControllers t).chan c).q.srs d = true := by
  obtain ⟨hdark, hctl, hsr⟩ := h.stopChannels
  rw [lsControllers_eq]
  generalize (List.range 32).foldl (fun s c => stopChannel true c s) t = u at *
  have hv := foldl_modClu_frame Clu.lsHalted (List.range 8) u
  generalize (List.range 8).foldl (fun s k => s.modClu k Clu.lsHalted) u = v at *
  have hdv : Dark s v := by
    rw [hv]
    exact ⟨hdark.clk, hdark.src, hdark.on, hdark.cause, hdark.exit, hdark.ports, hdark.ready, hdark.line⟩
  obtain ⟨P, hP, hPget⟩ := allPorts_eq v (fun _ x => x.relaysOver)
  have hports (p : Nat) (hp : p < 32) : (tget Port.reset P p).fr.fStack = true ∧ (tget Port.reset P p).link.noClk = true := by
    rw [hPget p hp]
    exact hdv.ports p hp
  have hvctl : v.ls.ctl = t.ls.ctl := by rw [hv]; exact hctl
  have hvsr : ∀ c < 32, ∀ d < 16, (v.chan c).q.srs d = true := by rw [hv]; exact hsr
  rw [hP]
  exact ⟨⟨hdv.clk, hdv.src, hdv.on, hdv.cause, hdv.exit, hports, hdv.ready, hdv.line⟩, hvctl, hvsr⟩

/-! ### The obligation -/

/-- The three passes of the collector: the first enters lightship mode and stops the controllers, the others take what those raised. -/
theorem dark_collect {s : State} (hcalm : Calm s) (hpll : s.clk.framePll = true) (hls : s.ls.on = false) (hexit : s.ls.exitStaged = false) :
    Dark s (collect (frameLossOfLock s)) ∧ ∀ c < 32, ∀ d < 16, ((collect (frameLossOfLock s)).chan c).q.srs d = true := by
  obtain ⟨hempty, hline⟩ := collectLine_frameLoss hcalm.1 hpll
  obtain ⟨hdark, hctl⟩ := (clockGone_frameClockGone hcalm.1).dark hls hexit 0
  rw [← hline] at hdark hctl
  have hready : Dark s { collectLine (frameLossOfLock s) with ls := { (collectLine (frameLossOfLock s)).ls with ctl := false } } :=
    ⟨hdark.clk, hdark.src, hdark.on, hdark.cause, hdark.exit, hdark.ports, hdark.ready, hdark.line⟩
  obtain ⟨h1, hctl1, hsr⟩ := hready.lsControllers
  have hline' : (if (frameLossOfLock s).flt.line.isEmpty then frameLossOfLock s else collectLine (frameLossOfLock s)) =
      collectLine (frameLossOfLock s) := if_neg (by rw [hempty]; simp)
  have hpass : collectPass (frameLossOfLock s) = lsControllers
      { collectLine (frameLossOfLock s) with ls := { (collectLine (frameLossOfLock s)).ls with ctl := false } } := by
    unfold collectPass
    dsimp only
    rw [hline', if_pos hctl]
  rw [← hpass] at h1 hctl1 hsr
  obtain ⟨h2, hc2, hctl2⟩ := h1.collectPass hctl1
  obtain ⟨h3, hc3, -⟩ := h2.collectPass hctl2
  have hcollect : collect (frameLossOfLock s) = collectPass (collectPass (collectPass (frameLossOfLock s))) :=
    if_neg (by rw [hempty]; simp)
  rw [hcollect]
  refine ⟨h3, fun c hc d hd => ?_⟩
  rw [State.chan, hc3, hc2]
  exact hsr c hc d hd

@[simp] theorem apart_readyRecords (x : Nat) (old : BitVec 48) (s : State) : (readyRecords old s).apart x = s.apart x := by
  rw [readyRecords_frame]
  exact apart_mk _ _ _ _ _ _ _ _ _ _ _ _ _ _ _ _ _ _ _ _ _ _

@[simp] theorem apart_capTrack (x : Nat) (old : BitVec 16) (s : State) : (capTrack old s).apart x = s.apart x := by simp [capTrack]

/-- What follows the collector at the end of a command does not show. -/
theorem apart_settled (s0 s : State) (x : Nat) : (settle s0 s).apart x = (collect s).apart x := by
  unfold settle
  dsimp only
  rw [apart_readyRecords]
  split
  · rfl
  · exact apart_capTrack _ _ _

/-- Settles O25: the one event enters lightship mode, which fences the ports and stops the controllers. -/
theorem frameClockLossEntersLightship : Obligations.FrameClockLossEntersLightship := by
  intro s hcalm hpll hls hexit
  obtain ⟨hdark, hsr⟩ := dark_collect hcalm hpll hls hexit
  have hend : (settle s (frameLossOfLock s)).apart 32 = (collect (frameLossOfLock s)).apart 32 := apart_settled s _ _
  obtain ⟨clk, src, on, cause, -, ports, ready, -⟩ := hdark.of_apart hend
  refine ⟨_, rfl, clk, src, on, cause, ports, fun c hc d hd => ?_, ready⟩
  have := congrFun (srs_of_apart hend hdark.on (Nat.ne_of_lt hc)) d
  exact this.trans (hsr c hc d hd)

end Sys2Proof.Machine
end

section
/-! SUPPORT. What units leave as it is of the tick's state and of the staged writes in what a boundary runs (R28, R35, R45). -/

namespace Sys2Proof.Machine

/-- The tick's state apart from what units count or raise in it at a boundary: its PTM register, the slewing mark, late completions and
overruns. -/
def Day.steady (d : Day) : Day :=
  { d with slewing := false, ptm := {}, overrun := 0, late := [], lateNow := [], lateClr := 0, ovrClr := false }

/-- That part of the tick's state, and the staged writes. -/
def State.steady (s : State) : Day × List (Nat × Word32) := (s.day.steady, s.staged)

theorem steady_of_apart {x : Nat} {s t : State} (h : t.apart x = s.apart x) : t.steady = s.steady := by
  simp only [State.apart, Prod.mk.injEq] at h
  obtain ⟨⟨hday, hstaged, -⟩, -⟩ := h
  rw [State.steady, hday, hstaged, State.steady]

@[simp] theorem steady_ite {c : Prop} [Decidable c] (s t : State) :
    (if c then s else t).steady = if c then s.steady else t.steady := apply_ite State.steady c s t

/-- A change of any other field. -/
@[simp] theorem steady_mk (s : State) (ports clk clus chans mem chk sec regions stackId tenderPart ready bcn flt ls pcie pwr ret
    snap kpr lan ll wch tnd rlyTurn free pending) :
    (State.mk s.day s.staged ports clk clus chans mem chk sec regions stackId tenderPart ready bcn flt ls pcie pwr ret
      snap kpr lan ll wch tnd rlyTurn free pending).steady = s.steady := (rfl)

@[simp] theorem steady_foldl {α : Type} {f : State → α → State} (hf : ∀ s x, (f s x).steady = s.steady) (l : List α) (s : State) :
    (l.foldl f s).steady = s.steady := by
  induction l generalizing s with
  | nil => rfl
  | cons x l ih => rw [List.foldl_cons, ih, hf]

@[simp] theorem steady_foldl_fst {α β : Type} {f : State × β → α → State × β} (hf : ∀ a x, (f a x).1.steady = a.1.steady)
    (l : List α) (a : State × β) : (l.foldl f a).1.steady = a.1.steady := by
  induction l generalizing a with
  | nil => rfl
  | cons x l ih => rw [List.foldl_cons, ih, hf]

/-! ### Single fields -/

@[simp] theorem steady_modDay {f : Day → Day} (hf : ∀ d, (f d).steady = d.steady) (s : State) : (s.modDay f).steady = s.steady := by
  simp only [State.steady, State.modDay, hf]

@[simp] theorem steady_modChan (s : State) (c : Nat) (f : Chan → Chan) : (s.modChan c f).steady = s.steady := by simp [State.modChan]
@[simp] theorem steady_modSched (s : State) (c : Nat) (f : Sched → Sched) : (s.modSched c f).steady = s.steady := by simp [State.modSched]
@[simp] theorem steady_modInteg (s : State) (c : Nat) (f : Integ → Integ) : (s.modInteg c f).steady = s.steady := by simp [State.modInteg]
@[simp] theorem steady_modClu (s : State) (k : Nat) (f : Clu → Clu) : (s.modClu k f).steady = s.steady := by simp [State.modClu]
@[simp] theorem steady_modSec (s : State) (f : Sec → Sec) : (s.modSec f).steady = s.steady := by simp [State.modSec]
@[simp] theorem steady_modFlt (s : State) (f : Flt → Flt) : (s.modFlt f).steady = s.steady := by simp [State.modFlt]
@[simp] theorem steady_injUse (s : State) : (injUse s).steady = s.steady := by simp [injUse]
@[simp] theorem steady_raise (src inst : Nat) (c : Cls) (detail : BitVec 64) (s : State) :
    (raise src inst c detail s).steady = s.steady := by simp [raise]
@[simp] theorem steady_raiseInj (src inst : Nat) (c : Cls) (detail : BitVec 64) (inj : Bool) (s : State) :
    (raiseInj src inst c detail inj s).steady = s.steady := by simp [raiseInj]

/-! ### Work of a controller or of the collector, which leaves all of the tick's state as it is -/

@[simp] theorem steady_captureEv (e : Ev) (s : State) : (captureEv e s).steady = s.steady := steady_of_apart (apart_captureEv 0 e s)
@[simp] theorem steady_emit (e : Ev) (s : State) : (emit e s).steady = s.steady := steady_of_apart (apart_emit 0 e s)
@[simp] theorem steady_msi (v : Nat) (s : State) : (msi v s).steady = s.steady := steady_of_apart (apart_msi 0 v s)
@[simp] theorem steady_chanHalt (doubled : Bool) (ch : Nat) (s : State) : (chanHalt doubled ch s).steady = s.steady :=
  steady_of_apart (apart_chanHalt doubled ch s)
@[simp] theorem steady_refreshHolds (ch : Nat) (s : State) : (refreshHolds ch s).steady = s.steady :=
  steady_of_apart (apart_refreshHolds 0 ch s)
@[simp] theorem steady_releasePlace (ch c : Nat) (s : State) : (releasePlace ch c s).steady = s.steady :=
  steady_of_apart (apart_releasePlace 0 ch c s)
@[simp] theorem steady_putGran (g : Nat) (v : Option (List (BitVec 8))) (s : State) : (putGran g v s).steady = s.steady :=
  steady_of_apart (apart_putGran 0 g v s)
@[simp] theorem steady_ownColumn (g : Nat) (rd : Bool) (s : State) : (ownColumn g rd s).steady = s.steady :=
  steady_of_apart (apart_ownColumn 0 g rd s)
@[simp] theorem steady_ownWrite (g : Nat) (v : Option (List (BitVec 8))) (s : State) : (ownWrite g v s).steady = s.steady :=
  steady_of_apart (apart_ownWrite 0 g v s)
@[simp] theorem steady_ownCommit (s : State) : (ownCommit s).steady = s.steady := steady_of_apart (apart_ownCommit 0 s)
@[simp] theorem steady_mergeEnd (ch : Nat) (m : MergeE) (s : State) : (mergeEnd ch m s).steady = s.steady :=
  steady_of_apart (apart_mergeEnd 0 ch m s)
@[simp] theorem steady_mergeRoom (ch : Nat) (s : State) : (mergeRoom ch s).steady = s.steady := steady_of_apart (apart_mergeRoom 0 ch s)
@[simp] theorem steady_settleOn (ch g : Nat) (s : State) : (settleOn ch g s).steady = s.steady :=
  steady_of_apart (apart_settleOn 0 ch g s)
@[simp] theorem steady_settleChunk (ch chunk : Nat) (s : State) : (settleChunk ch chunk s).steady = s.steady :=
  steady_of_apart (apart_settleChunk 0 ch chunk s)
@[simp] theorem steady_leaveQueue (ch : Nat) (s : State) : (leaveQueue ch s).steady = s.steady :=
  steady_of_apart (apart_leaveQueue 0 ch s)
@[simp] theorem steady_endRequests (ch : Nat) (how : Fin_) (keep : Entry → Bool) (s : State) :
    (endRequests ch how keep s).steady = s.steady := steady_of_apart (apart_endRequests 0 ch how keep s)
@[simp] theorem steady_mergeFlush (ch : Nat) (s : State) : (mergeFlush ch s).steady = s.steady :=
  steady_of_apart (apart_mergeFlush 0 ch s)
@[simp] theorem steady_dccRecord (ch : Nat) (c : Cls) (detail : BitVec 64) (count : Nat) (s : State) :
    (dccRecord ch c detail count s).steady = s.steady := steady_of_apart (apart_dccRecord 0 ch c detail count s)
@[simp] theorem steady_decodeGran (g : Nat) (errs : List (Nat × BitVec 8)) (fill : Bool) (s : State) :
    (decodeGran g errs fill s).1.steady = s.steady := steady_of_apart (apart_decodeGran 0 g errs fill s)
@[simp] theorem steady_closeDue (ch : Nat) (s : State) : (closeDue ch s).steady = s.steady := steady_of_apart (apart_closeDue 0 ch s)
@[simp] theorem steady_fillReturn (ch g : Nat) (errs : List (Nat × BitVec 8)) (s : State) :
    (fillReturn ch g errs s).steady = s.steady := steady_of_apart (apart_fillReturn 0 ch g errs s)
@[simp] theorem steady_land (ch : Nat) (s : State) : (land ch s).steady = s.steady := steady_of_apart (apart_land 0 ch s)
@[simp] theorem steady_columnIssue (ch b col : Nat) (rd : Bool) (errs : List SymErr) (job : Option ScrubJob) (s : State) :
    (columnIssue ch b col rd errs job s).steady = s.steady := steady_of_apart (apart_columnIssue 0 ch b col rd errs job s)
@[simp] theorem steady_issue (ch : Nat) (p : Pick) (s : State) : (issue ch p s).steady = s.steady := steady_of_apart (apart_issue ch p s)
@[simp] theorem steady_recover (fuel ch : Nat) (s : State) : (recover ch fuel s).steady = s.steady :=
  steady_of_apart (apart_recover fuel ch s)
@[simp] theorem steady_stopChannel (doubled : Bool) (ch : Nat) (s : State) : (stopChannel doubled ch s).steady = s.steady :=
  steady_of_apart (apart_stopChannel doubled ch s)
@[simp] theorem steady_readyRecords (old : BitVec 48) (s : State) : (readyRecords old s).steady = s.steady :=
  steady_of_apart (apart_readyRecords 0 old s)
@[simp] theorem steady_capTrack (old : BitVec 16) (s : State) : (capTrack old s).steady = s.steady :=
  steady_of_apart (apart_capTrack 0 old s)

@[simp] theorem steady_allPorts (s : State) (f : Nat → Port → Port) : (s.allPorts f).steady = s.steady := by simp [State.allPorts]
@[simp] theorem steady_fhPulse (n : Nat) (s : State) : (fhPulse n s).steady = s.steady := by simp [fhPulse]
@[simp] theorem steady_lsEnter (cause : Nat) (s : State) : (lsEnter cause s).steady = s.steady := by simp [lsEnter]
@[simp] theorem steady_collectOne (e : FaultEv) (s : State) : (collectOne e s).steady = s.steady := by simp [collectOne]
@[simp] theorem steady_collectLine (s : State) : (collectLine s).steady = s.steady := by simp [collectLine]
@[simp] theorem steady_lsControllers (s : State) : (lsControllers s).steady = s.steady := by simp [lsControllers]
@[simp] theorem steady_collectPass (s : State) : (collectPass s).steady = s.steady := by simp [collectPass]
@[simp] theorem steady_collect (s : State) : (collect s).steady = s.steady := by
  unfold collect
  split <;> simp
@[simp] theorem steady_settle (s0 s : State) : (settle s0 s).steady = s.steady := by
  unfold settle
  dsimp only
  split <;> simp


/-! ### Ops -/

@[simp] theorem steady_modPort (s : State) (p : Nat) (f : Port → Port) : (s.modPort p f).steady = s.steady := by simp [State.modPort]
@[simp] theorem steady_modBcn (s : State) (f : Bcn → Bcn) : (s.modBcn f).steady = s.steady := by simp [State.modBcn]
@[simp] theorem steady_modPcie (s : State) (f : Pcie → Pcie) : (s.modPcie f).steady = s.steady := by simp [State.modPcie]
@[simp] theorem steady_takeFree (s : State) : (State.takeFree s).steady = s.steady := by simp [State.takeFree]

/-! ### Beacon -/

@[simp] theorem steady_emitWaiting (s : State) : (emitWaiting s).steady = s.steady := by
  unfold emitWaiting
  simp only [steady_mk]
  exact steady_foldl_fst (fun a e => by split <;> simp) _ _

/-! ### Fault -/

@[simp] theorem steady_fencePort (p : Nat) (c : Cause) (s : State) : (fencePort p c s).steady = s.steady := by simp [fencePort]

/-! ### Sector -/

@[simp] theorem steady_takeCounts (src c : Nat) (s : State) : (takeCounts src c s).steady = s.steady := by simp [takeCounts]
@[simp] theorem steady_releaseCounts (src c : Nat) (s : State) : (releaseCounts src c s).steady = s.steady := by simp [releaseCounts]
@[simp] theorem steady_recoverRelease (p : Nat) (s : State) : (recoverRelease p s).steady = s.steady := by simp [recoverRelease]
@[simp] theorem steady_takePlace (ch c : Nat) (s : State) : (takePlace ch c s).steady = s.steady := by simp [takePlace]

/-! ### Dram -/

@[simp] theorem steady_injectParity (ch : Nat) (c : Cmd) (s : State) : (injectParity ch c s).steady = s.steady := by
  unfold injectParity
  split <;> simp

@[simp] theorem steady_prune (ch : Nat) (s : State) : (prune ch s).steady = s.steady := by simp [prune]

/-! ### Repair -/

@[simp] theorem steady_capChanged (ch : Nat) (s : State) : (capChanged ch s).steady = s.steady := by simp [capChanged]
@[simp] theorem steady_dccEvent (ch src : Nat) (c : Cls) (det : BitVec 64) (count : Nat) (s : State) :
    (dccEvent ch src c det count s).steady = s.steady := by simp [dccEvent]

@[simp] theorem steady_tsvReport (ch : Nat) (cmd : Bool) (a : TsvAct) (s : State) : (tsvReport ch cmd a s).steady = s.steady := by
  unfold tsvReport
  dsimp only
  split <;> simp

@[simp] theorem steady_failData (ch t : Nat) (s : State) : (failData ch t s).steady = s.steady := by simp [failData]
@[simp] theorem steady_failCmd (ch n : Nat) (dies : BitVec 16) (s : State) : (failCmd ch n dies s).steady = s.steady := by simp [failCmd]
@[simp] theorem steady_beginMove (ch : Nat) (m : Move) (s : State) : (beginMove ch m s).steady = s.steady := by simp [beginMove]
@[simp] theorem steady_mooringFull (ch g count : Nat) (s : State) : (mooringFull ch g count s).steady = s.steady := by simp [mooringFull]

@[simp] theorem steady_markBad (ch b n : Nat) (s : State) : (markBad ch b n s).steady = s.steady := by
  unfold markBad
  dsimp only
  repeat' split
  all_goals simp

@[simp] theorem steady_moorCandidate (ch : Nat) (c : Cand) (s : State) : (moorCandidate ch c s).steady = s.steady := by
  unfold moorCandidate
  dsimp only
  repeat' split
  all_goals simp

@[simp] theorem steady_mooringRound (ch : Nat) (s : State) : (mooringRound ch s).steady = s.steady := by simp [mooringRound]
@[simp] theorem steady_roundBoundary (ch : Nat) (s : State) : (roundBoundary ch s).steady = s.steady := by simp [roundBoundary]
@[simp] theorem steady_finishMove (ch : Nat) (s : State) (m : Move) : (finishMove ch s m).steady = s.steady := by simp [finishMove]
@[simp] theorem steady_finishMoves (ch : Nat) (s : State) : (finishMoves ch s).steady = s.steady := by simp [finishMoves]
@[simp] theorem steady_ceRecord (ch : Nat) (s : State) : (ceRecord ch s).steady = s.steady := by simp [ceRecord]

/-! ### Request -/

/-! ### Context -/

@[simp] theorem steady_modTnd (s : State) (f : Tnd → Tnd) : (s.modTnd f).steady = s.steady := by simp [State.modTnd]
@[simp] theorem steady_modTclu (s : State) (t : Nat) (f : TndClu → TndClu) : (s.modTclu t f).steady = s.steady := by simp [State.modTclu]
@[simp] theorem steady_modRes (t n : Nat) (f : Res → Res) (s : State) : (modRes t n f s).steady = s.steady := by simp [modRes]
@[simp] theorem steady_addWait (n : Nat) (c : Ctx) (pre : Bool) (s : State) : (addWait n c pre s).steady = s.steady := by simp [addWait]
@[simp] theorem steady_dropWait (n : Nat) (s : State) : (dropWait n s).steady = s.steady := by simp [dropWait]
@[simp] theorem steady_stopRecord (n : Nat) (c : Ctx) (s : State) : (stopRecord n c s).steady = s.steady := by simp [stopRecord]

/-! ### Xlate -/

@[simp] theorem steady_tlbDrop (asid : Option Nat) (lo hi : Nat) (s : State) : (tlbDrop asid lo hi s).steady = s.steady := by simp [tlbDrop]

/-! ### Stream -/

@[simp] theorem steady_finishDb (src : Option (Nat × Nat)) (st d : Nat) (s : State) : (finishDb src st d s).steady = s.steady := by
  unfold finishDb
  split <;> simp

@[simp] theorem steady_dropReads (n : Nat) (s : State) : (dropReads n s).steady = s.steady := by simp [dropReads]
@[simp] theorem steady_loseCache (t : Nat) (s : State) : (loseCache t s).steady = s.steady := by simp [loseCache]

/-! ### Element -/

@[simp] theorem steady_elFail (t n : Nat) (e : El) (cause : Nat) (detail : BitVec 64) (s : State) :
    (elFail t n e cause detail s).steady = s.steady := by simp [elFail]

/-! ### Relay -/

@[simp] theorem steady_relayFail (t n : Nat) (d : Desc) (e : El) (doubt : Bool) (cause : Nat) (detail : BitVec 64) (s : State) :
    (relayFail t n d e doubt cause detail s).steady = s.steady := by simp [relayFail]

@[simp] theorem steady_relayTimeout (p t : Nat) (s : State) : (relayTimeout p t s).steady = s.steady := by
  unfold relayTimeout
  dsimp only
  split
  · simp
  · split <;> simp

@[simp] theorem steady_relaysDue (s : State) : (relaysDue s).steady = s.steady := by simp [relaysDue]

/-! ### Ctrl -/

@[simp] theorem steady_cluRecord (k : Nat) (s : State) : (cluRecord k s).steady = s.steady := by simp [cluRecord]

/-! ### Regs -/

@[simp] theorem steady_takeSnap (s : State) : (takeSnap s).steady = s.steady := by simp [takeSnap]

/-! ### Writes -/

@[simp] theorem steady_modMbx (s : State) (m : Nat) (f : Mbx → Mbx) : (s.modMbx m f).steady = s.steady := by simp [State.modMbx]
@[simp] theorem steady_busLog (e : BusErr) (st : Cpl) (wr bar2 : Bool) (off be : Nat) (s : State) :
    (busLog e st wr bar2 off be s).steady = s.steady := by simp [busLog]

/-! ### Rows -/

@[simp] theorem steady_recordWrite (fast : Bool) (s : State) : (recordWrite fast s).steady = s.steady := by
  unfold recordWrite
  dsimp only
  split
  · simp
  · split <;> simp

@[simp] theorem steady_writeRest (fuel : Nat) (s : State) : (writeRest fuel s).steady = s.steady := by
  induction fuel generalizing s with
  | zero => rfl
  | succ fuel ih => simp [writeRest, ih]

@[simp] theorem steady_dmaTick (s : State) : (dmaTick s).steady = s.steady := by simp [dmaTick]
@[simp] theorem steady_quench (l : Nat) (s : State) : (quench l s).steady = s.steady := by simp [quench]

/-! ### Lantern -/

@[simp] theorem steady_modLan (s : State) (f : Lan → Lan) : (s.modLan f).steady = s.steady := by simp [State.modLan]
@[simp] theorem steady_lanRec (inst : Nat) (pay : BitVec 96) (s : State) : (lanRec inst pay s).steady = s.steady := by simp [lanRec]
@[simp] theorem steady_lanEvt (b : Nat) (s : State) : (lanEvt b s).steady = s.steady := by simp [lanEvt]
@[simp] theorem steady_lanLevel (l : Nat) (on : Bool) (pay : BitVec 96) (s : State) :
    (lanLevel l on pay s).steady = s.steady := by simp [lanLevel]
@[simp] theorem steady_effRecompute (s : State) : (effRecompute s).steady = s.steady := by simp [effRecompute]
@[simp] theorem steady_setLevel (first : Bool) (s : State) : (setLevel first s).steady = s.steady := by simp [setLevel]
@[simp] theorem steady_setThr (s : State) : (setThr s).steady = s.steady := by simp [setThr]
@[simp] theorem steady_setRates (own : BitVec 16) (s : State) : (setRates own s).steady = s.steady := by simp [setRates]
@[simp] theorem steady_setLimits (s : State) : (setLimits s).steady = s.steady := by simp [setLimits]
@[simp] theorem steady_lanApply (first : Bool) (own : BitVec 16) (s : State) : (lanApply first own s).steady = s.steady := by simp [lanApply]

@[simp] theorem steady_lanAct (s : State) : (lanAct s).1.steady = s.steady := by
  unfold lanAct
  split
  · rfl
  · simp

@[simp] theorem steady_lanReturn (s : State) : (lanReturn s).1.steady = s.steady := by simp [lanReturn]
@[simp] theorem steady_lanLate (s : State) : (lanLate s).1.steady = s.steady := by simp [lanLate]
@[simp] theorem steady_throttleBoundary (s : State) : (throttleBoundary s).steady = s.steady := by simp [throttleBoundary]

/-! ### Keeper -/

@[simp] theorem steady_modKpr (s : State) (f : Kpr → Kpr) : (s.modKpr f).steady = s.steady := by simp [State.modKpr]
@[simp] theorem steady_modLl (s : State) (f : Ll → Ll) : (s.modLl f).steady = s.steady := by simp [State.modLl]
@[simp] theorem steady_respond (m status : Nat) (data : List Word32) (superseded : Bool) (s : State) :
    (respond m status data superseded s).steady = s.steady := by simp [respond]
@[simp] theorem steady_dropMbx (c : KCause) (s : State) (m : Nat) : (dropMbx c s m).steady = s.steady := by simp [dropMbx]
@[simp] theorem steady_keeperReset (c : KCause) (inj : Bool) (s : State) : (keeperReset c inj s).steady = s.steady := by simp [keeperReset]

@[simp] theorem steady_sramRead (m w : Nat) (e : Sys2Proof.MacroErr) (inj : Bool) (s : State) : (sramRead m w e inj s).steady = s.steady := by
  unfold sramRead
  split <;> simp

@[simp] theorem steady_scrubRead (w : Nat) (errs : List Sys2Proof.MacroErr) (s : State) (m : Nat) :
    (scrubRead w errs s m).steady = s.steady := by
  unfold scrubRead
  split <;> simp

@[simp] theorem steady_sramScrub (w : Nat) (errs : List Sys2Proof.MacroErr) (s : State) :
    (sramScrub w errs s).steady = s.steady := by simp [sramScrub]
@[simp] theorem steady_sramScrubRest (s : State) : (sramScrubRest s).steady = s.steady := by simp [sramScrubRest]

/-! ### Light -/

@[simp] theorem steady_llReport (inst src : Nat) (c : Cls) (b : Nat) (words : List Nat) (rows : Nat) (inj : Bool) (s : State) :
    (llReport inst src c b words rows inj s).steady = s.steady := by simp [llReport]
@[simp] theorem steady_llEvt (k : Nat) (s : State) : (llEvt k s).steady = s.steady := by simp [llEvt]
@[simp] theorem steady_markWeak (b : Nat) (s : State) : (markWeak b s).steady = s.steady := by simp [markWeak]
@[simp] theorem steady_passStart (s : State) : (passStart s).steady = s.steady := by simp [passStart]

@[simp] theorem steady_moorRows (rows : List (Nat × Nat × Nat)) (s : State) : (moorRows rows s).1.steady = s.steady := by
  unfold moorRows
  simp only []
  rw [steady_foldl (fun s ch => by split <;> simp), steady_foldl_fst (fun a x => by split <;> simp)]

@[simp] theorem steady_withdraw (b : Nat) (drift : List Nat) (s : State) : (withdraw b drift s).steady = s.steady := by simp [withdraw]

@[simp] theorem steady_resenseEnd (reads : List Sys2Proof.FuseRead) (s : State) : (resenseEnd reads s).steady = s.steady := by
  unfold resenseEnd
  dsimp only
  repeat' split
  all_goals simp

@[simp] theorem steady_shadowCheck (s : State) : (shadowCheck s).steady = s.steady := by simp [shadowCheck]

/-! ### Power -/

@[simp] theorem steady_quadDown (p : Nat) (s : State) : (quadDown p s).steady = s.steady := by simp [quadDown]
@[simp] theorem steady_portDown (p : Nat) (s : State) : (portDown p s).steady = s.steady := by simp [portDown]
@[simp] theorem steady_cluDown (k : Nat) (s : State) : (cluDown k s).steady = s.steady := by simp [cluDown]
@[simp] theorem steady_xlateDown (s : State) :
    (xlateDown s).steady = s.steady := (steady_foldl (fun s d => by split <;> simp) _ _).trans (rfl)
@[simp] theorem steady_domDown (n : Nat) (s : State) : (domDown n s).steady = s.steady := by simp [domDown]
@[simp] theorem steady_lightshipLeave (s : State) : (lightshipLeave s).steady = s.steady := by simp [lightshipLeave]
@[simp] theorem steady_startUp (s : State) : (startUp s).steady = s.steady := by simp [startUp]
@[simp] theorem steady_nextStage (k : Nat) (g : Stage4) (s : State) : (nextStage k g s).steady = s.steady := by simp [nextStage]

@[simp] theorem steady_loadRepair (s : State) (r : Rep) : (loadRepair s r).steady = s.steady := by
  unfold loadRepair
  split <;> simp

@[simp] theorem steady_loadRepairs (k : Nat) (s : State) : (loadRepairs k s).steady = s.steady := by simp [loadRepairs]
@[simp] theorem steady_invalidAct (k : Nat) (s : State) : (invalidAct k s).steady = s.steady := by simp [invalidAct]

@[simp] theorem steady_stageFail (k : Nat) (s : State) : (stageFail k s).steady = s.steady := by
  unfold stageFail
  dsimp only
  split
  · simp
  · split <;> simp

/-! ### Test -/

@[simp] theorem steady_modWch (s : State) (f : Wch → Wch) : (s.modWch f).steady = s.steady := by simp [State.modWch]
@[simp] theorem steady_skipGroup (g : Nat) (s : State) : (skipGroup g s).steady = s.steady := by simp [skipGroup]
@[simp] theorem steady_sliceFails (before : Option TsvTest) (g : Nat) (l : List (Nat × Option Nat)) (failing : List Nat) (s : State) :
    (sliceFails before g l failing s).steady = s.steady := by simp [sliceFails]

@[simp] theorem steady_pointerSlice (failing : List Nat) (s : State) : (pointerSlice failing s).steady = s.steady := by
  unfold pointerSlice
  dsimp only
  repeat' split
  all_goals simp

@[simp] theorem steady_testSlice (failing : List Nat) (s : State) : (testSlice failing s).steady = s.steady := by
  unfold testSlice
  dsimp only
  repeat' split
  all_goals simp

@[simp] theorem steady_tsvSlices (failing : List Nat) (s : State) : (tsvSlices failing s).steady = s.steady := by simp [tsvSlices]
@[simp] theorem steady_wchEnd (s : State) : (wchEnd s).steady = s.steady := by simp [wchEnd]
@[simp] theorem steady_lanePassEnd (s : State) : (lanePassEnd s).steady = s.steady := by simp [lanePassEnd]
@[simp] theorem steady_testDomain (s : State) : (testDomain s).steady = s.steady := by simp [testDomain]

/-! ### Renjan -/

@[simp] theorem steady_done_ (s : State) (d : List Word32) : (done_ s d).1.steady = s.steady := by simp [done_]
@[simp] theorem steady_refuse (s : State) (st : Nat) (d : List Word32) : (refuse s st d).1.steady = s.steady := by simp [refuse]

@[simp] theorem steady_waitFor (m : Option Nat) (w : Wait) (s : State) : (waitFor m w s).1.steady = s.steady := by
  unfold waitFor
  split <;> simp

@[simp] theorem steady_rIdentGet (s : State) : (rIdentGet s).1.steady = s.steady := by simp [rIdentGet]

@[simp] theorem steady_rStackIdSet (x : Mbx) (s : State) : (rStackIdSet x s).1.steady = s.steady := by
  unfold rStackIdSet
  split <;> simp

@[simp] theorem steady_wantDom (s : State) (n : Nat) : (wantDom s n).steady = s.steady := by simp [wantDom]

@[simp] theorem steady_rPortPower (m : Option Nat) (later : List (Nat × Nat)) (x : Mbx) (s : State) :
    (rPortPower m later x s).1.steady = s.steady := by
  unfold rPortPower
  dsimp only
  repeat' split
  all_goals simp

@[simp] theorem steady_rPortFence (later : List (Nat × Nat)) (x : Mbx) (s : State) :
    (rPortFence later x s).1.steady = s.steady := by simp [rPortFence]
@[simp] theorem steady_unfence (f : Frames → Frames) (p : Nat) (s : State) : (unfence f p s).steady = s.steady := by simp [unfence]

@[simp] theorem steady_rPortUnfence (later : List (Nat × Nat)) (x : Mbx) (s : State) : (rPortUnfence later x s).1.steady = s.steady := by
  unfold rPortUnfence
  dsimp only
  split <;> simp

@[simp] theorem steady_rRelaySet (x : Mbx) (s : State) : (rRelaySet x s).1.steady = s.steady := by
  unfold rRelaySet
  dsimp only
  split <;> simp

@[simp] theorem steady_rZombieRelease (x : Mbx) (s : State) : (rZombieRelease x s).1.steady = s.steady := by simp [rZombieRelease]

@[simp] theorem steady_rClusterStep (m : Option Nat) (x : Mbx) (s : State) : (rClusterStep m x s).1.steady = s.steady := by
  unfold rClusterStep
  dsimp only
  split <;> simp

@[simp] theorem steady_rClusterPower (m : Option Nat) (later : List (Nat × Nat)) (x : Mbx) (s : State) :
    (rClusterPower m later x s).1.steady = s.steady := by
  unfold rClusterPower
  dsimp only
  repeat' split
  all_goals simp

@[simp] theorem steady_rSectAdmit (x : Mbx) (s : State) : (rSectAdmit x s).1.steady = s.steady := by
  unfold rSectAdmit
  dsimp only
  repeat' split
  all_goals simp

@[simp] theorem steady_rSectQuery (s : State) : (rSectQuery s).1.steady = s.steady := by simp [rSectQuery]
@[simp] theorem steady_dropResident (n : Nat) (s : State) : (dropResident n s).steady = s.steady := by simp [dropResident]

@[simp] theorem steady_rStreamQuery (x : Mbx) (s : State) : (rStreamQuery x s).1.steady = s.steady := by
  unfold rStreamQuery
  dsimp only
  split <;> simp

@[simp] theorem steady_invalidate (m : Option Nat) (asid : Option Nat) (lo hi : Nat) (s : State) :
    (invalidate m asid lo hi s).1.steady = s.steady := by simp [invalidate]

@[simp] theorem steady_rXlateInval (m : Option Nat) (x : Mbx) (s : State) : (rXlateInval m x s).1.steady = s.steady := by
  unfold rXlateInval
  dsimp only
  repeat' split
  all_goals simp

@[simp] theorem steady_rFwRegionSet (x : Mbx) (s : State) : (rFwRegionSet x s).1.steady = s.steady := by
  unfold rFwRegionSet
  dsimp only
  split
  · simp
  · split <;> simp

@[simp] theorem steady_rFwRegionClear (x : Mbx) (s : State) : (rFwRegionClear x s).1.steady = s.steady := by
  unfold rFwRegionClear
  dsimp only
  split <;> simp

@[simp] theorem steady_rMooringLoad (m : Option Nat) (x : Mbx) (s : State) : (rMooringLoad m x s).1.steady = s.steady := by
  unfold rMooringLoad
  dsimp only
  repeat' split
  all_goals simp

@[simp] theorem steady_rMooringFree (m : Option Nat) (x : Mbx) (s : State) : (rMooringFree m x s).1.steady = s.steady := by
  unfold rMooringFree
  dsimp only
  split
  · simp
  · split <;> simp

@[simp] theorem steady_rMooringRead (x : Mbx) (s : State) : (rMooringRead x s).1.steady = s.steady := by
  unfold rMooringRead
  dsimp only
  split <;> simp

@[simp] theorem steady_rIntegrityGet (x : Mbx) (s : State) : (rIntegrityGet x s).1.steady = s.steady := by
  unfold rIntegrityGet
  dsimp only
  split <;> simp

@[simp] theorem steady_rFuseRead (x : Mbx) (s : State) : (rFuseRead x s).1.steady = s.steady := by
  unfold rFuseRead
  dsimp only
  split <;> simp

@[simp] theorem steady_beginBurn (m : Option Nat) (k : BurnKind) (b : Nat) (todo : List (Nat × BitVec 64)) (word : Nat) (s : State) :
    (beginBurn m k b todo word s).1.steady = s.steady := by
  unfold beginBurn
  split <;> simp

@[simp] theorem steady_rFuseProgram (m : Option Nat) (x : Mbx) (s : State) : (rFuseProgram m x s).1.steady = s.steady := by
  unfold rFuseProgram
  dsimp only
  repeat' split
  all_goals simp

@[simp] theorem steady_rFuseSeal (m : Option Nat) (x : Mbx) (s : State) : (rFuseSeal m x s).1.steady = s.steady := by
  unfold rFuseSeal
  dsimp only
  repeat' split
  all_goals simp

@[simp] theorem steady_rFuseLock (m : Option Nat) (x : Mbx) (s : State) : (rFuseLock m x s).1.steady = s.steady := by
  unfold rFuseLock
  dsimp only
  repeat' split
  all_goals simp

@[simp] theorem steady_rFuseReburn (m : Option Nat) (x : Mbx) (s : State) : (rFuseReburn m x s).1.steady = s.steady := by
  unfold rFuseReburn
  dsimp only
  split
  · simp
  · split <;> simp

@[simp] theorem steady_rLifecycleAdvance (m : Option Nat) (x : Mbx) (s : State) : (rLifecycleAdvance m x s).1.steady = s.steady := by
  unfold rLifecycleAdvance
  dsimp only
  split
  · simp
  · split <;> simp

@[simp] theorem steady_rSensorRestore (x : Mbx) (s : State) : (rSensorRestore x s).1.steady = s.steady := by
  unfold rSensorRestore
  dsimp only
  split <;> simp

@[simp] theorem steady_rLanOverride (x : Mbx) (s : State) : (rLanOverride x s).1.steady = s.steady := by
  unfold rLanOverride
  dsimp only
  split
  · simp
  · split <;> simp

@[simp] theorem steady_rLanConfig (x : Mbx) (s : State) : (rLanConfig x s).1.steady = s.steady := by
  unfold rLanConfig
  dsimp only
  split <;> simp

@[simp] theorem steady_rLanRead (s : State) : (rLanRead s).1.steady = s.steady := by simp [rLanRead]
@[simp] theorem steady_rBistStatus (s : State) : (rBistStatus s).1.steady = s.steady := by simp [rBistStatus]

@[simp] theorem steady_rTsvTest (m : Option Nat) (x : Mbx) (s : State) : (rTsvTest m x s).1.steady = s.steady := by
  unfold rTsvTest
  dsimp only
  split <;> simp

@[simp] theorem steady_rWatchSelect (x : Mbx) (s : State) : (rWatchSelect x s).1.steady = s.steady := by
  unfold rWatchSelect
  dsimp only
  split <;> simp

@[simp] theorem steady_rLogRead (x : Mbx) (s : State) : (rLogRead x s).1.steady = s.steady := by
  unfold rLogRead
  dsimp only
  split <;> simp

@[simp] theorem steady_rKeeperReset (s : State) : (rKeeperReset s).1.steady = s.steady := by simp [rKeeperReset]

@[simp] theorem steady_rFaultInject (x : Mbx) (s : State) : (rFaultInject x s).1.steady = s.steady := by
  unfold rFaultInject
  dsimp only
  repeat' split
  all_goals simp

@[simp] theorem steady_rFoghornDrive (x : Mbx) (s : State) : (rFoghornDrive x s).1.steady = s.steady := by
  unfold rFoghornDrive
  split <;> simp

@[simp] theorem steady_rLightshipExit (s : State) : (rLightshipExit s).1.steady = s.steady := by
  unfold rLightshipExit
  dsimp only
  split <;> simp

@[simp] theorem steady_waitEffect (m : Nat) (w : Wait) (s : State) : (waitEffect m w s).steady = s.steady := by
  unfold waitEffect
  split <;> simp

@[simp] theorem steady_finishWaits (s : State) : (finishWaits s).steady = s.steady := by
  refine steady_foldl (fun s m => ?_) _ _
  dsimp only
  repeat' split
  all_goals simp

/-! ### Tick -/

@[simp] theorem steady_gateXbar (s : State) : (gateXbar s).steady = s.steady := by simp [gateXbar]

@[simp] theorem steady_finishCmd (m : Nat) (d : Decision) : (finishCmd m d).steady = d.1.steady := by
  unfold finishCmd; split <;> simp

@[simp] theorem steady_patternTick (s : State) : (patternTick s).steady = s.steady := by simp [patternTick]
@[simp] theorem steady_senseTick (s : State) : (senseTick s).steady = s.steady := by simp [senseTick]
@[simp] theorem steady_faultBoundary (s : State) : (faultBoundary s).steady = s.steady := by simp [faultBoundary]
@[simp] theorem steady_ptmRecord (done : Bool) (s : State) : (ptmRecord done s).steady = s.steady := by simp [ptmRecord]
@[simp] theorem steady_pinBoundary (was : Bool) (s : State) : (pinBoundary was s).steady = s.steady := by simp [pinBoundary]
@[simp] theorem steady_portBoundary (s : State) : (portBoundary s).steady = s.steady := by simp [portBoundary]
@[simp] theorem steady_stepStart (k to_ : Nat) (s : State) : (stepStart k to_ s).steady = s.steady := by simp [stepStart]
@[simp] theorem steady_stepMaybe (k : Nat) (s : State) : (stepMaybe k s).steady = s.steady := by simp [stepMaybe]
@[simp] theorem steady_windowBegin (ch : Nat) (s : State) : (windowBegin ch s).steady = s.steady := by simp [windowBegin]

@[simp] theorem steady_keeperBoundary (s : State) : (keeperBoundary s).steady = s.steady := by
  unfold keeperBoundary
  dsimp only
  repeat' split
  all_goals simp

@[simp] theorem steady_powerBoundary (s : State) : (powerBoundary s).steady = s.steady := by simp [powerBoundary]
@[simp] theorem steady_lsAfter (s : State) : (lsAfter s).steady = s.steady := by simp [lsAfter]

end Sys2Proof.Machine
end

section
/-! SUPPORT. The same of what runs a channel's commands, of the units' own accesses to memory, of the commands of Renjan and of a boundary. -/

namespace Sys2Proof.Machine

/-! ### Queue -/

@[simp] theorem steady_settleAll (ch : Nat) (s : State) : (settleAll ch s).steady = s.steady := by simp [settleAll]

/-! ### Dram -/

@[simp] theorem steady_landAll (ch : Nat) (s : State) : (landAll ch s).steady = s.steady := by simp [landAll]

@[simp] theorem steady_overrunCheck (ch : Nat) (s : State) : (overrunCheck ch s).steady = s.steady := by
  unfold overrunCheck
  dsimp only
  split
  · exact (steady_modDay (fun _ => rfl) _).trans (steady_modSched _ _ _)
  · rfl

@[simp] theorem steady_maintNow (ch : Nat) (p : Pick) (s : State) : (maintNow ch p s).steady = s.steady := by
  unfold maintNow
  split <;> simp

@[simp] theorem steady_maintRest (fuel ch : Nat) (s : State) : (maintRest ch fuel s).steady = s.steady := by
  induction fuel generalizing s with
  | zero => rfl
  | succ fuel ih =>
    unfold maintRest
    dsimp only
    split <;> simp [ih]

@[simp] theorem steady_columnNow (ch g : Nat) (rd : Bool) (s : State) : (columnNow ch g rd s).steady = s.steady := by
  unfold columnNow
  dsimp only
  split <;> simp

@[simp] theorem steady_drainGran (fuel ch g : Nat) (s : State) : (drainGran fuel ch g s).steady = s.steady := by
  induction fuel generalizing s with
  | zero => rfl
  | succ fuel ih =>
    unfold drainGran
    repeat' split
    all_goals simp [ih]

@[simp] theorem steady_drainOn (ch g : Nat) (s : State) : (drainOn ch g s).steady = s.steady := by simp [drainOn]

/-! ### Repair -/

@[simp] theorem steady_retire (ch : Nat) (slices : BitVec 16) (chan : Bool) (s : State) : (retire ch slices chan s).steady = s.steady := by
  unfold retire
  dsimp only
  split
  · simp
  · split <;> simp

@[simp] theorem steady_applyPend (ch : Nat) (s : State) : (applyPend ch s).steady = s.steady := by simp [applyPend]

/-! ### Context -/

@[simp] theorem steady_ownAccess {α : Type} (o : Own) (g : Nat) {f : State → State × α} (hf : ∀ t, (f t).1.steady = t.steady) (s : State) :
    (ownAccess o g f s).1.steady = s.steady := by
  unfold ownAccess
  extract_lets ch s1 c r s2
  have h1 : s1.steady = s.steady := by unfold s1; split <;> simp
  have h2 : s2.steady = s.steady := by simp [s2, r, hf, h1]
  split <;> simp [h2]

@[simp] theorem steady_takeGran (rdc : Bool) (g : Nat) (s : State) : (takeGran rdc g s).1.steady = s.steady := by
  unfold takeGran
  dsimp only
  repeat' split
  all_goals simp

@[simp] theorem steady_peekGran (o : Own) (g : Nat) (s : State) : (peekGran o g s).1.steady = s.steady := by
  unfold peekGran
  split <;> simp

@[simp] theorem steady_peekChunk (g : Nat) (s : State) : (peekChunk g s).1.steady = s.steady := by
  unfold peekChunk
  split <;> simp

@[simp] theorem steady_layGran (wrc : Bool) (g : Nat) (v : Option (List (BitVec 8))) (s : State) :
    (layGran wrc g v s).steady = s.steady := by simp [layGran]
@[simp] theorem steady_pokeGran (o : Own) (g : Nat) (v : Option (List (BitVec 8))) (s : State) :
    (pokeGran o g v s).steady = s.steady := by simp [pokeGran]

@[simp] theorem steady_pokeChunk (g : Nat) (lo hi : List (BitVec 8)) (s : State) : (pokeChunk g lo hi s).steady = s.steady := by
  unfold pokeChunk
  split <;> simp

@[simp] theorem steady_storeCtx (n : Nat) (c : Ctx) (s : State) : (storeCtx n c s).steady = s.steady := by simp [storeCtx]

@[simp] theorem steady_putCtx (n : Nat) (c : Ctx) (s : State) : (putCtx n c s).steady = s.steady := by
  unfold putCtx
  split <;> simp

/-! ### Stream -/

@[simp] theorem steady_abortStream (n : Nat) (mgr : Bool) (s : State) : (abortStream n mgr s).steady = s.steady := by
  unfold abortStream
  split <;> simp

@[simp] theorem steady_applyCmd (cmd n : Nat) (mgr : Bool) (s : State) : (applyCmd cmd n mgr s).1.steady = s.steady := by
  unfold applyCmd
  dsimp only
  repeat' split
  all_goals simp

@[simp] theorem steady_decideDb (n : Nat) (s : State) : (decideDb n s).steady = s.steady := by
  unfold decideDb
  split <;> simp

@[simp] theorem steady_ctxPoisoned (n : Nat) (hi : GranRes) (s : State) : (ctxPoisoned n hi s).steady = s.steady := by simp [ctxPoisoned]

@[simp] theorem steady_doorbellContextRead (n : Nat) (s : State) : (doorbellContextRead n s).steady = s.steady := by
  unfold doorbellContextRead
  dsimp only
  repeat' split
  all_goals simp

/-! ### Ctrl -/

@[simp] theorem steady_cluNotReady (k : Nat) (s : State) : (cluNotReady k s).steady = s.steady := by simp [cluNotReady]
@[simp] theorem steady_stepFail (k src : Nat) (s : State) : (stepFail k src s).steady = s.steady := by simp [stepFail]
@[simp] theorem steady_stepOver (k : Nat) (s : State) : (stepOver k s).steady = s.steady := by simp [stepOver]

/-! ### Mgmt -/

@[simp] theorem steady_bar2ReadChunk (r : B2Req) (s : State) (c : Nat) : (bar2ReadChunk r s c).1.steady = s.steady := by
  unfold bar2ReadChunk
  split <;> simp

@[simp] theorem steady_mergeUnits (g : Nat) (en : BitVec 8) (data : List (BitVec 8)) (s : State) :
    (mergeUnits g en data s).steady = s.steady := by
  unfold mergeUnits
  extract_lets ch s1 s2 s3 s4
  have h1 : s1.steady = s.steady := by
    unfold s1
    repeat' split
    all_goals simp
  have h3 : s3.steady = s.steady := by
    unfold s3
    split
    · rfl
    · unfold s2
      split <;> simp [h1]
  have h4 : s4.steady = s.steady := by
    unfold s4
    repeat' split
    all_goals simp [h3]
  split
  · split
    · dsimp only
      split <;> simp [h4]
    · exact h4
  · exact h4

@[simp] theorem steady_patchUnit (r : B2Req) (g u : Nat) (s : State) : (patchUnit r g u s).steady = s.steady := by
  unfold patchUnit
  dsimp only
  split <;> simp

@[simp] theorem steady_bar2Gran (r : B2Req) (s : State) (g : Nat) : (bar2Gran r s g).steady = s.steady := by
  unfold bar2Gran
  dsimp only
  split
  · simp
  · split <;> simp

@[simp] theorem steady_bar2WriteChunk (r : B2Req) (s : State) (c : Nat) : (bar2WriteChunk r s c).steady = s.steady := by
  unfold bar2WriteChunk
  split <;> simp

@[simp] theorem steady_bar2Serve (r : B2Req) (s : State) : (bar2Serve r s).steady = s.steady := by
  unfold bar2Serve
  dsimp only
  repeat' split
  all_goals simp

@[simp] theorem steady_bar2Stream (fuel : Nat) (s : State) : (bar2Stream fuel s).steady = s.steady := by
  induction fuel generalizing s with
  | zero => rfl
  | succ fuel ih =>
    unfold bar2Stream
    repeat' split
    all_goals simp [ih]

/-! ### Keeper -/

@[simp] theorem steady_readImage (a n : Nat) (s : State) : (readImage a n s).1.steady = s.steady := by
  refine steady_foldl_fst (fun u g => ?_) _ _
  dsimp only
  repeat' split
  all_goals simp

@[simp] theorem steady_patchVerify (a : Nat) (s : State) : (patchVerify a s).1.steady = s.steady := by
  unfold patchVerify
  dsimp only
  split
  · simp
  · split <;> simp

/-! ### Power -/

@[simp] theorem steady_diesUp (k : Nat) (s : State) : (diesUp k s).steady = s.steady := by simp [diesUp]

/-! ### Renjan -/

@[simp] theorem steady_rStreamAlloc (x : Mbx) (s : State) : (rStreamAlloc x s).1.steady = s.steady := by
  unfold rStreamAlloc
  dsimp only
  repeat' split
  all_goals simp

@[simp] theorem steady_rStreamFree (x : Mbx) (s : State) : (rStreamFree x s).1.steady = s.steady := by
  unfold rStreamFree
  dsimp only
  split
  · simp
  · split <;> simp

@[simp] theorem steady_rStreamCmd (cmd : Nat) (x : Mbx) (s : State) : (rStreamCmd cmd x s).1.steady = s.steady := by
  unfold rStreamCmd
  dsimp only
  split
  · simp
  · split <;> simp

@[simp] theorem steady_pokeWord (a : Nat) (v : BitVec 64) (s : State) : (pokeWord a v s).1.steady = s.steady := by simp [pokeWord]

@[simp] theorem steady_rAsidSet (m : Option Nat) (valid : Bool) (x : Mbx) (s : State) : (rAsidSet m valid x s).1.steady = s.steady := by
  unfold rAsidSet
  dsimp only
  repeat' split
  all_goals simp

@[simp] theorem steady_writeBack (t : Nat) (s : State) : (writeBack t s).steady = s.steady := by simp [writeBack]

@[simp] theorem steady_rTndPower (m : Option Nat) (later : List (Nat × Nat)) (x : Mbx) (s : State) :
    (rTndPower m later x s).1.steady = s.steady := by
  unfold rTndPower
  dsimp only
  repeat' split
  all_goals simp

@[simp] theorem steady_rChannelRetire (x : Mbx) (s : State) : (rChannelRetire x s).1.steady = s.steady := by
  unfold rChannelRetire
  dsimp only
  repeat' split
  all_goals simp

@[simp] theorem steady_copyImage (b : List (BitVec 8)) (dst : Nat) (s : State) : (copyImage b dst s).steady = s.steady := by simp [copyImage]

@[simp] theorem steady_rPatchLoad (m : Option Nat) (x : Mbx) (s : State) : (rPatchLoad m x s).1.steady = s.steady := by
  simp only [rPatchLoad]
  repeat' split
  all_goals simp

@[simp] theorem steady_decideCmd (m : Option Nat) (later : List (Nat × Nat)) (x : Mbx) (s : State) :
    (decideCmd m later x s).1.steady = s.steady := by
  unfold decideCmd
  split <;> simp

@[simp] theorem steady_takeMbx (m : Nat) (s : State) : (takeMbx m s).steady = s.steady := by
  unfold takeMbx
  dsimp only
  repeat' split
  all_goals simp

@[simp] theorem steady_runStaged (counts : Staged → Bool) (l : List Staged) (s : State) (acc : List Outcome_) :
    (runStaged counts l s acc).1.steady = s.steady := by
  induction l generalizing s acc with
  | nil => rfl
  | cons y ys ih => simp [runStaged, ih]

@[simp] theorem steady_answerStaged (l : List Outcome_) (s : State) : (answerStaged l s).steady = s.steady := by
  induction l generalizing s with
  | nil => rfl
  | cons y ys ih =>
    unfold answerStaged
    dsimp only
    rw [ih]
    repeat' split
    all_goals simp

@[simp] theorem steady_stagedCmds (s : State) : (stagedCmds s).steady = s.steady := by simp [stagedCmds]
@[simp] theorem steady_fastTake (s : State) : (fastTake s).steady = s.steady := by simp [fastTake]

/-! ### Tick -/

@[simp] theorem steady_chanTickEnd (ch : Nat) (s : State) : (chanTickEnd ch s).steady = s.steady := by simp [chanTickEnd]

@[simp] theorem steady_stepNext (k : Nat) (s : State) : (stepNext k s).steady = s.steady := by
  unfold stepNext
  dsimp only
  split <;> simp

@[simp] theorem steady_drainBoundary (k : Nat) (s : State) : (drainBoundary k s).steady = s.steady := by
  unfold drainBoundary
  dsimp only
  split <;> simp

@[simp] theorem steady_stageMove (k : Nat) (g : Stage4) (s : State) : (stageMove k g s).steady = s.steady := by
  unfold stageMove
  split <;> simp

@[simp] theorem steady_stageBoundary (k : Nat) (s : State) : (stageBoundary k s).steady = s.steady := by
  unfold stageBoundary
  dsimp only
  repeat' split
  all_goals simp

@[simp] theorem steady_cluBoundary (k : Nat) (s : State) : (cluBoundary k s).steady = s.steady := by simp [cluBoundary]
@[simp] theorem steady_chanBoundary (ch : Nat) (s : State) : (chanBoundary ch s).steady = s.steady := by simp [chanBoundary]

/-! ### The boundary -/

@[simp] theorem steady_lateBoundary (s : State) : (lateBoundary s).steady = s.steady :=
  (steady_foldl (fun t c => by split <;> simp) _ _).trans (steady_modDay (fun _ => rfl) s)

@[simp] theorem steady_sqBoundary (s : State) : (sqBoundary s).steady = s.steady := (rfl)

@[simp] theorem steady_reactBoundary (was : Bool) (s : State) : (reactBoundary was s).steady = s.steady := by simp [reactBoundary]

theorem budgetBoundary_day (s : State) : (budgetBoundary s).day = s.day := by
  unfold budgetBoundary
  dsimp only
  repeat' split
  all_goals rfl

theorem configBoundary_day (s : State) : (configBoundary s).day.steady = (applyStaged (takeSnap s)).day.steady := by
  unfold configBoundary
  dsimp only
  rw [budgetBoundary_day]
  refine congrArg Prod.fst (?_ : State.steady _ = State.steady _)
  rw [steady_stagedCmds, steady_faultBoundary, steady_lateBoundary]
  rw [steady_modDay (f := fun d => { d with slewing := d.slewing && d.servoEn }) (fun _ => rfl), steady_mk]

/-- The work left of a tick leaves the tick's state and the staged writes alone, and then the tick ends (R28). -/
theorem endTick_eq (s : State) : ∃ u : State, u.steady = s.steady ∧ endTick s = { u with day := u.day.advance u.clk } := by
  refine ⟨_, ?_, rfl⟩
  simp

/-- What holds of the tick's state after a boundary: what the staged writes make of the tick that has ended. -/
theorem tickBoundary_day {s : State} (h : s.pwr.held = false) :
    (tickBoundary s).day.steady = (applyStaged (takeSnap (endTick s))).day.steady := by
  rw [← configBoundary_day]
  refine congrArg Prod.fst (?_ : State.steady _ = State.steady _)
  rw [tickBoundary, if_neg (by simp [h])]
  simp

theorem exec_tickBoundary_day {s : State} (h : s.pwr.held = false) :
    ∃ t, exec .tickBoundary s = .next t ∧ t.day.steady = (applyStaged (takeSnap (endTick s))).day.steady := by
  refine ⟨_, rfl, ?_⟩
  rw [← tickBoundary_day h]
  refine congrArg Prod.fst (?_ : State.steady _ = State.steady _)
  simp

end Sys2Proof.Machine
end

section
/-! PROOF of O43: the tick boundary and the PTM dialogue (R28, R45, R47). -/

namespace Sys2Proof.Machine

/-! ### What staged writes leave alone of the tick's state -/

/-- The tick counter, the cycles of the tick that have passed, the timestamp and a forward step that waits. -/
def Day.count (d : Day) : Nat × Nat × Nat × Nat := (d.tick, d.cyc, d.ts, d.tsStep)

def State.count (s : State) : Nat × Nat × Nat × Nat := s.day.count

@[simp] theorem Day.count_mk (d : Day) (src phase rate servoEn stepEn periodExp aligned slewing uncertain ptm ptmLastOk ptmOfs nextPtm
    scrubChunks tsvBistEn laneBistEn overrun late lateNow lateClr ovrClr) :
    (Day.mk d.tick d.cyc src phase d.ts rate servoEn stepEn periodExp aligned slewing uncertain ptm ptmLastOk ptmOfs d.tsStep nextPtm
      scrubChunks tsvBistEn laneBistEn overrun late lateNow lateClr ovrClr).count = d.count := (rfl)

@[simp] theorem count_ite {c : Prop} [Decidable c] (s t : State) : (if c then s else t).count = if c then s.count else t.count :=
  apply_ite State.count c s t

@[simp] theorem count_mk (s : State) (staged ports clk clus chans mem chk sec regions stackId tenderPart ready bcn flt ls pcie pwr ret
    snap kpr lan ll wch tnd rlyTurn free pending) :
    (State.mk s.day staged ports clk clus chans mem chk sec regions stackId tenderPart ready bcn flt ls pcie pwr ret
      snap kpr lan ll wch tnd rlyTurn free pending).count = s.count := (rfl)

@[simp] theorem count_modDay {f : Day → Day} (hf : ∀ d, (f d).count = d.count) (s : State) : (s.modDay f).count = s.count := hf s.day
@[simp] theorem count_modPort (s : State) (p : Nat) (f : Port → Port) : (s.modPort p f).count = s.count := (rfl)
@[simp] theorem count_modClu (s : State) (k : Nat) (f : Clu → Clu) : (s.modClu k f).count = s.count := (rfl)
@[simp] theorem count_modSec (s : State) (f : Sec → Sec) : (s.modSec f).count = s.count := (rfl)
@[simp] theorem count_modFlt (s : State) (f : Flt → Flt) : (s.modFlt f).count = s.count := (rfl)
@[simp] theorem count_modBcn (s : State) (f : Bcn → Bcn) : (s.modBcn f).count = s.count := (rfl)
@[simp] theorem count_modPcie (s : State) (f : Pcie → Pcie) : (s.modPcie f).count = s.count := (rfl)

@[simp] theorem count_foldl {α : Type} {f : State → α → State} (hf : ∀ s x, (f s x).count = s.count) (l : List α) (s : State) :
    (l.foldl f s).count = s.count := by
  induction l generalizing s with
  | nil => rfl
  | cons x l ih => rw [List.foldl_cons, ih, hf]

/-- No staged write that takes effect by itself changes the count. -/
@[simp] theorem count_applyRT (s : State) (w : Nat × Word32) : (applyRT s w).count = s.count := by simp [applyRT]
@[simp] theorem count_ringCtl (fast : Bool) (v : Word32) (s : State) : (ringCtl fast v s).count = s.count := by simp [ringCtl]
@[simp] theorem count_applyPg (st : List (Nat × Word32)) (p : Nat) (s : State) : (applyPg st p s).count = s.count := by
  unfold applyPg
  split <;> simp
@[simp] theorem count_applyCredits (st : List (Nat × Word32)) (p : Nat) (s : State) : (applyCredits st p s).count = s.count := by
  simp [applyCredits]

theorem count_applyStaged (s : State) : (applyStaged s).count = s.count := by
  unfold applyStaged
  extract_lets st s1 s2 s3 s4 s5
  have h3 : s3.count = s.count := by simp [s3, s2, s1]
  have h4 : s4.count = s3.count := by unfold s4; split <;> simp
  have h5 : s5.count = s4.count := by unfold s5; split <;> simp
  simp [h5, h4, h3]

/-! ### The boundary -/

theorem count_of_steady {d e : Day} (h : d.steady = e.steady) : d.count = e.count := by
  have hcount := congrArg Day.count h
  exact hcount

theorem len_of_steady {d e : Day} (h : d.steady = e.steady) : d.len = e.len := by
  have hlen := congrArg Day.len h
  exact hlen

theorem perCycle_of_steady {d e : Day} (h : d.steady = e.steady) : d.perCycle = e.perCycle := by
  have hcycle := congrArg Day.perCycle h
  exact hcycle

/-- The ended tick's count (R28, R45): a tick more, none of its cycles passed, and the rest of the old tick and a forward step in the
timestamp. -/
theorem endTick_count (s : State) : (endTick s).day.count =
    (s.day.tick + 1, 0, s.day.ts + (s.day.len - s.day.cyc) * s.day.perCycle + s.day.tsStep, 0) := by
  obtain ⟨u, hu, ht⟩ := endTick_eq s
  have hday : u.day.steady = s.day.steady := congrArg Prod.fst hu
  have hcount := count_of_steady hday
  simp only [Day.count, Prod.mk.injEq] at hcount
  obtain ⟨htick, hcyc, hts, hstep⟩ := hcount
  rw [ht]
  simp only [Day.count, Day.advance, Day.pass, htick, hcyc, hts, hstep, len_of_steady hday, perCycle_of_steady hday]

theorem count_takeSnap (s : State) : (takeSnap s).count = s.count := by simp [takeSnap]

/-- In the always-on reset a boundary does nothing (R28). -/
theorem execTickBoundary_held {s : State} (h : s.pwr.held = true) (hc : Calm s) : exec .tickBoundary s = .next s := by
  have ht : tickBoundary s = s := by rw [tickBoundary, if_pos h]
  change execTickBoundary s = _
  unfold execTickBoundary
  simp only [ht, collect_calm s hc, if_true, readyRecords_same _ _ rfl]

/-! ### The dialogue -/

/-- A rate by which an offset decays is within the limits, on the side of 1 that the offset asks for (R47). -/
theorem decayRate_bounds (o : Int) (n : Nat) :
    rateMin ≤ decayRate o n ∧ decayRate o n ≤ rateMax ∧ (0 < o → 2 ^ 32 < decayRate o n) ∧ (o < 0 → decayRate o n < 2 ^ 32) ∧
      (o = 0 → decayRate o n = 2 ^ 32) := by
  have hup : n % (rateMax - 2 ^ 32) < rateMax - 2 ^ 32 := Nat.mod_lt _ (by decide)
  have hdown : n % (2 ^ 32 - rateMin) < 2 ^ 32 - rateMin := Nat.mod_lt _ (by decide)
  unfold decayRate
  unfold rateMin rateMax at *
  split
  · omega
  · split <;> omega

/-- A dialogue that is due, with the servo on and Keeper in RUN, and fails (R47). -/
theorem ptmDialogue_fails {s : State} (hon : s.day.servoEn = true) (hrun : s.kpr.st = .run) (hdue : s.day.nextPtm ≤ s.day.tick)
    {o : Option Int} (h : s.pcie.linkUp = false ∨ o = none) : ptmDialogue o s = { s with day := { s.day with
      nextPtm := s.day.tick + s.day.period, ptm := s.day.ptm.raise 1, ptmLastOk := false } } := by
  have ho : (if s.pcie.linkUp = true then o else none) = none := by
    rcases h with h | h <;> simp [h]
  unfold ptmDialogue
  rw [if_neg (by simp [hon, hrun, hdue])]
  dsimp only [State.modDay]
  rw [ho]

/-- The tick's state of a dialogue that succeeds with offset `v`. -/
def Day.heard (d : Day) (v : Int) : Day :=
  { d with nextPtm := d.tick + d.period, ptm := d.ptm.raise 0, ptmLastOk := true, ptmOfs := v, aligned := true, uncertain := d.src = .rc }

/-- A dialogue that is due, with the servo on and Keeper in RUN, and succeeds (R47). -/
theorem ptmDialogue_succeeds {s : State} (hon : s.day.servoEn = true) (hrun : s.kpr.st = .run) (hdue : s.day.nextPtm ≤ s.day.tick)
    (hup : s.pcie.linkUp = true) (v : Int) : ptmDialogue (some v) s = ptmCorrect v { s with day := s.day.heard v } := by
  unfold ptmDialogue
  rw [if_neg (by simp [hon, hrun, hdue])]
  dsimp only [State.modDay]
  rw [if_pos hup]
  rfl

/-- What a correction changes (R47): the timestamp's own settings, staged writes and, for a free value, the source of free values. -/
theorem ptmCorrect_frame (o : Int) (s : State) :
    ptmCorrect o s = { s with day := (ptmCorrect o s).day, staged := (ptmCorrect o s).staged, free := (ptmCorrect o s).free } ∧
      (ptmCorrect o s).day = { s.day with slewing := (ptmCorrect o s).day.slewing, tsStep := (ptmCorrect o s).day.tsStep } := by
  unfold ptmCorrect
  dsimp only
  split
  · exact ⟨rfl, rfl⟩
  · split <;> exact ⟨rfl, rfl⟩

theorem ptmCorrect_slow {o : Int} (h : o < -1000) (s : State) : (ptmCorrect o s).day.slewing = true ∧
    (ptmCorrect o s).staged = s.staged ++ [(0x118, BitVec.ofNat 32 rateMin), (0x11C, BitVec.ofNat 32 (rateMin / 2 ^ 32))] := by
  unfold ptmCorrect
  rw [if_pos h]
  exact ⟨rfl, rfl⟩

theorem ptmCorrect_step {o : Int} (h : 1000 < o) {s : State} (hs : s.day.stepEn = true) : (ptmCorrect o s).day.slewing = false ∧
    (ptmCorrect o s).day.tsStep = o.toNat * 2 ^ 32 ∧ (ptmCorrect o s).staged = s.staged := by
  unfold ptmCorrect
  rw [if_neg (by omega), if_pos ⟨h, hs⟩]
  exact ⟨rfl, rfl, rfl⟩

theorem ptmCorrect_decay {o : Int} (hlo : -1000 ≤ o) {s : State} (hhi : o ≤ 1000 ∨ s.day.stepEn = false) :
    (ptmCorrect o s).day.slewing = false ∧ ∃ r, rateMin ≤ r ∧ r ≤ rateMax ∧ (0 < o → 2 ^ 32 < r) ∧ (o < 0 → r < 2 ^ 32) ∧
      (o = 0 → r = 2 ^ 32) ∧
      (ptmCorrect o s).staged = s.staged ++ [(0x118, BitVec.ofNat 32 r), (0x11C, BitVec.ofNat 32 (r / 2 ^ 32))] := by
  have hstep : ¬(o > 1000 ∧ s.day.stepEn = true) := by
    rintro ⟨h, hs⟩
    rcases hhi with hle | hoff
    · omega
    · simp [hoff] at hs
  unfold ptmCorrect
  rw [if_neg (by omega), if_neg hstep]
  obtain ⟨hmin, hmax, hpos, hneg, hzero⟩ := decayRate_bounds o (Config.freeWord s.free).toNat
  exact ⟨rfl, _, hmin, hmax, hpos, hneg, hzero, rfl⟩

/-! ### The obligation -/

/-- Settles O43: nothing in a boundary but the end of the tick and the staged writes changes the tick's state, and staged writes leave its
count alone; a dialogue goes by its offset. -/
theorem tickAdvancesByOne : Obligations.TickAdvancesByOne := by
  refine ⟨fun s h => ?_, fun s => execTickBoundary_held, fun s o hon hrun hdue => ⟨ptmDialogue o s, rfl, ?_⟩⟩
  · obtain ⟨t, ht, hday⟩ := exec_tickBoundary_day h
    have hcount : t.count = (endTick s).count := (count_of_steady hday).trans ((count_applyStaged _).trans (count_takeSnap _))
    have hend := hcount.trans (endTick_count s)
    simp only [State.count, Day.count, Prod.mk.injEq] at hend
    exact ⟨t, ht, hend⟩
  · rcases Bool.eq_false_or_eq_true s.pcie.linkUp with hup | hdown
    · cases o with
      | none =>
        rw [ptmDialogue_fails hon hrun hdue (.inr rfl)]
        exact ⟨rfl, rfl, fun _ => ⟨rfl, rfl, rfl⟩, fun _ _ h => by cases h⟩
      | some v =>
        rw [ptmDialogue_succeeds hon hrun hdue hup]
        obtain ⟨hframe, hday⟩ := ptmCorrect_frame v { s with day := s.day.heard v }
        refine ⟨hframe, by rw [hday]; rfl, fun h => ?_, fun w _ hw => ?_⟩
        · rcases h with h | h
          · simp [hup] at h
          · cases h
        · obtain rfl := Option.some.inj hw
          refine ⟨by rw [hday]; rfl, by rw [hday]; rfl, by rw [hday]; rfl, by rw [hday]; rfl, fun h => ptmCorrect_slow h _,
            fun h hs => ptmCorrect_step h hs, fun hlo hhi => ptmCorrect_decay hlo hhi⟩
    · rw [ptmDialogue_fails hon hrun hdue (.inl hdown)]
      exact ⟨rfl, rfl, fun _ => ⟨rfl, rfl, rfl⟩, fun _ h => by simp [hdown] at h⟩

end Sys2Proof.Machine
end

section
/-! PROOF of O53: staged writes outlive Keeper and not the stack reset (R37). -/

namespace Sys2Proof.Machine

/-! ### A reset of Keeper leaves them -/

theorem staged_of_steady {s t : State} (h : t.steady = s.steady) : t.staged = s.staged := congrArg Prod.snd h

@[simp] theorem steady_raiseLs (src inst : Nat) (c : Cls) (detail : BitVec 64) (inj : Bool) (cause : Nat) (s : State) :
    (raiseLs src inst c detail inj cause s).steady = s.steady := by simp [raiseLs]

@[simp] theorem steady_watchdog (s : State) : (watchdog s).steady = s.steady := by simp [watchdog]

/-! ### They take effect whatever state Keeper and the ready bits are in -/

/-- Another state of Keeper and other ready bits. -/
def State.withKeeper (k : Kpr) (w : BitVec 16) (s : State) : State := { s with kpr := k, ready := w }

section
variable {k : Kpr} {w : BitVec 16}

theorem withKeeper_ite {c : Prop} [Decidable c] (s t : State) :
    (if c then s else t).withKeeper k w = if c then s.withKeeper k w else t.withKeeper k w := apply_ite (State.withKeeper k w) c s t

theorem foldl_withKeeper {α : Type} {f : State → α → State} (hf : ∀ s x, f (s.withKeeper k w) x = (f s x).withKeeper k w) (l : List α)
    (s : State) : l.foldl f (s.withKeeper k w) = (l.foldl f s).withKeeper k w := by
  induction l generalizing s with
  | nil => rfl
  | cons x l ih => rw [List.foldl_cons, hf, ih, List.foldl_cons]

/-- What the changes of other fields do, they do with any state of Keeper. -/
theorem mk_withKeeper (s : State) (lan : Lan) (ll : Ll) :
    ({ s.withKeeper k w with lan := lan, ll := ll } : State) = { s with lan := lan, ll := ll }.withKeeper k w := (rfl)
theorem lan_withKeeper (s : State) : (s.withKeeper k w).lan = s.lan := (rfl)
theorem ll_withKeeper (s : State) : (s.withKeeper k w).ll = s.ll := (rfl)
theorem modDay_withKeeper (s : State) (f : Day → Day) : (s.withKeeper k w).modDay f = (s.modDay f).withKeeper k w := (rfl)
theorem modPort_withKeeper (s : State) (p : Nat) (f : Port → Port) :
    (s.withKeeper k w).modPort p f = (s.modPort p f).withKeeper k w := (rfl)
theorem modClu_withKeeper (s : State) (n : Nat) (f : Clu → Clu) : (s.withKeeper k w).modClu n f = (s.modClu n f).withKeeper k w := (rfl)
theorem modSec_withKeeper (s : State) (f : Sec → Sec) : (s.withKeeper k w).modSec f = (s.modSec f).withKeeper k w := (rfl)
theorem modFlt_withKeeper (s : State) (f : Flt → Flt) : (s.withKeeper k w).modFlt f = (s.modFlt f).withKeeper k w := (rfl)
theorem modBcn_withKeeper (s : State) (f : Bcn → Bcn) : (s.withKeeper k w).modBcn f = (s.modBcn f).withKeeper k w := (rfl)
theorem modPcie_withKeeper (s : State) (f : Pcie → Pcie) : (s.withKeeper k w).modPcie f = (s.modPcie f).withKeeper k w := (rfl)

theorem applyRT_withKeeper (s : State) (x : Nat × Word32) : applyRT (s.withKeeper k w) x = (applyRT s x).withKeeper k w := by
  simp only [applyRT, withKeeper_ite, mk_withKeeper, lan_withKeeper, ll_withKeeper, modDay_withKeeper, modPort_withKeeper,
    modClu_withKeeper, modSec_withKeeper, modFlt_withKeeper, modBcn_withKeeper, modPcie_withKeeper]

theorem ringCtl_withKeeper (fast : Bool) (v : Word32) (s : State) :
    ringCtl fast v (s.withKeeper k w) = (ringCtl fast v s).withKeeper k w := (rfl)

theorem applyPg_withKeeper (st : List (Nat × Word32)) (p : Nat) (s : State) :
    applyPg st p (s.withKeeper k w) = (applyPg st p s).withKeeper k w := by
  unfold applyPg
  split <;> rfl

theorem applyCredits_withKeeper (st : List (Nat × Word32)) (p : Nat) (s : State) :
    applyCredits st p (s.withKeeper k w) = (applyCredits st p s).withKeeper k w := by
  unfold applyCredits
  simp only [withKeeper_ite, modPort_withKeeper]
  rfl

/-- Staged writes take effect in the same way whatever state Keeper and the ready bits are in. -/
theorem applyStaged_withKeeper (s : State) : applyStaged (s.withKeeper k w) = (applyStaged s).withKeeper k w := by
  unfold applyStaged
  extract_lets st s1 s2 s3 s4 s5 st' u1 u2 u3 u4 u5
  have hst : st = st' := rfl
  clear_value st
  subst hst
  have h1 : s1 = u1.withKeeper k w := rfl
  have h2 : s2 = u2.withKeeper k w := (congrArg (st'.foldl applyRT) h1).trans (foldl_withKeeper applyRT_withKeeper st' u1)
  have h3 : s3 = u3.withKeeper k w := by
    unfold s3 u3
    rw [h2, withKeeper_ite, modDay_withKeeper]
  have h4 : s4 = u4.withKeeper k w := by
    unfold s4 u4
    rw [h3]
    split <;> rfl
  have h5 : s5 = u5.withKeeper k w := by
    unfold s5 u5
    rw [h4]
    split <;> rfl
  rw [h5, withKeeper_ite, foldl_withKeeper (fun t p => by rw [applyPg_withKeeper, applyCredits_withKeeper])]

end

/-! ### A staged write of the scrub settings -/

theorem applyStaged_scrub {s : State} {v : Word32} (h : s.staged = [(0x140, v)]) : (applyStaged s).day = { s.day with
    scrubChunks := bitsOf v 0 5, tsvBistEn := v.getLsbD 8, laneBistEn := v.getLsbD 9 } := by
  simp [applyStaged, h, lastStaged, applyRT]

/-- What waits when a tick ends is what its boundary applies. -/
theorem staged_endTick (s : State) : (takeSnap (endTick s)).staged = s.staged := by
  obtain ⟨u, hu, ht⟩ := endTick_eq s
  have hsnap : (takeSnap (endTick s)).staged = (endTick s).staged := staged_of_steady (steady_takeSnap _)
  have hrest := staged_of_steady hu
  rw [hsnap, ht, hrest]

/-! ### The stack reset -/

theorem staged_startUp (s : State) : (startUp s).staged = s.staged := staged_of_steady (steady_startUp s)

/-- Settles O53: no part of Keeper's reset writes the staged list, what applies it reads neither Keeper nor the ready bits, and the stack reset
begins it anew. -/
theorem pendingValuesOutliveKeeper : Obligations.PendingValuesOutliveKeeper := by
  refine ⟨fun s m w => ⟨_, rfl, ?_⟩, fun s => ⟨_, rfl, ?_⟩, fun s k w => applyStaged_withKeeper s, fun s v h hv => ?_, fun s h ha => ?_⟩
  · exact staged_of_steady (by simp)
  · exact staged_of_steady (by simp)
  · obtain ⟨t, ht, hday⟩ := exec_tickBoundary_day h
    rw [applyStaged_scrub ((staged_endTick s).trans hv)] at hday
    exact ⟨t, ht, congrArg Day.scrubChunks hday, congrArg Day.tsvBistEn hday, congrArg Day.laneBistEn hday⟩
  · refine ⟨_, rfl, ?_⟩
    rw [stackResetOff, if_pos (by simp [h, ha]), staged_startUp]
    rfl

end Sys2Proof.Machine
end

section
/-! PROOF of O14: a request for another stack is answered at the head of its class queue (R61, R112, R118). -/

namespace Sys2Proof.Machine

/-- A request for another stack fails the first check of R61, whatever order holds it back. -/
theorem headCheck_of_wrongStack {s : State} {r : Req} (h : r.f.stack ≠ s.stackId) : headCheck s r = some (stWRONG, 0) := if_pos h

/-- The port of which the head of class queue `c` has left, with `rs` behind it (R112). -/
def headLeft (c : Nat) (rs : List Req) (x : Port) : Port := { x with fr := { x.fr with cq := tset x.fr.cq c rs } }

/-- A head that fails a check leaves its class queue, and its tag is answered as the check says (R61, R112). -/
theorem commitHead_of_headCheck {s : State} {p : PortId} {c : Nat} {r : Req} {rs : List Req} {e : Nat × Nat}
    (hq : tget [] (s.port p.val).fr.cq c = r :: rs) (hchk : headCheck s r = some e) :
    commitHead p.val c s = Claims.withPort s p
      ((headLeft c rs (s.port p.val)).answer s.day.tick s.stackId r.f.tag.toNat e.1 e.2 []) := by
  have hpop : popHead p.val c s = s.modPort p.val (fun x => headLeft c (tget [] x.fr.cq c).tail x) := rfl
  simp only [commitHead, hq, hchk]
  rw [hpop, modPort_modPort, modPort_eq_withPort, hq]
  rfl

/-- Settles O14: the check fails before any order rule, budget or turn is asked for, and a transmitter that sends at once sends the answer. -/
theorem wrongStackNotCommitted : Obligations.WrongStackNotCommitted := by
  intro s p c r rs g hcalm hsends hq hstk hg hst
  have hrun := commitHead_of_headCheck hq (headCheck_of_wrongStack hstk)
  have htag : (headLeft c.toNat rs (s.port p.val)).fr.tag r.f.tag.toNat = g := hg
  rw [answer_of_sends (x := headLeft c.toNat rs (s.port p.val)) hsends _ _ _ _ _ _ (by simp [htag, hst]), htag, rspBody,
    BitVec.ofNat_toNat, BitVec.setWidth_eq] at hrun
  have hexec : exec (.requestCommit p c) s = .next (settle s (commitHead p.val c.toNat s)) := rfl
  rw [hexec, hrun]
  exact congrArg Host.Outcome.next (settle_modPort_of_ports (f := fun _ => Claims.sent _ _ _) hcalm rfl rfl rfl rfl)

end Sys2Proof.Machine
end

section
/-! PROOF of O35: the interleave and its inverse (R54). -/

namespace Sys2Proof.Machine

/-! ### Fields of an address -/

theorem abits_lt (a hi lo : Nat) : abits a hi lo < 2 ^ (hi + 1 - lo) := Nat.mod_lt _ (Nat.two_pow_pos _)

/-- A field from bit `k` up depends on the address from bit `k` up. -/
theorem abits_congr {a b k lo : Nat} (hk : k ≤ lo) (h : a / 2 ^ k = b / 2 ^ k) (hi : Nat) : abits a hi lo = abits b hi lo := by
  obtain ⟨j, rfl⟩ := Nat.exists_eq_add_of_le hk
  simp only [abits, Nat.pow_add, ← Nat.div_div_eq_div_mul, h]

/-- What folds into the channel is taken from bit 13 up. -/
theorem chanFold_congr {a b : Nat} (h : a / 2 ^ 13 = b / 2 ^ 13) : chanFold a = chanFold b := by
  simp only [chanFold, abits_congr (Nat.le_refl 13) h, abits_congr (lo := 18) (by decide) h, abits_congr (lo := 23) (by decide) h,
    abits_congr (lo := 28) (by decide) h, abits_congr (lo := 33) (by decide) h]

theorem chanFold_lt (a : Nat) : chanFold a < 32 := by
  have hlast : abits a 36 33 < 2 ^ 5 := (abits_lt a 36 33).trans (by decide)
  exact Nat.xor_lt_two_pow (Nat.xor_lt_two_pow (Nat.xor_lt_two_pow (Nat.xor_lt_two_pow (abits_lt a 17 13) (abits_lt a 22 18))
    (abits_lt a 27 23)) (abits_lt a 32 28)) hlast

/-! ### The interleave -/

/-- The fields of the place of an address below the top of memory are those that R54 names. -/
theorem place_eq_fields {a : BitVec 37} (h : a.toNat < memTop) : let n := a.toNat
    rowOf n = (a.extractLsb' 35 2).toNat * 8192 + (a.extractLsb' 22 13).toNat ∧ rowOf n < 24576 ∧
    bankOf n = (a.extractLsb' 15 7 ^^^ a.extractLsb' 22 7).toNat ∧
    dieOf (bankOf n) = ((a.extractLsb' 15 7 ^^^ a.extractLsb' 22 7).extractLsb' 3 4).toNat ∧
    colOf n = (a.extractLsb' 13 2).toNat ∧
    chanOf n = (a.extractLsb' 8 5 ^^^ a.extractLsb' 13 5 ^^^ a.extractLsb' 18 5 ^^^ a.extractLsb' 23 5 ^^^ a.extractLsb' 28 5 ^^^
      (a.extractLsb' 33 4).setWidth 5).toNat ∧
    chunkOf n = 2 * colOf n + (a.extractLsb' 7 1).toNat ∧ granOf n = 2 * chunkOf n + (a.extractLsb' 6 1).toNat ∧
    64 * granOf n + n % 64 = 256 * colOf n + (a.extractLsb' 0 8).toNat ∧ cluOf (chanOf n) = chanOf n >>> 2 := by
  intro n
  have hbank : bankOf n = (a.extractLsb' 15 7 ^^^ a.extractLsb' 22 7).toNat := by
    simp [bankOf, abits, Nat.shiftRight_eq_div_pow, n]
  refine ⟨?_, ?_, hbank, ?_, ?_, ?_, ?_, ?_, ?_, ?_⟩
  · simp [rowOf, abits, Nat.shiftRight_eq_div_pow, n]
  · have hn : n < 103079215104 := h
    simp only [rowOf, abits]
    omega
  · have hlt := (a.extractLsb' 15 7 ^^^ a.extractLsb' 22 7).isLt
    rw [hbank, dieOf, BitVec.extractLsb'_toNat, Nat.shiftRight_eq_div_pow]
    omega
  · simp [colOf, abits, Nat.shiftRight_eq_div_pow, n]
  · simp [chanOf, chanFold, abits, Nat.shiftRight_eq_div_pow, Nat.xor_assoc, n]
    omega
  · simp [chunkOf, abits, Nat.shiftRight_eq_div_pow, n]
  · simp [granOf, abits, Nat.shiftRight_eq_div_pow, n]
  · simp only [granOf, chunkOf, abits, BitVec.extractLsb'_toNat, Nat.shiftRight_eq_div_pow, n]
    omega
  · rw [Nat.shiftRight_eq_div_pow]; rfl

/-! ### Its inverse -/

theorem rowOf_eq (a : Nat) : rowOf a = a / 4194304 % 32768 := by
  simp only [rowOf, abits, Nat.reducePow, Nat.reduceAdd, Nat.reduceSub]
  omega

theorem bankOf_eq (a : Nat) : bankOf a = a / 32768 % 128 ^^^ rowOf a % 128 := by
  have hrow : abits a 28 22 = rowOf a % 128 := by
    simp only [rowOf_eq, abits, Nat.reducePow, Nat.reduceAdd, Nat.reduceSub]
    omega
  rw [bankOf, hrow]
  rfl

theorem granOf_eq (a : Nat) : granOf a = 4 * (a / 8192 % 4) + a / 64 % 4 := by
  simp only [granOf, chunkOf, colOf, abits, Nat.reducePow, Nat.reduceAdd, Nat.reduceSub]
  omega

/-- Row, bank and 256-byte block of a place, as they stand in its address from bit 13 up. -/
def foldedBits (bank row g : Nat) : Nat := 512 * row + 4 * (bank ^^^ row % 128) + g / 4 % 4

theorem addrOf_eq (ch bank row g : Nat) : addrOf ch bank row g =
    8192 * foldedBits bank row g + 256 * (ch ^^^ chanFold (8192 * foldedBits bank row g)) + 64 * (g % 4) := by
  have hrow : row / 8192 * 2 ^ 35 + row % 8192 * 2 ^ 22 = 4194304 * row := by omega
  have hfield : abits (4194304 * row) 28 22 = row % 128 := by
    simp only [abits, Nat.reducePow, Nat.reduceAdd, Nat.reduceSub]
    omega
  have hfolded : 4194304 * row + (bank ^^^ row % 128) * 2 ^ 15 + g / 4 % 4 * 2 ^ 13 = 8192 * foldedBits bank row g := by
    rw [foldedBits]; omega
  simp only [addrOf, hrow, hfield, hfolded]
  omega

/-- The place of the address of a place is the place. -/
theorem place_addrOf {ch bank row g : Nat} (hch : ch < 32) (hbank : bank < 128) (hrow : row < 24576) (hg : g < 16) :
    let a := addrOf ch bank row g
    a < memTop ∧ a % 64 = 0 ∧ chanOf a = ch ∧ bankOf a = bank ∧ rowOf a = row ∧ granOf a = g := by
  intro a
  have ha : a = _ := addrOf_eq ch bank row g
  have hchan : ch ^^^ chanFold (8192 * foldedBits bank row g) < 32 := Nat.xor_lt_two_pow (n := 5) hch (chanFold_lt _)
  have hfield : bank ^^^ row % 128 < 128 := Nat.xor_lt_two_pow (n := 7) hbank (Nat.mod_lt _ (by decide))
  have hhigh : a / 8192 = foldedBits bank row g := by omega
  have hbf : a / 32768 = 128 * row + (bank ^^^ row % 128) := by rw [foldedBits] at hhigh; omega
  have hrowa : rowOf a = row := by rw [rowOf_eq]; omega
  have htop : a < 103079215104 := by omega
  refine ⟨htop, by omega, ?_, ?_, hrowa, ?_⟩
  · have h : abits a 12 8 = ch ^^^ chanFold (8192 * foldedBits bank row g) := by
      simp only [abits, Nat.reducePow, Nat.reduceAdd, Nat.reduceSub]
      omega
    rw [chanOf, h, chanFold_congr (a := a) (b := 8192 * foldedBits bank row g) (by omega), Nat.xor_xor_cancel_right]
  · have h : a / 32768 % 128 = bank ^^^ row % 128 := by omega
    rw [bankOf_eq, h, hrowa, Nat.xor_xor_cancel_right]
  · have h : foldedBits bank row g % 4 = g / 4 % 4 := by rw [foldedBits]; omega
    rw [granOf_eq, hhigh, h]
    omega

/-- The address of the place of a 64-byte aligned address is the address. -/
theorem addrOf_place {a : Nat} (h : a < memTop) (hal : a % 64 = 0) : addrOf (chanOf a) (bankOf a) (rowOf a) (granOf a) = a := by
  have htop : a < 103079215104 := h
  have hfolded : foldedBits (bankOf a) (rowOf a) (granOf a) = a / 8192 := by
    rw [foldedBits, bankOf_eq, Nat.xor_xor_cancel_right, granOf_eq, rowOf_eq]
    omega
  have hchan : chanOf a ^^^ chanFold (8192 * (a / 8192)) = a / 256 % 32 := by
    rw [chanOf, chanFold_congr (a := 8192 * (a / 8192)) (b := a) (by omega), Nat.xor_xor_cancel_right]
    rfl
  rw [addrOf_eq, hfolded, hchan, granOf_eq]
  omega

/-- Settles O35: the fields are those of R54, and the interleave and its inverse undo each other. -/
theorem addressesRoundTrip : Obligations.AddressesRoundTrip :=
  ⟨fun _ h => place_eq_fields h, fun _ hch _ hbank _ hrow _ hg => place_addrOf hch hbank hrow hg, fun _ h hal => addrOf_place h hal⟩

end Sys2Proof.Machine
end

section
/-! PROOF of the negation of O45: the failing TSVs that stage 3 of a cluster's start-up finds (R174, R433). -/

namespace Sys2Proof.Machine

/-- What the row of a stage does in the last tick of the stage (R433). -/
theorem stageDone_of_inStage {s : State} {k : Nat} {g : Stage4} (f : State → State) (h : inStage s k g = true) :
    stageDone k g f s = (f s).modClu k (fun u => { u with stageEnded := true }) := if_pos h

/-- A failing TSV whose number stands in the list of the data class already is listed in neither class again (R174). -/
theorem tsvFailed_of_listed {s : State} {ch t : Nat} (dies : BitVec 16) (h : t ∈ (s.chan ch).i.pend.data) :
    ((tsvFailed ch t dies s).chan ch).i = (s.chan ch).i := by
  simp [tsvFailed, prune, State.modInteg, h]

/-- Cluster 0 in the last tick of stage 3. Channel 0 lists TSV 280, which is command TSV 0, among its failing TSVs of the data class. -/
def misfiledTsv : State := { State.reset with
  pwr := { State.reset.pwr with dom := [(36, .on)] }
  clus := [(0, { stage := .tsvs, stageTicks := 1535 })]
  chans := [(0, { i := { pend := { data := [280] } } })] }

theorem inStage_misfiledTsv : inStage misfiledTsv 0 .tsvs = true := by decide

/-- TSV 280 of that channel fails its loopback, and the channel's list of the command class stays empty. -/
theorem stageTsvs_misfiledTsv : ((stageTsvs 0 [(0, 280, 0)] misfiledTsv).chan 0).i.pend.cmd = [] := by
  have hlisted : 280 ∈ (misfiledTsv.chan 0).i.pend.data := by decide
  have hkept : ((tsvFailed 0 280 0 misfiledTsv).chan 0).i = (misfiledTsv.chan 0).i := tsvFailed_of_listed 0 hlisted
  rw [stageTsvs, stageDone_of_inStage _ inStage_misfiledTsv]
  exact congrArg (·.pend.cmd) hkept

/-- Refutes O45: the statement has every failing TSV from number 280 on in the list of the command class at the end of stage 3, in every
state. Where the list of the data class holds the number already, `tsvFailed` takes it for listed and adds it to neither. The state is
one that no run reaches, as `tsvFailed`, which alone adds to that list, puts only numbers below 280 there; the statement does not
exclude it. -/
theorem not_clusterStartupStages : ¬ Obligations.ClusterStartupStages := by
  intro h
  obtain ⟨-, htsvs, -⟩ := h misfiledTsv 0
  obtain ⟨t, hexec, -, -, hpend⟩ := htsvs [(0, 280, 0)] inStage_misfiledTsv
  obtain rfl : stageTsvs 0 [(0, 280, 0)] misfiledTsv = t := Host.Outcome.next.inj hexec
  have hlisted : 0 ∈ ((stageTsvs 0 [(0, 280, 0)] misfiledTsv).chan 0).i.pend.cmd.map (·.1) :=
    (hpend 0 280 0 List.mem_cons_self rfl (by decide)).2 (by decide)
  rw [stageTsvs_misfiledTsv] at hlisted
  cases hlisted

end Sys2Proof.Machine
end

section
/-! SUPPORT. A port written in whole, and the end of a command that changed one port or raised the one fault event of a link (R354,
R356, R435). -/

namespace Sys2Proof.Machine

/-- The port serves: its link is ACTIVE and it is not fenced, as its bit of KPR_PORT_READY tells (R435). -/
def Port.serves (x : Port) : Bool := x.link.lstate = .active && !x.fr.fenced

/-- A port whose link is not ACTIVE does not serve. -/
theorem serves_of_not_active {x : Port} (h : x.link.lstate ≠ .active) : x.serves = false := by simp [Port.serves, h]

theorem portReady_of_serves {s t : State} (h : ∀ p, (t.port p).serves = (s.port p).serves) : portReady t = portReady s := by
  unfold portReady
  congr 1
  funext w p
  have hp := h p
  unfold Port.serves at hp
  rw [hp]

theorem port_withPort (s : State) (p : PortId) (x : Port) (q : Nat) :
    (Claims.withPort s p x).port q = if q = p.val then x else s.port q := tget_tset _ _ _ _ _

theorem port_withPort_same (s : State) (p : PortId) (x : Port) : (Claims.withPort s p x).port p.val = x :=
  (port_withPort _ _ _ _).trans (if_pos rfl)

theorem withPort_withPort (s : State) (p : PortId) (x y : Port) : Claims.withPort (Claims.withPort s p x) p y = Claims.withPort s p y := by
  simp [Claims.withPort]

theorem modPort_withPort (s : State) (p : PortId) (x : Port) (f : Port → Port) :
    (Claims.withPort s p x).modPort p.val f = Claims.withPort s p (f x) := by
  rw [modPort_eq_withPort, port_withPort_same, withPort_withPort]

/-- A command that raised nothing and left each port serving or not as before makes no READY record. -/
theorem settle_of_serves {s0 s : State} (h : Calm s) (hr : s.ready = s0.ready) (hp : ∀ p, (s.port p).serves = (s0.port p).serves) :
    settle s0 s = s := by
  have hbits : readyBits s = readyBits s0 := by rw [readyBits, readyBits, portReady_of_serves hp, hr]
  have hcollect : collect s = s := collect_calm s h
  rw [settle_eq s0 s (by rw [hcollect, hr]), hcollect, readyRecords_same _ _ hbits]

/-- The same, for a command that changed one port. -/
theorem settle_withPort {s : State} {p : PortId} {x : Port} (h : Calm s) (hx : x.serves = (s.port p.val).serves) :
    settle s (Claims.withPort s p x) = Claims.withPort s p x := by
  refine settle_of_serves h rfl fun q => ?_
  rw [port_withPort]
  split
  next hq => rw [hq, hx]
  next => rfl

/-- A command that raised nothing, and changed no readiness bit but those of ports, makes READY records at most. -/
theorem settle_of_calm {s0 s : State} (h : Calm s) (hr : s.ready = s0.ready) : ∃ b, settle s0 s = { s with bcn := b } := by
  have hcollect : collect s = s := collect_calm s h
  rw [settle_eq s0 s (by rw [hcollect, hr]), hcollect]
  exact ⟨_, readyRecords_frame _ _⟩

/-- The collector takes the one quiet event that a command raised: its bit stands in the fault word (R357, R358). -/
theorem settle_single {s0 s : State} {e : FaultEv} (hl : s.flt.line = [e]) (hq : Quiet e) (hctl : s.ls.ctl = false) (hr : s.ready = s0.ready) :
    OnlyFlt s (settle s0 s) ∧ Calm (settle s0 s) ∧ (settle s0 s).flt.src = s.flt.src ||| 1#56 <<< e.src := by
  have hquiet : ∀ x ∈ s.flt.line, Quiet x := by simpa [hl] using hq
  have hready : (collect s).ready = s0.ready := by rw [(collect_quiet s hctl hquiet).1]; exact hr
  obtain ⟨hframe, hcalm⟩ := settle_quiet s0 s hctl hquiet hr
  refine ⟨hframe, hcalm, ?_⟩
  rw [settle_eq s0 s hready, readyRecords_flt, collect_single hl hq hctl, collectOne_src _ _ hq]
  rfl

/-- An event raised on an empty line, of class C1 or C2. -/
theorem settle_raise {s0 s : State} {src inst : Nat} {c : Cls} {d : BitVec 64} (hc : c ≠ .c3) (hsrc : src < 56) (h : Calm s)
    (hr : s.ready = s0.ready) :
    let t := settle s0 (raise src inst c d s)
    OnlyFlt s t ∧ Calm t ∧ t.flt.src.getLsbD src = true := by
  intro t
  obtain ⟨hframe, hcalm, hbit⟩ := settle_single (s0 := s0) (s := raise src inst c d s)
    (e := { src := src, inst := inst, cls := c, detail := d }) (by rw [raise_line, h.1]; rfl) ⟨hc, rfl⟩ h.2 hr
  refine ⟨OnlyFlt.trans (t := raise src inst c d s) rfl hframe, hcalm, ?_⟩
  rw [hbit]
  simp [hsrc]

/-- The event of a link and its record, on an empty line (R91, R343, R356). -/
theorem settle_linkFault {s0 s : State} {p : Nat} {c : Cls} (hc : c ≠ .c3) (h : Calm s) (hr : s.ready = s0.ready) :
    let t := settle s0 (linkFault p c s)
    OnlyFlt s t ∧ Calm t ∧ t.flt.src.getLsbD (if c = .c1 then 1 else 2) = true := by
  intro t
  have hemit : OnlyFlt s (galLinkEv p c s) := onlyFlt_emit _ _
  have hline : (galLinkEv p c s).flt.line = s.flt.line := emit_line _ _
  obtain ⟨hframe, hrest⟩ := settle_raise (s0 := s0) (s := galLinkEv p c s) (src := if c = .c1 then 1 else 2) (inst := p)
    (d := payloadSoon s (.galLink p)) hc (by split <;> decide) ⟨hline.trans h.1, by rw [hemit]; exact h.2⟩ (by rw [hemit]; exact hr)
  exact ⟨hemit.trans hframe, hrest⟩

end Sys2Proof.Machine
end

section
/-! PROOF of O21 and O20: the end of a training stage (R73 to R80). -/

namespace Sys2Proof.Machine

/-! ### The stage's last tick -/

section

variable {s : State} {p : Nat} {st : Stage} {good : Bool}

theorem stageEnd_atEnd (h : Claims.AtEnd (s.port p) st) (good lag : Bool) (f g : Port → Port) : stageEnd p st good lag f g s =
    if lag then s.modPort p (Port.failAttempt 7)
    else if !good then s.modPort p (fun x => (g x).failAttempt st.cause)
    else s.modPort p (fun x =>
      if st = .param then (f x).paramPassed s.day.tick else (f x).modLink (fun l => { l with stage := st.next, stageTicks := 0 })) := by
  obtain ⟨htrain, hstage, hticks, hgo⟩ := h
  exact if_neg (by simp [htrain, hstage, hticks, hgo])

/-- A host that lags fails the attempt with cause 7 at every stage (R74). -/
theorem stageEnd_lag (h : Claims.AtEnd (s.port p) st) (good : Bool) (f g : Port → Port) :
    stageEnd p st good true f g s = s.modPort p (Port.failAttempt 7) := by
  rw [stageEnd_atEnd h, if_pos rfl]

/-- A stage whose criterion does not hold fails the attempt with its own cause (R73, R74). -/
theorem stageEnd_fails (h : Claims.AtEnd (s.port p) st) (hgood : good = false) (f g : Port → Port) :
    stageEnd p st good false f g s = s.modPort p (fun x => (g x).failAttempt st.cause) := by
  rw [stageEnd_atEnd h, hgood, if_neg (by decide), if_pos (show (!false) = true from rfl)]

/-- A stage before the last passes on to the next one (R73). -/
theorem stageEnd_passes (h : Claims.AtEnd (s.port p) st) (hst : st ≠ .param) (hgood : good = true) (f g : Port → Port) :
    stageEnd p st good false f g s = s.modPort p (fun x => (f x).modLink (fun l => { l with stage := st.next, stageTicks := 0 })) := by
  rw [stageEnd_atEnd h, hgood, if_neg (by decide), if_neg (by decide)]
  simp only [if_neg hst]

/-- PARAM, the last stage, passes on to ACTIVE (R79). -/
theorem stageEnd_param (h : Claims.AtEnd (s.port p) .param) (hgood : good = true) (f g : Port → Port) :
    stageEnd p .param good false f g s = s.modPort p (fun x => (f x).paramPassed s.day.tick) := by
  rw [stageEnd_atEnd h, hgood, if_neg (by decide), if_neg (by decide)]
  simp only [if_true]

end

/-- IDENT finds a group in neither order (R76). -/
theorem contains_other_groupOrders (d c e : List (Option (BitVec 16))) : (groupOrders d c e).contains .other = true ↔
    groupOrder d 0 64 = .other ∨ groupOrder c 64 12 = .other ∨ groupOrder e 76 2 = .other := by
  simp only [groupOrders, List.contains_iff_mem, List.mem_cons, List.not_mem_nil, or_false, @eq_comm _ GroupOrder.other]

/-! ### A failed attempt (R74, R78) -/

/-- The link after a failed attempt (R74). -/
def Link.attemptFailed (cause : Nat) (l : Link) : Link :=
  if l.attempt < 2 then { l with stage := .detect, stageTicks := 0, attempt := l.attempt + 1 }
  else { l with lstate := .failed, attempt := 3, failCause := cause, stage := .detect, stageTicks := 0, levt := l.levt.raise 3 }

theorem failAttempt_eq (cause : Nat) (x : Port) : x.failAttempt cause = { x with link := x.link.attemptFailed cause } := by
  unfold Port.failAttempt Link.attemptFailed
  by_cases h : x.link.attempt < 2
  · rw [if_neg (by omega), if_pos h]; rfl
  · rw [if_pos (by omega), if_neg h]; rfl

theorem attemptFailed_not_active (cause : Nat) {l : Link} (h : l.lstate = .train) : (l.attemptFailed cause).lstate ≠ .active := by
  unfold Link.attemptFailed
  split
  · simp [h]
  · simp

/-- The port after an attempt that failed with `cause` and left the down map `m`. -/
def Port.attemptFailed (cause : Nat) (m : LaneMap) (x : Port) : Port :=
  { x with lane := { x.lane with mapDn := m }, link := x.link.attemptFailed cause }

/-- Each row of a stage that fails ends the attempt of its port (R73, R74, R78). -/
theorem exec_of_failsStage {s : State} {p : PortId} {i : Instr} {st : Stage} {cause : Nat} {m : LaneMap}
    (hfail : Claims.FailsStage (s.port p.val) p i st cause m) (hend : Claims.AtEnd (s.port p.val) st) (hcalm : Calm s) :
    exec i s = .next (Claims.withPort s p ((s.port p.val).attemptFailed cause m)) := by
  have hlag (good : Bool) (f g : Port → Port) : stageEnd p.val st good true f g s =
      Claims.withPort s p ((s.port p.val).attemptFailed 7 (s.port p.val).lane.mapDn) := by
    rw [stageEnd_lag hend, modPort_eq_withPort, failAttempt_eq]; rfl
  have hfails {good : Bool} (hgood : good = false) (f : Port → Port) : stageEnd p.val st good false f id s =
      Claims.withPort s p ((s.port p.val).attemptFailed st.cause (s.port p.val).lane.mapDn) := by
    rw [stageEnd_fails hend hgood, modPort_eq_withPort, failAttempt_eq]; rfl
  have hsettle (c : Nat) : settle s (Claims.withPort s p ((s.port p.val).attemptFailed c (s.port p.val).lane.mapDn)) =
      Claims.withPort s p ((s.port p.val).attemptFailed c (s.port p.val).lane.mapDn) :=
    settle_withPort hcalm (by
      rw [serves_of_not_active (attemptFailed_not_active c hend.1), serves_of_not_active (x := s.port p.val) (by simp [hend.1])])
  cases hfail with
  | detectLag w => exact congrArg Host.Outcome.next (hlag _ _ _)
  | detect w hw => exact congrArg Host.Outcome.next (hfails (decide_eq_false (by omega)) _)
  | phaseLag w => exact congrArg Host.Outcome.next (hlag _ _ _)
  | phase w hw => exact congrArg Host.Outcome.next (hfails (decide_eq_false (by omega)) _)
  | adaptLag b => exact congrArg Host.Outcome.next (hlag _ _ _)
  | adapt => exact congrArg Host.Outcome.next (hfails rfl _)
  | identLag d c e => exact congrArg Host.Outcome.next (hlag _ _ _)
  | ident d c e ho =>
    exact congrArg Host.Outcome.next (hfails (by rw [(contains_other_groupOrders d c e).2 ho]; rfl) _)
  | deskewLag l => exact congrArg Host.Outcome.next (hlag _ _ _)
  | deskew l hl => exact congrArg Host.Outcome.next (hfails (decide_eq_false (by omega)) _)
  | lanetestLag w => exact congrArg Host.Outcome.next (hlag _ _ _)
  | lanetest w hm =>
    refine congrArg Host.Outcome.next ((stageEnd_fails hend (by rw [hm]; rfl) _ _).trans ?_)
    rw [modPort_eq_withPort, failAttempt_eq]
    rfl
  | paramLag b => exact congrArg Host.Outcome.next ((congrArg (settle s) (hlag _ _ _)).trans (hsettle _))
  | param b hb => exact congrArg Host.Outcome.next ((congrArg (settle s) (hfails (by rw [hb]; rfl) _)).trans (hsettle _))

/-- Settles O21: each failing stage ends the attempt of its port, and a link in training or FAILED makes no READY record. -/
theorem trainingAttemptFails : Obligations.TrainingAttemptFails :=
  fun _ _ _ _ _ _ hfail hend hcalm => exec_of_failsStage hfail hend hcalm

/-! ### A stage that passes (R73 to R80) -/

/-- The reversal that IDENT finds, bit by bit (R76). -/
theorem revOf_eq (a b c : GroupOrder) : revOf [a, b, c] = b1 (c == .reversed) ++ (b1 (b == .reversed) ++ b1 (a == .reversed)) := by
  cases a <;> cases b <;> cases c <;> rfl

/-- What PARAM leaves behind with the block `b` (R79). -/
def Port.withUpMap (b : BitVec 64) (x : Port) : Port :=
  { x with lane := { x.lane with mapUp := blockMap b, outUp := (blockMap b).moved } }

/-- The port that PARAM makes ACTIVE, before its first frame (R79, R80, R111). -/
def Port.activated (tick : Nat) (x : Port) : Port :=
  { x with
    link := { x.link with lstate := .active, goActive := false, stage := .detect, stageTicks := 0, attempt := 0, failCause := 0
                          activeTick := some tick }
    lane := { x.lane with scrUp := 0, scrDn := 0 }
    fr := { x.fr with credFrame := true, credOld := x.fr.cred } }

/-- PARAM with an accepted block, up to what makes the link ACTIVE. -/
theorem trainParam_accepts {s : State} {p : PortId} {l : List (List (BitVec 64))} {b : BitVec 64}
    (h : Claims.AtEnd (s.port p.val) .param) (hb : acceptBlock (s.port p.val).lane.outDn l = some b) :
    trainParam p.val l false s = Claims.withPort s p (((s.port p.val).withUpMap b).paramPassed s.day.tick) := by
  rw [trainParam, stageEnd_param h (by rw [hb]; rfl), modPort_eq_withPort, hb]
  rfl

/-- Without the frame clock the link waits for it (R91). -/
theorem exec_param_waits {s : State} {p : PortId} {l : List (List (BitVec 64))} {b : BitVec 64} (hcalm : Calm s)
    (h : Claims.AtEnd (s.port p.val) .param) (hb : acceptBlock (s.port p.val).lane.outDn l = some b)
    (hclk : (s.port p.val).link.noClk = true) :
    exec (.param p l false) s = .next (Claims.withPort s p
      (((s.port p.val).withUpMap b).modLink (fun l => { l with goActive := true }))) := by
  have hrun : trainParam p.val l false s = _ := (trainParam_accepts h hb).trans (congrArg _ (if_pos hclk))
  exact congrArg Host.Outcome.next ((congrArg (settle s) hrun).trans (settle_withPort hcalm rfl))

/-- With the frame clock the link is ACTIVE, and its first frame is a CREDITS frame (R79, R80, R111). -/
theorem exec_param_activates {s : State} {p : PortId} {l : List (List (BitVec 64))} {b : BitVec 64} (hcalm : Calm s)
    (h : Claims.AtEnd (s.port p.val) .param) (hb : acceptBlock (s.port p.val).lane.outDn l = some b)
    (hclk : (s.port p.val).link.noClk = false) (hocc : (s.port p.val).link.upOcc = false) (hnak : (s.port p.val).rty.nakOwed = false)
    (hunsent : (s.port p.val).rty.unsent = []) (hroom : (s.port p.val).rty.replay.length < 256) :
    ∃ c, exec (.param p l false) s = .next { (Claims.withPort s p (Claims.sent s.day.tick
      (.credits ((List.range 7).map (fun c => tget 0 (s.port p.val).fr.cred c)))
      (((s.port p.val).withUpMap b).activated s.day.tick))) with bcn := c } := by
  have hsends : Claims.Sends (((s.port p.val).withUpMap b).activated s.day.tick) :=
    ⟨⟨by simp [Port.framing, Port.activated, Port.withUpMap, hclk, hocc], hnak, hunsent⟩, hroom⟩
  have hrun : trainParam p.val l false s = _ := (trainParam_accepts h hb).trans
    (congrArg _ ((if_neg (by simp [Port.withUpMap, hclk])).trans (send_of_sends hsends s.day.tick (by simp))))
  obtain ⟨c, hc⟩ := settle_of_calm (s0 := s) (s := Claims.withPort s p _) hcalm rfl
  exact ⟨c, congrArg Host.Outcome.next ((congrArg (settle s) hrun).trans hc)⟩

/-- Settles O20: each row is the end of its stage, with the criterion met. -/
theorem trainingStagesPass : Obligations.TrainingStagesPass := by
  intro s p x
  refine ⟨fun w h hw => ?_, fun w h hw => ?_, fun h => ?_, fun wd wc ws => ?_, fun l h hl => ?_, fun w m h hm => ?_,
    fun l b hcalm h hb => ⟨fun hclk => ?_, fun hclk hocc hnak hunsent hroom => ?_⟩⟩
  · exact congrArg Host.Outcome.next (stageEnd_passes h (by decide) (decide_eq_true hw) _ _)
  · exact congrArg Host.Outcome.next (stageEnd_passes h (by decide) (decide_eq_true hw) _ _)
  · exact congrArg Host.Outcome.next (stageEnd_passes h (by decide) rfl _ _)
  · intro a b c h ha hb hc
    have hgood : (!(groupOrders wd wc ws).contains .other) = true := by
      rw [Bool.not_eq_true', Bool.eq_false_iff, ne_eq, contains_other_groupOrders]
      exact not_or.2 ⟨ha, not_or.2 ⟨hb, hc⟩⟩
    rw [← revOf_eq]
    exact congrArg Host.Outcome.next (stageEnd_passes h (by decide) hgood _ _)
  · exact congrArg Host.Outcome.next (stageEnd_passes h (by decide) (decide_eq_true hl) _ _)
  · refine congrArg Host.Outcome.next ((stageEnd_passes h (by decide) (by rw [hm]; rfl) _ _).trans ?_)
    rw [modPort_eq_withPort, hm]
    rfl
  · exact exec_param_waits hcalm h hb hclk
  · obtain ⟨c, hc⟩ := exec_param_activates hcalm h hb hclk hocc hnak hunsent hroom
    exact ⟨_, hc, rfl⟩

end Sys2Proof.Machine
end

section
/-! PROOF of O22: signal that returns, and loss of signal outside ACTIVE and TRAIN (R71, R90). -/

namespace Sys2Proof.Machine

/-- Signal on the lanes `w` shows again, and a DOWN link that then has it on at least 76 down lanes begins to train (R71, R90). -/
def Port.signalled (w : BitVec 78) (x : Port) : Port := (x.modLink (fun l => { l with sig := l.sig ||| w })).tryTrain

/-- A DOWN link that begins to train does not serve, and any other port is as it was. -/
theorem serves_tryTrain (x : Port) : x.tryTrain.serves = x.serves := by
  unfold Port.tryTrain
  split
  next h => rw [serves_of_not_active (by simp [Port.modLink]), serves_of_not_active (by simp [h.1])]
  next => rfl

/-- Signal lost outside ACTIVE and TRAIN, while the down direction does not occult, is removed from the set and nothing more (R90, R91). -/
theorem lossOfSignal_quiet {s : State} {p : PortId} {w : BitVec 78} (hactive : (s.port p.val).link.lstate ≠ .active)
    (htrain : (s.port p.val).link.lstate ≠ .train) (hocc : (s.port p.val).link.dnOcc = false) (hlost : w &&& (s.port p.val).link.sig ≠ 0) :
    lossOfSignal p.val w s =
      Claims.withLink s p { (s.port p.val).link with sig := (s.port p.val).link.sig &&& ~~~(w &&& (s.port p.val).link.sig) } := by
  unfold lossOfSignal
  dsimp only
  rw [if_neg (by rw [hocc, Bool.false_or, decide_eq_true_eq]; exact hlost)]
  split
  next h => exact absurd h hactive
  next h => exact absurd h htrain
  next => rfl

/-- Removing from a set what of `w` stands in it removes `w`. -/
theorem and_not_and_self (v w : BitVec 78) : v &&& ~~~(w &&& v) = v &&& ~~~w := by
  ext i hi
  simp only [BitVec.getElem_and, BitVec.getElem_not]
  cases v[i] <;> simp

/-- Settles O22: neither row makes a port serve or stop serving. -/
theorem signalStartsTraining : Obligations.SignalStartsTraining := by
  refine fun s p w => ⟨fun hcalm => ?_, fun hcalm hactive htrain hocc hlost => congrArg Host.Outcome.next ?_⟩
  · have hset : settle s (signalReturn p.val w s) = Claims.withPort s p ((s.port p.val).signalled w) :=
      settle_withPort hcalm (serves_tryTrain _)
    have hport : (s.port p.val).signalled w = { s.port p.val with link :=
        if (s.port p.val).link.lstate = .down ∧ 76 ≤ (lanesIn ((s.port p.val).link.sig ||| w)).length then
          { (s.port p.val).link with sig := (s.port p.val).link.sig ||| w, lstate := .train, stage := .detect, stageTicks := 0, attempt := 0 }
        else { (s.port p.val).link with sig := (s.port p.val).link.sig ||| w } } := by
      by_cases h : (s.port p.val).link.lstate = .down ∧ 76 ≤ (lanesIn ((s.port p.val).link.sig ||| w)).length
      · rw [if_pos h]; exact if_pos h
      · rw [if_neg h]; exact if_neg h
    rw [hport] at hset
    exact congrArg Host.Outcome.next hset
  · have hrun := lossOfSignal_quiet hactive htrain hocc hlost
    rw [and_not_and_self] at hrun
    exact (congrArg (settle s) hrun).trans (settle_withPort hcalm rfl)

end Sys2Proof.Machine
end

section
/-! PROOF of O19: occulting, and the scrambler that descrambles (R80, R87 to R89). -/

namespace Sys2Proof.Machine

theorem foldl_xor {α : Type} (f : α → BitVec 16) (l : List α) (v : BitVec 16) :
    l.foldl (fun v i => v ^^^ f i) v = v ^^^ l.foldl (fun v i => v ^^^ f i) 0 := by
  induction l generalizing v with
  | nil => simp
  | cons i l ih =>
    rw [List.foldl_cons, List.foldl_cons, ih (v ^^^ f i), ih (0 ^^^ f i), BitVec.xor_assoc]
    simp

/-- Scrambling adds to a word bits that the scrambler's state alone fixes (R80). -/
theorem scramble_eq_xor (u : BitVec 23) (w : BitVec 16) : scramble u w = w ^^^ scramble u 0 := by
  have hbit : (fun (v : BitVec 16) (i : Nat) => if scrBit (scrRun i u) then v ^^^ (1#16 <<< i) else v) =
      fun v i => v ^^^ (if scrBit (scrRun i u) then 1#16 <<< i else 0) := by
    funext v i
    split
    · rfl
    · exact BitVec.xor_zero.symm
  unfold scramble
  rw [hbit]
  exact foldl_xor _ _ w

theorem scramble_scramble (u : BitVec 23) (w : BitVec 16) : scramble u (scramble u w) = w := by
  rw [scramble_eq_xor u (scramble u w), scramble_eq_xor u w, BitVec.xor_assoc, BitVec.xor_self, BitVec.xor_zero]

/-- The port that has left occulting with a frame `b` queued, before it sends the frame (R88). -/
def Port.awake (x : Port) : Port :=
  { x with link := { x.link with upOcc := false }, rty := { x.rty with unsent := [] }, tx := x.tx ++ [.wake] }

/-- The one queued frame of a port that leaves occulting is sent after the wake burst (R88, R89). -/
theorem pump_wakeUp {x : Port} {b : UpBody} (hactive : x.link.lstate = .active) (hclk : x.link.noClk = false) (hocc : x.link.upOcc = true)
    (hnak : x.rty.nakOwed = false) (hunsent : x.rty.unsent = [b]) (hb : b ≠ .idle) (hroom : x.rty.replay.length < 256) (tick : Nat) :
    x.wakeUp.pump tick = Claims.sent tick b x.awake := by
  have hsends : Claims.Sends x.awake := ⟨⟨by simp [Port.framing, Port.awake, hactive, hclk], hnak, rfl⟩, hroom⟩
  have hqueued : x.wakeUp = { x.awake with rty := { x.awake.rty with unsent := x.awake.rty.unsent ++ [b] } } := by
    rw [Port.wakeUp, if_pos hocc]
    simp only [Port.awake, List.nil_append, ← hunsent]
  rw [← send_of_sends hsends tick hb, Port.send, if_pos (show x.awake.link.lstate = .active from hactive), hqueued]

/-- Settles O19: the rows of the two directions, each where its condition holds. -/
theorem occultingEntersAndLeaves : Obligations.OccultingEntersAndLeaves := by
  refine ⟨fun s p hrx => congrArg Host.Outcome.next (if_pos hrx), fun s p => rfl, fun s p => ?_, fun s p b => ?_, scramble_scramble⟩
  · intro x hidles hallowed hreplay hcoal hack hwait hswap hslice
    obtain ⟨hframing, hnak, hunsent⟩ := hidles
    refine congrArg Host.Outcome.next (if_pos ?_)
    have hup : (match x.lane.slice with | some sl => sl.dir == .down | none => true) = true := by
      cases hsl : x.lane.slice with
      | none => rfl
      | some sl => simp [hslice sl hsl]
    have hmay : (s.pwr.srAct || (x.link.upOccEn && x.link.upIdle != 0)) = true := by simpa using hallowed
    have hquiet : (x.rty.unsent.isEmpty && x.rty.replay.isEmpty && x.rty.coal.isEmpty && !x.rty.ackOwed && !x.rty.nakWait &&
        !x.rty.nakOwed && x.lane.swapUp.isNone) = true := by
      simp [hunsent, hreplay, hcoal, hack, hwait, hnak, hswap]
    exact Bool.and_eq_true_iff.2 ⟨Bool.and_eq_true_iff.2 ⟨hframing, hmay⟩, Bool.and_eq_true_iff.2 ⟨hquiet, hup⟩⟩
  · intro x hactive hclk hocc hnak hunsent hb hroom
    have howed : x.link.upOcc && (!x.rty.unsent.isEmpty || !x.rty.coal.isEmpty || x.rty.ackOwed || x.rty.nakWait || x.rty.nakOwed) := by
      simp [hocc, hunsent]
    have hrun : occultExit p.val s = Claims.withPort s p ((s.port p.val).wakeUp.pump s.day.tick) := if_pos howed
    exact congrArg Host.Outcome.next (hrun.trans (congrArg _ (pump_wakeUp hactive hclk hocc hnak hunsent hb hroom _)))

end Sys2Proof.Machine
end

section
/-! SUPPORT. What a fence and the end of ACTIVE make of a port and its link (R72, R91, R122, R125). -/

namespace Sys2Proof.Machine

/-! ### The causes of a fence (R122) -/

/-- The link of a port, and whether each cause fences it. -/
def Port.gate (x : Port) : Link × Bool × Bool × Bool × Bool × Bool :=
  (x.link, x.fr.fLink, x.fr.fFault, x.fr.fProto, x.fr.fMgr, x.fr.fStack)

theorem link_of_gate {x y : Port} (h : x.gate = y.gate) : x.link = y.link := congrArg Prod.fst h
theorem fLink_of_gate {x y : Port} (h : x.gate = y.gate) : x.fr.fLink = y.fr.fLink := congrArg (·.2.1) h

/-- Link and causes tell whether a port serves. -/
theorem serves_of_gate {x y : Port} (h : x.gate = y.gate) : x.serves = y.serves := by
  simp only [Port.gate, Prod.mk.injEq] at h
  obtain ⟨hlink, hl, hf, hp, hm, hs⟩ := h
  simp only [Port.serves, Frames.fenced, hlink, hl, hf, hp, hm, hs]

@[simp] theorem gate_payNak (x : Port) : x.payNak.gate = x.gate := by
  unfold Port.payNak
  split <;> rfl

@[simp] theorem gate_pump (tick : Nat) (x : Port) : (x.pump tick).gate = x.gate := by
  unfold Port.pump
  split
  · exact gate_payNak x
  · rfl

@[simp] theorem gate_send (tick : Nat) (b : UpBody) (x : Port) : (x.send tick b).gate = x.gate := by
  unfold Port.send
  split
  · exact gate_pump _ _
  · rfl

@[simp] theorem gate_answer (tick : Nat) (me : StackId) (t status detail : Nat) (data : List (BitVec 8)) (x : Port) :
    (x.answer tick me t status detail data).gate = x.gate := by
  unfold Port.answer
  dsimp only
  split
  · exact gate_send _ _ _
  · rfl

/-- A fence adds its cause, and neither the link nor another cause changes with it (R122 to R124). -/
theorem gate_fence (tick : Nat) (me : StackId) (c : Cause) (x : Port) :
    (x.fence tick me c).gate = { x with fr := x.fr.setCause c }.gate := by
  have hfold (l : List Nat) (y : Port) : (l.foldl (fun y t => y.answer tick me t stFENCED 0x02 []) y).gate = y.gate := by
    induction l generalizing y with
    | nil => rfl
    | cons t l ih => rw [List.foldl_cons, ih, gate_answer]
  unfold Port.fence
  split
  · rfl
  · exact hfold _ _

/-- A fence of cause LINK. -/
theorem fence_link (tick : Nat) (me : StackId) (x : Port) :
    (x.fence tick me .link).link = x.link ∧ (x.fence tick me .link).fr.fLink = true :=
  ⟨(link_of_gate (gate_fence tick me .link x) :), (fLink_of_gate (gate_fence tick me .link x) :)⟩

/-! ### The end of ACTIVE (R72, R125) -/

/-- A skipped slice is counted, and neither the frames nor a swap change with it (R96). -/
theorem skipSlice_facts (x : Port) :
    x.skipSlice.fr = x.fr ∧ x.skipSlice.lane.swapDn = x.lane.swapDn ∧ ∃ n, x.skipSlice.link = { x.link with cntBskip := n } := by
  unfold Port.skipSlice
  split
  · exact ⟨rfl, rfl, x.link.cntBskip, rfl⟩
  · exact ⟨rfl, rfl, satInc x.link.cntBskip, rfl⟩

/-- The link that has left ACTIVE for `to_`, up to the count of skipped slices (R72). -/
def Link.left (to_ : LState) (n : Nat) (l : Link) : Link :=
  { l with lstate := to_, stage := .detect, stageTicks := 0, attempt := 0, levt := l.levt.raise 2, dnOcc := false, upOcc := false
           goActive := false, activeTick := none, cntBskip := n }

/-- The port whose replay buffer is discarded, whose tags go to RECOVER and whose swaps and relay credit end (R72, R125). -/
def Port.discharged (x : Port) : Port :=
  { x with
    fr := { x.fr with tags := x.fr.tags.map (fun (y : Nat × TagRec) => if y.2.st == TagSt.free then y else (y.1, { y.2 with st := .recover }))
                      credFrame := false }
    rty := { rxE := 0, nakWait := false, naks := 0 }
    rly := { x.rly with credit := 0 }
    lane := { x.lane with swapDn := none, swapUp := none, waitRepair := [], scrUp := 0, scrDn := 0 } }

theorem leaveActive_eq (tick : Nat) (me : StackId) (to_ : LState) (x : Port) : x.leaveActive tick me to_ =
    (Port.fence tick me .link { x with link := x.link.left to_ x.link.cntBskip }).discharged.skipSlice := rfl

/-- A link that leaves ACTIVE fences its port with cause LINK and ends what its lanes had in progress (R72, R122, R125). -/
theorem leaveActive_facts (tick : Nat) (me : StackId) (to_ : LState) (x : Port) :
    (x.leaveActive tick me to_).fr.fLink = true ∧ (x.leaveActive tick me to_).lane.swapDn = none ∧
      ∃ n, (x.leaveActive tick me to_).link = x.link.left to_ n := by
  obtain ⟨hlink, hfence⟩ := fence_link tick me { x with link := x.link.left to_ x.link.cntBskip }
  rw [leaveActive_eq]
  generalize Port.fence tick me .link _ = z at hlink hfence
  obtain ⟨hfr, hswap, n, hn⟩ := skipSlice_facts z.discharged
  refine ⟨by rw [hfr]; exact hfence, hswap, n, ?_⟩
  rw [hn, show z.discharged.link = z.link from rfl, hlink]
  rfl

/-! ### Counts held by tags in RECOVER (R125, R190) -/

/-- Releasing the counts of a port's tags in RECOVER changes its tags and the arbiter's counts only. -/
theorem recoverRelease_facts (p : Nat) (s : State) : ∃ sec tags,
    recoverRelease p s = { s with sec := sec, ports := (recoverRelease p s).ports } ∧
      (recoverRelease p s).port p = { s.port p with fr := { (s.port p).fr with tags := tags } } ∧
      ∀ q, q ≠ p → (recoverRelease p s).port q = s.port q := by
  have hfold (l : List (Nat × TagRec)) (t : State) : ∃ sec, l.foldl (fun s y => releaseCounts p y.2.sect s) t = { t with sec := sec } := by
    induction l generalizing t with
    | nil => exact ⟨t.sec, rfl⟩
    | cons y l ih =>
      obtain ⟨sec, h⟩ := ih (releaseCounts p y.2.sect t)
      exact ⟨sec, h⟩
  unfold recoverRelease
  dsimp only
  split
  · exact ⟨s.sec, (s.port p).fr.tags, rfl, rfl, fun _ _ => rfl⟩
  · obtain ⟨sec, h⟩ := hfold ((s.port p).fr.tags.filter (fun y => y.2.st == .recover && y.2.holds)) s
    rw [h]
    exact ⟨sec, _, rfl, port_modPort_same _ _ _, fun q hq => port_modPort_ne _ _ _ _ hq⟩

end Sys2Proof.Machine
end

section
/-! PROOF of O28: a repair without its marker (R84). -/

namespace Sys2Proof.Machine

/-- A link that retrains from ACTIVE (R74, R114, R122). -/
theorem retrain_facts {x : Port} (h : x.link.lstate = .active) (tick : Nat) (me : StackId) :
    (x.retrain tick me).fr.fLink = true ∧ (x.retrain tick me).lane.swapDn = none ∧
      ∃ n, (x.retrain tick me).link = { x.link.left .train n with cntRetrain := satInc x.link.cntRetrain } := by
  obtain ⟨hfence, hswap, n, hn⟩ := leaveActive_facts tick me .train x
  unfold Port.retrain
  dsimp only
  rw [if_pos h]
  exact ⟨hfence, hswap, n, by rw [hn]; rfl⟩

/-- A retrain with a cause, up to its event (R84, R91). -/
theorem retrainFor_eq {s : State} {p : Nat} (cause : Nat) (h : (s.port p).link.lstate = .active) :
    ∃ u, retrainFor p cause s = linkFault p .c2 u ∧ u = { s with sec := u.sec, ports := u.ports } ∧
      (u.port p).fr.fLink = true ∧ (u.port p).lane.swapDn = none ∧ (∀ q, q ≠ p → u.port q = s.port q) ∧
      ∃ n, (u.port p).link = { (s.port p).link.left .train n with cntRetrain := satInc (s.port p).link.cntRetrain, failCause := cause } := by
  obtain ⟨hfence, hswap, n, hn⟩ := retrain_facts h s.day.tick s.stackId
  obtain ⟨sec, tags, hframe, hport, hother⟩ := recoverRelease_facts p (s.modPort p (fun x =>
    (x.retrain s.day.tick s.stackId).modLink (fun l => { l with failCause := cause })))
  rw [port_modPort_same] at hport
  refine ⟨_, rfl, ?_, ?_, ?_, fun q hq => ?_, n, ?_⟩
  · rw [hframe]; rfl
  · rw [hport]; exact hfence
  · rw [hport]; exact hswap
  · rw [hother q hq, port_modPort_ne _ _ _ _ hq]
  · rw [hport]; simp only [Port.modLink, hn]

/-- Settles O28: the retrain ends the repair, and its one event reaches the collector. -/
theorem repairTimeoutRetrains : Obligations.RepairTimeoutRetrains := by
  intro s p hcalm hrepair hactive
  obtain ⟨u, hrun, hframe, hfence, hswap, hother, n, hlink⟩ := retrainFor_eq (p := p.val) 9 hactive
  have hexec : exec (.repairTimeout p) s = .next (settle s (linkFault p.val .c2 u)) :=
    congrArg Host.Outcome.next (congrArg (settle s) ((if_pos hrepair).trans hrun))
  obtain ⟨hflt, -, hsrc⟩ := settle_linkFault (s0 := s) (s := u) (p := p.val) (c := .c2) (by decide) (by rw [hframe]; exact hcalm)
    (by rw [hframe])
  have hport (q : Nat) : (settle s (linkFault p.val .c2 u)).port q = u.port q := by rw [hflt]; rfl
  refine ⟨_, hexec, ?_, ?_, ?_, ?_, ?_, ?_, ?_, hsrc, fun q hq => ?_, ?_, ?_⟩
  · rw [hport, hlink]; rfl
  · rw [hport, hlink]; rfl
  · rw [hport, hlink]; rfl
  · rw [hport, hlink]
  · rw [hport, hlink]
  · rw [hport, hswap]
  · rw [hport, hfence]
  · rw [hport, hother q hq]
  · rw [hflt, hframe]
  · rw [hflt, hframe]

end Sys2Proof.Machine
end

section
/-! PROOF of O24: ports follow the lock of their PLLs (R70, R71, R91, R122). -/

namespace Sys2Proof.Machine

/-! ### The frame clock -/

/-- The port that has the frame clock again, and sends what waited for it (R91). -/
def Port.clocked (tick : Nat) (x : Port) : Port := (x.modLink (fun l => { l with noClk := false })).pump tick

theorem gate_clocked (tick : Nat) (x : Port) : (x.clocked tick).gate = (x.modLink (fun l => { l with noClk := false })).gate := gate_pump _ _

/-- A port that is not ACTIVE has nothing to send the clock's return. -/
theorem clocked_of_not_active {x : Port} (h : x.link.lstate ≠ .active) (tick : Nat) :
    x.clocked tick = { x with link := { x.link with noClk := false } } := if_neg (by simp [Port.framing, Port.modLink, h])

/-- A change of every port, read back at any number (R16). -/
theorem allPorts_facts (s : State) (f : Nat → Port → Port) :
    ∃ P, s.allPorts f = { s with ports := P } ∧ ∀ p, tget Port.reset P p = if p < 32 then f p (s.port p) else s.port p :=
  ⟨tmodAll Port.reset 32 s.ports f, rfl, fun p => tget_tmodAll _ _ _ _ p⟩

/-- The frame-clock PLL is declared locked, and every port has the frame clock (R70, R91). -/
theorem pllLock_frame {s : State} (hcalm : Calm s) (hlock : s.clk.framePll = false) (hdue : lockDue s.clk.frameFrom s = true) :
    ∃ P, exec (.pllLock .frame) s = .next { s with clk := { s.clk with framePll := true }, ports := P } ∧
      ∀ p, tget Port.reset P p = if p < 32 then (s.port p).clocked s.day.tick else s.port p := by
  obtain ⟨P, hall, hports⟩ := allPorts_facts { s with clk := { s.clk with framePll := true } } (fun _ x => x.clocked s.day.tick)
  have hrun : pllLock .frame s = { s with clk := { s.clk with framePll := true }, ports := P } :=
    (if_pos (by simp [hlock, hdue])).trans hall
  refine ⟨P, congrArg Host.Outcome.next ((congrArg (settle s) hrun).trans (settle_of_serves hcalm rfl fun p => ?_)), hports⟩
  change (tget Port.reset P p).serves = _
  rw [hports]
  split
  · exact (serves_of_gate (gate_clocked _ _)).trans rfl
  · rfl

/-! ### The lock of a quadrant -/

/-- The link of a port that has power and its lane clock: DOWN, or in TRAIN where enough lanes show signal (R71). -/
def Port.powered (noClk : Bool) (x : Port) : Port := (x.modLink (fun l => { l with lstate := .down, noClk := noClk })).tryTrain

theorem powered_eq (noClk : Bool) (x : Port) : x.powered noClk =
    if 76 ≤ (lanesIn x.link.sig).length then
      { x with link := { x.link with lstate := .train, noClk := noClk, stage := .detect, stageTicks := 0, attempt := 0 } }
    else { x with link := { x.link with lstate := .down, noClk := noClk } } := by
  by_cases h : 76 ≤ (lanesIn x.link.sig).length
  · rw [if_pos h]; exact if_pos ⟨rfl, h⟩
  · rw [if_neg h]; exact if_neg fun hk => h hk.2

/-- What the lock of its quadrant makes of port `p`: OFF becomes DOWN where its domain is on (R71). -/
def Port.lockSeen (on noClk : Bool) (x : Port) : Port := if on = true ∧ x.link.lstate = .off then x.powered noClk else x

theorem portOn_facts {s : State} {p : Nat} (hlock : s.quadLock (quadOf p) = true) :
    portOn p s = { s with ports := (portOn p s).ports } ∧
      (portOn p s).port p = (s.port p).lockSeen (s.domOn (4 + p)) (!s.clk.framePll) ∧ ∀ q, q ≠ p → (portOn p s).port q = s.port q := by
  by_cases h : s.domOn (4 + p) = true ∧ (s.port p).link.lstate = .off
  · have hrun : portOn p s = s.modPort p (Port.powered (!s.clk.framePll)) := if_pos (by simp [portDom, hlock, h])
    rw [hrun, Port.lockSeen, if_pos h]
    exact ⟨rfl, port_modPort_same _ _ _, fun q hq => port_modPort_ne _ _ _ _ hq⟩
  · have hrun : portOn p s = s := if_neg (by simpa [portDom, hlock] using h)
    rw [hrun, Port.lockSeen, if_neg h]
    exact ⟨rfl, rfl, fun _ _ => rfl⟩

/-- The ports of a quadrant are different ones. -/
theorem quadPorts_nodup (q : Nat) : ((List.range 8).map (8 * q + ·)).Nodup := List.nodup_range.map (fun _ _ h => Nat.add_left_cancel h)

theorem mem_quadPorts {q p : Nat} : p ∈ (List.range 8).map (8 * q + ·) ↔ p / 8 = q := by
  rw [List.mem_map]
  constructor
  · rintro ⟨j, hj, rfl⟩
    have := List.mem_range.1 hj
    omega
  · intro h
    exact ⟨p % 8, List.mem_range.2 (by omega), by omega⟩

/-- Every port of a locked quadrant follows the lock (R71). -/
theorem quadOn_facts {s : State} {q : Nat} (hlock : s.quadLock q = true) :
    let t := (List.range 8).foldl (fun s j => portOn (8 * q + j) s) s
    t = { s with ports := t.ports } ∧
      ∀ p, t.port p = if p / 8 = q then (s.port p).lockSeen (s.domOn (4 + p)) (!s.clk.framePll) else s.port p := by
  intro t
  have hquad {u : State} (hu : u = { s with ports := u.ports }) {j : Nat} (hj : j < 8) : u.quadLock (quadOf (8 * q + j)) = true := by
    rw [show quadOf (8 * q + j) = q by rw [quadOf]; omega, hu]; exact hlock
  obtain ⟨hframe, hother, hport⟩ := foldl_touches (get := State.port) (f := fun s j => portOn (8 * q + j) s)
    (I := fun u => u = { s with ports := u.ports }) (C := fun j _ => j < 8)
    (P := fun j x y => y = x.lockSeen (s.domOn (4 + (8 * q + j))) (!s.clk.framePll)) (8 * q + ·)
    (fun u j hu hj => by rw [(portOn_facts (hquad hu hj)).1, hu])
    (fun u j c hu hj hc => (portOn_facts (hquad hu hj)).2.2 c hc)
    (fun u j hu hj => by rw [(portOn_facts (hquad hu hj)).2.1, hu]; rfl)
    (quadPorts_nodup q) (s := s) rfl (fun j hj => List.mem_range.1 hj)
  refine ⟨hframe, fun p => ?_⟩
  split
  next hp =>
    obtain ⟨j, hj, rfl⟩ := List.mem_map.1 (mem_quadPorts.2 hp)
    exact hport j hj
  next hp => exact hother p (fun hm => hp (mem_quadPorts.1 hm))

/-! ### The loss of lock of a quadrant -/

theorem galLinkEv_frame (p : Nat) (c : Cls) (s : State) : galLinkEv p c s = { s with bcn := (galLinkEv p c s).bcn } := emit_frame _ _

/-- The port that tells why it is OFF (R91, R97). -/
def Port.lostLock (x : Port) : Port := x.modLink (fun l => { l with failCause := 8, levt := l.levt.raise 4 })

/-- What the loss of its quadrant's lock does to port `p` (R91, R122). -/
def portUnlocked (p : Nat) (s : State) : State :=
  galLinkEv p .c2 ((recoverRelease p (s.modPort p (fun x =>
    (x.fence s.day.tick s.stackId .link).goOff s.day.tick s.stackId))).modPort p Port.lostLock)

/-- The state in which quadrant PLL `q` has no lock, before its ports follow (R70, R91). -/
def quadUnlocked (q : Nat) (s : State) : State :=
  { s with clk := { s.clk with quadPll := s.clk.quadPll &&& ~~~(1#4 <<< q), quadFrom := tset s.clk.quadFrom q s.day.tick } }

/-- The ports of quadrant `q` that have power. -/
def poweredPorts (s : State) (q : Nat) : List Nat := ((List.range 8).map (8 * q + ·)).filter (fun p => s.domOn (portDom p))

theorem poweredPorts_nodup (s : State) (q : Nat) : (poweredPorts s q).Nodup := (quadPorts_nodup q).filter _

theorem mem_poweredPorts {s : State} {q p : Nat} : p ∈ poweredPorts s q ↔ p / 8 = q ∧ s.domOn (4 + p) = true := by
  rw [poweredPorts, List.mem_filter, mem_quadPorts]
  rfl

theorem lossOfLock_eq {s : State} {q : Nat} (h : s.quadLock q = true) :
    ∃ det, lossOfLock q s = raise 3 q .c2 det ((poweredPorts s q).foldl (fun s p => portUnlocked p s) (quadUnlocked q s)) :=
  ⟨_, if_neg (by simp [h])⟩

/-- A fenced port that goes OFF stays fenced (R71, R122). -/
theorem goOff_facts {x : Port} (h : x.fr.fLink = true) (tick : Nat) (me : StackId) :
    (x.goOff tick me).fr.fLink = true ∧ (x.goOff tick me).link.lstate = .off := by
  unfold Port.goOff
  split
  · exact ⟨(leaveActive_facts tick me .off x).1, rfl⟩
  · exact ⟨h, rfl⟩

/-- A port without lock: OFF with cause 8, fenced with cause LINK (R91). -/
def Port.unlocked (x : Port) : Prop := x.link.lstate = .off ∧ x.link.failCause = 8 ∧ x.fr.fLink = true

theorem portUnlocked_facts (p : Nat) (s : State) :
    portUnlocked p s = { s with sec := (portUnlocked p s).sec, ports := (portUnlocked p s).ports, bcn := (portUnlocked p s).bcn } ∧
      ((portUnlocked p s).port p).unlocked ∧ ∀ q, q ≠ p → (portUnlocked p s).port q = s.port q := by
  obtain ⟨hfence, hoff⟩ := goOff_facts (fence_link s.day.tick s.stackId (s.port p)).2 s.day.tick s.stackId
  obtain ⟨sec, tags, hframe, hport, hother⟩ := recoverRelease_facts p
    (s.modPort p (fun x => (x.fence s.day.tick s.stackId .link).goOff s.day.tick s.stackId))
  rw [port_modPort_same] at hport
  obtain ⟨b, hb⟩ : ∃ b, portUnlocked p s = { (recoverRelease p (s.modPort p (fun x =>
    (x.fence s.day.tick s.stackId .link).goOff s.day.tick s.stackId))).modPort p Port.lostLock with bcn := b } :=
    ⟨_, galLinkEv_frame p .c2 _⟩
  rw [hb]
  generalize recoverRelease p _ = u at hframe hport hother
  refine ⟨by rw [hframe]; rfl, ?_, fun q hq => ?_⟩
  · change ((u.modPort p Port.lostLock).port p).unlocked
    rw [port_modPort_same, hport]
    exact ⟨hoff, rfl, hfence⟩
  · change (u.modPort p Port.lostLock).port q = _
    rw [port_modPort_ne _ _ _ _ hq, hother q hq, port_modPort_ne _ _ _ _ hq]

/-- The powered ports of a quadrant that loses lock follow it, and no other port changes (R91). -/
theorem portsUnlocked_facts {l : List Nat} (hl : l.Nodup) (s : State) :
    let t := l.foldl (fun s p => portUnlocked p s) s
    t = { s with sec := t.sec, ports := t.ports, bcn := t.bcn } ∧ (∀ p ∈ l, (t.port p).unlocked) ∧ ∀ p, p ∉ l → t.port p = s.port p := by
  intro t
  obtain ⟨hframe, hother, hport⟩ := foldl_touches (get := State.port) (f := fun s p => portUnlocked p s)
    (I := fun u => u = { s with sec := u.sec, ports := u.ports, bcn := u.bcn }) (C := fun _ _ => True) (P := fun _ _ y => y.unlocked) id
    (fun u p hu _ => by rw [(portUnlocked_facts p u).1, hu])
    (fun u p c _ _ hc => (portUnlocked_facts p u).2.2 c hc)
    (fun u p _ _ => (portUnlocked_facts p u).2.1) (l := l) (by rwa [List.map_id]) (s := s) rfl (fun _ _ => trivial)
  rw [List.map_id] at hother
  exact ⟨hframe, hport, hother⟩

/-! ### The obligation -/

/-- Before 16 ticks of continuous lock a PLL is not declared locked (R70). -/
theorem pllLock_early {s : State} {w : Pll}
    (h : match w with | .frame => s.day.tick < s.clk.frameFrom + 16 | .quad q => s.day.tick < tget 0 s.clk.quadFrom q.val + 16) :
    pllLock w s = s := by
  cases w with
  | frame => exact if_neg (by simpa [lockDue] using fun _ _ => h)
  | quad q => exact if_neg (by simpa [lockDue] using fun _ _ => h)

/-- A quadrant PLL is declared locked, and its ports follow (R70, R71). -/
theorem pllLock_quad {s : State} {q : Fin 4} (hcalm : Calm s) (hdom : s.domOn (4 + 8 * q.val) = true)
    (hdue : lockDue (tget 0 s.clk.quadFrom q.val) s = true) :
    ∃ t, exec (.pllLock (.quad q)) s = .next t ∧ t.clk = { s.clk with quadPll := s.clk.quadPll ||| (1#4 <<< q.val) } ∧
      ∀ p, t.port p = if p / 8 = q.val then (s.port p).lockSeen (s.domOn (4 + p)) (!s.clk.framePll) else s.port p := by
  have hrun : pllLock (.quad q) s = (List.range 8).foldl (fun s j => portOn (8 * q.val + j) s)
      { s with clk := { s.clk with quadPll := s.clk.quadPll ||| (1#4 <<< q.val) } } := if_pos (by simp [portDom, hdom, hdue])
  obtain ⟨hframe, hports⟩ := quadOn_facts (s := { s with clk := { s.clk with quadPll := s.clk.quadPll ||| (1#4 <<< q.val) } }) (q := q.val)
    (by simp [State.quadLock])
  rw [← hrun] at hframe hports
  obtain ⟨b, hb⟩ := settle_of_calm (s0 := s) (s := pllLock (.quad q) s) (by rw [hframe]; exact hcalm) (by rw [hframe])
  exact ⟨_, congrArg Host.Outcome.next hb, congrArg State.clk hframe, hports⟩

/-- A quadrant PLL loses lock: its powered ports follow, and no other port changes (R91, R122). -/
theorem exec_lossOfLock {s : State} {q : Fin 4} (hcalm : Calm s) (hlock : s.quadLock q.val = true) :
    ∃ t, exec (.lossOfLock q) s = .next t ∧ t.flt.src.getLsbD 3 = true ∧ t.clk = (quadUnlocked q.val s).clk ∧
      (∀ p ∈ poweredPorts s q.val, (t.port p).unlocked) ∧ ∀ p, p ∉ poweredPorts s q.val → t.port p = s.port p := by
  obtain ⟨det, hrun⟩ := lossOfLock_eq (q := q.val) hlock
  obtain ⟨hframe, hdown, hother⟩ := portsUnlocked_facts (poweredPorts_nodup s q.val) (quadUnlocked q.val s)
  generalize (poweredPorts s q.val).foldl (fun s p => portUnlocked p s) (quadUnlocked q.val s) = u at hrun hframe hdown hother
  obtain ⟨hflt, -, hsrc⟩ := settle_raise (s0 := s) (s := u) (src := 3) (inst := q.val) (c := .c2) (d := det) (by decide) (by decide)
    (by rw [hframe]; exact hcalm) (by rw [hframe]; rfl)
  have hport (p : Nat) : (settle s (raise 3 q.val .c2 det u)).port p = u.port p := by rw [hflt]; rfl
  refine ⟨_, congrArg Host.Outcome.next (congrArg (settle s) hrun), hsrc, ?_, fun p hp => ?_, fun p hp => ?_⟩
  · rw [hflt, hframe]
  · rw [hport]; exact hdown p hp
  · rw [hport]; exact hother p hp

/-- Settles O24: what each row makes of the ports of its PLL, and that the end of the command changes no port. -/
theorem lockDecidesPortPower : Obligations.LockDecidesPortPower := by
  refine ⟨fun s hcalm hlock href hdue => ?_, fun s w hcalm hearly => ?_, fun s q hcalm hdom href hdue => ?_, fun s q hcalm hlock => ?_⟩
  · obtain ⟨P, hexec, hports⟩ := pllLock_frame hcalm hlock (by simp [lockDue, href, hdue])
    refine ⟨_, hexec, rfl, fun p hp => ?_⟩
    change (tget Port.reset P p).link = _ ∧ (_ → tget Port.reset P p = _)
    rw [hports, if_pos hp]
    exact ⟨link_of_gate (gate_clocked _ _), fun hactive => clocked_of_not_active hactive _⟩
  · exact congrArg Host.Outcome.next ((congrArg (settle s) (pllLock_early hearly)).trans (settle_of_serves hcalm rfl fun _ => rfl))
  · obtain ⟨t, hexec, hclk, hports⟩ := pllLock_quad hcalm hdom (by simp [lockDue, href, hdue])
    refine ⟨t, hexec, hclk, fun p _ => (hports p).trans ?_⟩
    by_cases hp : p / 8 = q.val
    · rw [if_pos hp]
      by_cases hon : s.domOn (4 + p) = true ∧ (s.port p).link.lstate = .off
      · rw [if_pos ⟨hp, hon⟩]
        exact (if_pos hon).trans (powered_eq _ _)
      · rw [if_neg fun h => hon h.2]
        exact if_neg hon
    · rw [if_neg hp, if_neg fun h => hp h.1]
  · obtain ⟨t, hexec, hsrc, hclk, hdown, hother⟩ := exec_lossOfLock hcalm hlock
    refine ⟨t, hexec, hsrc, hclk, fun p _ hp hon => hdown p (mem_poweredPorts.2 ⟨hp, hon⟩), fun p _ hp => hother p fun hm => ?_⟩
    obtain ⟨hq, hon⟩ := mem_poweredPorts.1 hm
    rcases hp with hp | hp
    · exact hp hq
    · simp [hon] at hp

end Sys2Proof.Machine
end

section
/-! PROOF of O23: the loss of one lane in service (R84, R91, R356). -/

namespace Sys2Proof.Machine

/-! ### One lane -/

theorem getLsbD_single {j : Nat} (hj : j < 78) (i : Nat) : (1#78 <<< j).getLsbD i = decide (i = j) := by
  rw [BitVec.getLsbD_shiftLeft, BitVec.getLsbD_one, Bool.eq_iff_iff]
  simp only [Bool.and_eq_true, Bool.not_eq_true', decide_eq_true_eq, decide_eq_false_iff_not]
  omega

theorem lanesIn_single {j : Nat} (hj : j < 78) : lanesIn (1#78 <<< j) = [j] := by
  have hbit : (fun i => (1#78 <<< j).getLsbD i) = fun i => i == j := by
    funext i
    rw [getLsbD_single hj, beq_eq_decide]
  rw [lanesIn, hbit, List.filter_beq, List.count_eq_one_of_mem List.nodup_range (List.mem_range.2 hj)]
  rfl

/-- The lane that loses signal stands alone in what is lost (R91). -/
theorem single_and {v : BitVec 78} {j : Nat} (hj : j < 78) (h : v.getLsbD j = true) : 1#78 <<< j &&& v = 1#78 <<< j := by
  apply BitVec.eq_of_getLsbD_eq
  intro i _
  rw [BitVec.getLsbD_and, getLsbD_single hj]
  by_cases hi : i = j
  · simp [hi, h]
  · simp [hi]

/-- Where another lane shows signal too, some signal is left. -/
theorem and_not_single_ne_zero {v : BitVec 78} {j : Nat} (hj : j < 78) (h : v.getLsbD j = true) (hne : v ≠ 1#78 <<< j) :
    v &&& ~~~(1#78 <<< j) ≠ 0 := by
  intro hzero
  apply hne
  apply BitVec.eq_of_getLsbD_eq
  intro i hi
  have hbit := congrArg (BitVec.getLsbD · i) hzero
  simp only [BitVec.getLsbD_and, BitVec.getLsbD_not, getLsbD_single hj, hi] at hbit
  rw [getLsbD_single hj]
  by_cases hij : i = j
  · simp [hij, h]
  · simpa [hij] using hbit

/-! ### The repair begins -/

/-- The loss of one lane in service, with a good free spare and nothing in progress, starts its repair (R84, R91). -/
theorem losLanes_single {s : State} {p j : Nat} {x : Port} {k : Spare} {ks : List Spare} (hx : s.port p = x) (hj : j < 76)
    (hout : j ∉ x.lane.outDn) (hslice : x.lane.slice = none) (hswap : x.lane.swapDn = none) (hwait : x.lane.waitRepair = [])
    (hfree : freeSpares x .down = k :: ks) : losLanes p (1#78 <<< j) s =
      linkFault p .c1 (startRepair p j (s.modPort p (fun x => x.modLane (fun y => { y with waitRepair := [] })))) := by
  subst hx
  have hspare (n : Nat) : (1#78 <<< j).getLsbD (76 + n) = false := by
    rw [getLsbD_single (by omega)]
    exact decide_eq_false (by omega)
  have hmeets : swapMeets p (1#78 <<< j) s = s := by rw [swapMeets, hswap]
  have hrepairing : repairing (s.port p) = false := by rw [repairing, hswap]
  have hlanes : lanesIn (1#78 <<< j) = [j] := lanesIn_single (by omega)
  unfold losLanes
  simp [hlanes, hspare, hmeets, hrepairing, hout, hslice, hswap, hwait, hfree, hj]

/-- The port of which down lane `j` has lost signal (R91). -/
def Port.laneLost (j : Nat) (x : Port) : Port :=
  { x with link := { x.link with
      sig := x.link.sig &&& ~~~(1#78 <<< j), cntLos := satInc x.link.cntLos, levt := x.link.levt.raise 0 } }

/-- On an ACTIVE link with signal on other lanes, a lane's loss is counted and dealt with as the loss of that lane (R91). -/
theorem lossOfSignal_single {s : State} {p j : Nat} (hactive : (s.port p).link.lstate = .active) (hocc : (s.port p).link.dnOcc = false)
    (hj : j < 78) (hsig : (s.port p).link.sig.getLsbD j = true) (hne : (s.port p).link.sig ≠ 1#78 <<< j) :
    lossOfSignal p (1#78 <<< j) s = losLanes p (1#78 <<< j) (s.modPort p (Port.laneLost j)) := by
  have hlost : 1#78 <<< j ≠ 0 := fun h => by
    have := congrArg (BitVec.getLsbD · j) h
    simp [getLsbD_single hj] at this
  unfold lossOfSignal
  dsimp only
  rw [single_and hj hsig, if_neg (by rw [hocc, Bool.false_or, decide_eq_true_eq]; exact hlost), hactive]
  exact (if_neg (and_not_single_ne_zero hj hsig hne)).trans (congrArg _ (modPort_modPort _ _ _ _))

/-- The port whose down lane `j` is to be moved onto the spare `k` at the marker (R84). -/
def Port.repairBegun (j : Nat) (k : Spare) (x : Port) : Port :=
  { x with lane := { x.lane with swapDn := some { kind := .repair, lane := j, spare := k, phase := .marker } } }

/-- A repair begins with the REPAIR frame, which a transmitter that may sends at once (R84). -/
theorem startRepair_sends {s : State} {p : PortId} {j : Nat} {x : Port} {k : Spare} {ks : List Spare} (hx : s.port p.val = x)
    (hsends : Claims.Sends x) (hfree : freeSpares x .down = k :: ks) : startRepair p.val j s =
      Claims.withPort s p (Claims.sent s.day.tick (.laneCtl 0x8 .down j k) (x.repairBegun j k)) := by
  subst hx
  have hsends' : Claims.Sends ((s.port p.val).repairBegun j k) := hsends
  unfold startRepair
  rw [hfree]
  refine (modPort_modPort _ _ _ _).trans ?_
  exact congrArg (Claims.withPort s p) (send_of_sends hsends' s.day.tick (by simp))

/-- The loss of lane `j` changes no spare. -/
theorem freeSpares_laneLost {j : Nat} (hj : j < 76) (x : Port) : freeSpares (x.laneLost j) .down = freeSpares x .down := by
  refine List.filter_congr fun k _ => ?_
  have hsig : (x.laneLost j).link.sig.getLsbD (76 + k.val) = x.link.sig.getLsbD (76 + k.val) := by
    change (x.link.sig &&& ~~~(1#78 <<< j)).getLsbD (76 + k.val) = _
    rw [BitVec.getLsbD_and, BitVec.getLsbD_not, getLsbD_single (by omega), decide_eq_true (show 76 + k.val < 78 by omega),
      decide_eq_false (show 76 + k.val ≠ j by omega)]
    exact Bool.and_true _
  rw [hsig]
  rfl

/-- Settles O23: the repair's first frame leaves, and its one event reaches the collector. -/
theorem laneLossStartsRepair : Obligations.LaneLossStartsRepair := by
  intro s p j k ks x hcalm hsends hocc hsig hout hne hslice hswap hwait hfree
  have hj : j.val < 76 := j.isLt
  have hnone : (x.laneLost j.val).modLane (fun y => { y with waitRepair := [] }) = x.laneLost j.val := by
    simp only [Port.modLane, ← show (x.laneLost j.val).lane.waitRepair = [] from hwait]
  have hfree' : freeSpares (x.laneLost j.val) .down = k :: ks := (freeSpares_laneLost hj x).trans hfree
  have hrun : lossOfSignal p.val (1#78 <<< j.val) s = linkFault p.val .c1 (Claims.withPort s p
      (Claims.sent s.day.tick (.laneCtl 0x8 .down j.val k) ((x.laneLost j.val).repairBegun j.val k))) := by
    rw [lossOfSignal_single (active_of_framing hsends.1.1) hocc (by omega) hsig hne, modPort_eq_withPort,
      losLanes_single (x := x.laneLost j.val) (port_withPort_same _ _ _) hj hout hslice hswap hwait hfree', modPort_withPort, hnone,
      startRepair_sends (x := x.laneLost j.val) (port_withPort_same _ _ _) hsends hfree', withPort_withPort]
    rfl
  obtain ⟨hflt, hcalm', hsrc⟩ := settle_linkFault (s0 := s) (p := p.val) (c := .c1) (s := Claims.withPort s p
    (Claims.sent s.day.tick (.laneCtl 0x8 .down j.val k) ((x.laneLost j.val).repairBegun j.val k))) (by decide) hcalm rfl
  exact ⟨_, congrArg Host.Outcome.next (congrArg (settle s) hrun), hflt, hsrc, hcalm'.1⟩

end Sys2Proof.Machine
end

section
/-! SUPPORT. The receipt of the expected frame (R80, R81, R113, R114, R133). -/

namespace Sys2Proof.Machine

/-- The expected frame is accepted, and what it carries acts on the port that has accepted it (R113, R114). -/
theorem rxSeq_of_expected {s : State} {p : PortId} {h : Hdr} (he : Claims.Expected s p h) (opc : BitVec 8) (tag : Tag) (act : State → State) :
    rxSeq p.val h opc tag act s = act (Claims.withPort s p (Claims.accepted (s.port p.val))) := by
  obtain ⟨-, hrx, hinj, hseq, hack⟩ := he
  have hcount : countDown p.val s = Claims.withPort s p (Claims.heard (s.port p.val)) := rfl
  have huse : useAck p.val h.ack opc tag (countDown p.val s) = (countDown p.val s, true) := by
    unfold useAck
    rw [hcount, port_withPort_same, show (Claims.heard (s.port p.val)).rty = (s.port p.val).rty from rfl, hack]
    rfl
  unfold rxSeq
  dsimp only
  rw [if_neg (by simp [hrx]), if_neg (by simp [hinj]), huse, if_neg (by simp), hcount, port_withPort_same,
    if_pos (show h.fseq = (Claims.heard (s.port p.val)).rty.rxE from hseq), modPort_withPort]
  rfl

/-- A LANE_CTL frame that is expected and names a lane: what its action makes of the port that has accepted it (R81). -/
theorem rxLane_of_expected {s : State} {p : PortId} {h : Hdr} {l : BitVec 7} {act : State → State} {y : Port} (he : Claims.Expected s p h)
    (hl : l.toNat ≤ 75) (hact : ∀ t : State, t.port p.val = Claims.accepted (s.port p.val) → act t = Claims.withPort t p y)
    (hy : y.serves = (s.port p.val).serves) : rxLane p.val h l act s = Claims.withPort s p y := by
  rw [rxLane, rxSeq_of_expected he, if_neg (by omega), hact _ (port_withPort_same _ _ _), withPort_withPort]
  exact settle_withPort he.1 hy

end Sys2Proof.Machine
end

section
/-! PROOF of O27: the ends of swaps, restores and repairs (R82 to R84, R95). -/

namespace Sys2Proof.Machine

/-! ### The lane map -/

/-- The lanes of which `lane` of direction `d` stands on the spare `k` (R82, R84). -/
def Lanes.movedTo (l : Lanes) (d : Dir) (lane : Nat) (k : Spare) : Lanes :=
  (l.setMap ((l.map d).set k (some lane)) d).setOut (l.out d ++ [lane]) d

/-- A lane in service that the other spare does not carry moves onto its spare and does nothing else (R82, R84). -/
theorem moveTo_of_inService {l : Lanes} {d : Dir} {lane : Nat} {k : Spare} (hcarry : (l.map d).carry (if k = 0 then 1 else 0) ≠ some lane)
    (hout : lane ∉ l.out d) (repair : Bool) : l.moveTo d lane k repair = l.movedTo d lane k := by
  unfold Lanes.moveTo Lanes.movedTo
  dsimp only
  rw [if_neg hcarry, if_neg (by simpa using hout)]

/-! ### No slice in progress -/

section

variable {s : State} {p : PortId}

theorem modLane_of_eq {x : Port} {f : Lanes → Lanes} (h : f x.lane = x.lane) : x.modLane f = x := by rw [Port.modLane, h]

theorem sliceSwapped_of_none (hslice : (s.port p.val).lane.slice = none) (d : Dir) (lane : Nat) :
    sliceSwapped p.val d lane s = Claims.withPort s p (s.port p.val) := by
  unfold sliceSwapped
  rw [modPort_eq_withPort, modLane_of_eq]
  rw [hslice, Option.map_none, ← hslice]

theorem sliceRestored_of_none (hslice : (s.port p.val).lane.slice = none) (d : Dir) (lane : Nat) : sliceRestored p.val d lane s = s := by
  rw [sliceRestored, hslice]

theorem sliceAbandon_of_none (hslice : (s.port p.val).lane.slice = none) (d : Dir) (lane : Nat) : sliceAbandon p.val d lane s = s := by
  rw [sliceAbandon, hslice]

/-- A swap or restore that ends leaves the lane map as it was (R83). -/
theorem swapAbandon_of_swap {d : Dir} {w : Swap} (hswap : (s.port p.val).lane.swap d = some w) (hkind : w.kind ≠ .repair)
    (hslice : (s.port p.val).lane.slice = none) :
    swapAbandon p.val d s = Claims.withPort s p ((s.port p.val).modLane (fun l => l.setSwap none d)) := by
  unfold swapAbandon
  rw [hswap]
  dsimp only
  rw [if_neg hkind, setSwap, modPort_eq_withPort]
  refine sliceAbandon_of_none ?_ d w.lane
  rw [port_withPort_same]
  cases d <;> exact hslice

/-- A LANE_CTL frame of a transmitter that sends at once (R81). -/
theorem sendLane_of_sends (hsends : Claims.Sends (s.port p.val)) (action : Nat) (d : Dir) (lane : Nat) (k : Spare) :
    sendLane p.val action d lane k s = Claims.withPort s p (Claims.sent s.day.tick (.laneCtl action d lane k) (s.port p.val)) :=
  congrArg (Claims.withPort s p) (send_of_sends hsends s.day.tick (by simp))

/-! ### The transmitter of the up direction -/

variable {x : Port} {lane : Nat} {k : Spare}

/-- SWITCHED ends the up swap that it matches (R82). -/
theorem rxSwitched_ends_swap (hx : s.port p.val = x) (hslice : x.lane.slice = none)
    (hswap : x.lane.swapUp = some { kind := .swap, lane := lane, spare := k, phase := .mirroring })
    (hout : lane ∉ x.lane.outUp) (hcarry : x.lane.mapUp.carry (if k = 0 then 1 else 0) ≠ some lane) :
    rxSwitched p.val false .up lane k s =
      Claims.withPort s p (x.modLane (fun l => (l.movedTo .up lane k).setSwap none .up)) := by
  subst hx
  unfold rxSwitched
  rw [hswap]
  dsimp only
  rw [if_pos ⟨rfl, rfl, rfl, rfl⟩, if_neg (by decide), modPort_eq_withPort, Port.modLane, moveTo_of_inService (d := .up) hcarry hout]
  refine (sliceSwapped_of_none ?_ .up lane).trans ?_
  · rw [port_withPort_same]; exact hslice
  · rw [port_withPort_same, withPort_withPort]; rfl

/-- RESTORED ends the up restore that it matches (R82). -/
theorem rxSwitched_ends_restore (hx : s.port p.val = x) (hslice : x.lane.slice = none)
    (hswap : x.lane.swapUp = some { kind := .restore, lane := lane, spare := k, phase := .mirroring }) :
    rxSwitched p.val true .up lane k s =
      Claims.withPort s p (x.modLane (fun l => (l.moveBack .up lane k).setSwap none .up)) := by
  subst hx
  unfold rxSwitched
  rw [hswap]
  dsimp only
  rw [if_pos ⟨rfl, rfl, rfl, rfl⟩, if_pos rfl, modPort_eq_withPort]
  refine sliceRestored_of_none ?_ .up lane
  rw [port_withPort_same]; exact hslice

/-- SWAP_FAIL ends the up swap or restore that it names (R83). -/
theorem rxSwapFail_ends {w : Swap} (hx : s.port p.val = x) (hslice : x.lane.slice = none) (hswap : x.lane.swapUp = some w)
    (hkind : w.kind ≠ .repair) :
    rxSwapFail p.val .up w.lane w.spare s = Claims.withPort s p (x.modLane (fun l => l.setSwap none .up)) := by
  subst hx
  have hup : (s.port p.val).lane.swap .up = some w := hswap
  unfold rxSwapFail
  rw [hup]
  exact (if_pos ⟨rfl, rfl⟩).trans (swapAbandon_of_swap hup hkind hslice)

/-- A good spare of the up direction that carries nothing is free where no swap is in progress (R78, R84). -/
theorem mem_freeSpares_up {x : Port} {k : Spare} (hswap : x.lane.swapUp = none) (hbad : x.lane.mapUp.bad k = false)
    (hcarry : x.lane.mapUp.carry k = none) : (freeSpares x .up).contains k = true := by
  have hspares : ∀ k : Spare, k ∈ ([0, 1] : List Spare) := by decide
  rw [List.contains_iff_mem, freeSpares, List.mem_filter]
  exact ⟨hspares k, by simp [Lanes.map, Lanes.swap, hswap, hbad, hcarry]⟩

/-- The port that has sent the block of REPAIR words and drives `lane` on the spare `k` from then on (R84, R88). -/
def Port.repaired (lane : Nat) (k : Spare) (x : Port) : Port :=
  { x with
    tx := x.tx ++ (if x.link.upOcc then [.wake] else []) ++ [.repair]
    link := { x.link with upOcc := false, cntRepair := satInc x.link.cntRepair, levt := x.link.levt.raise 1 }
    lane := x.lane.movedTo .up lane k }

theorem wakeUp_eq (x : Port) : x.wakeUp =
    { x with link := { x.link with upOcc := false }, tx := x.tx ++ (if x.link.upOcc then [.wake] else []) } := by
  unfold Port.wakeUp
  split
  next => rfl
  next h => rw [List.append_nil, ← Bool.eq_false_of_not_eq_true h]

theorem repaired_eq {x : Port} (hcarry : x.lane.mapUp.carry (if k = 0 then 1 else 0) ≠ some lane) (hout : lane ∉ x.lane.outUp) :
    (Port.modLane { x.wakeUp with tx := x.wakeUp.tx ++ [UpSent.repair] } (fun l => l.moveTo .up lane k true)).modLink
      (fun l => { l with cntRepair := satInc l.cntRepair, levt := l.levt.raise 1 }) = x.repaired lane k := by
  rw [wakeUp_eq, Port.modLane, moveTo_of_inService (d := .up) hcarry hout]
  rfl

/-- REPAIR onto a free spare, with nothing to replay (R84). -/
theorem rxRepair_moves (hx : s.port p.val = x) (hswap : x.lane.swapUp = none) (hbad : x.lane.mapUp.bad k = false)
    (hfree : x.lane.mapUp.carry k = none) (hcarry : x.lane.mapUp.carry (if k = 0 then 1 else 0) ≠ some lane)
    (hout : lane ∉ x.lane.outUp) (hreplay : x.rty.replay = []) :
    rxRepair p.val .up lane k s = Claims.withPort s p (x.repaired lane k) := by
  subst hx
  have hnone : swapAbandon p.val .up s = s := by
    unfold swapAbandon
    rw [show (s.port p.val).lane.swap .up = none from hswap]
  unfold rxRepair
  dsimp only
  rw [if_pos rfl, hnone, if_neg (by rw [mem_freeSpares_up hswap hbad hfree]; decide), modPort_eq_withPort, repaired_eq hcarry hout,
    port_withPort_same, if_pos (by rw [show ((s.port p.val).repaired lane k).rty.replay = [] from hreplay]; rfl)]

/-- BIST_RESULT adds the host's count to the slice that tests the up lane (R95). -/
theorem rxBistResult_counts {sl : LaneSlice} (hx : s.port p.val = x) (n : Nat) (hlane : lane ≤ 75) (hslice : x.lane.slice = some sl)
    (hpos : sl.pos = 78 + lane) (htest : sl.inTest = true) :
    rxBistResult p.val .up lane n s = Claims.withPort s p (x.modLane (fun l =>
      { l with slice := some { sl with errors := some (n + sl.errors.getD 0) } })) := by
  subst hx
  have hmine : sl.dir = .up ∧ Dir.up = .up ∧ sl.lane = lane ∧ sl.inTest :=
    ⟨if_neg (by omega), rfl, by rw [LaneSlice.lane]; omega, htest⟩
  unfold rxBistResult
  rw [modPort_eq_withPort, Port.modLane, hslice, Option.map_some, if_pos hmine]
  rfl

/-! ### The receiver of the down direction -/

variable {w : Swap}

/-- The frames of a planned swap match (R82). -/
theorem swapMatch_ends_swap (hswap : (s.port p.val).lane.swapDn = some w) (hkind : w.kind = .swap) (hphase : w.phase = .mirroring)
    (hslice : (s.port p.val).lane.slice = none) (hcarry : (s.port p.val).lane.mapDn.carry (if w.spare = 0 then 1 else 0) ≠ some w.lane)
    (hout : w.lane ∉ (s.port p.val).lane.outDn) (hsends : Claims.Sends (s.port p.val)) :
    swapMatch p.val s = Claims.withPort s p (Claims.sent s.day.tick (.laneCtl 0x3 .down w.lane w.spare)
      ((s.port p.val).modLane (fun l => (l.movedTo .down w.lane w.spare).setSwap none .down))) := by
  unfold swapMatch
  rw [hswap]
  dsimp only
  rw [if_neg (by simp [hphase]), hkind]
  dsimp only
  rw [modPort_eq_withPort, Port.modLane, moveTo_of_inService (d := .down) hcarry hout,
    sendLane_of_sends (by rw [port_withPort_same]; exact hsends), port_withPort_same, withPort_withPort, sliceSwapped_of_none,
    port_withPort_same, withPort_withPort]
  · rfl
  · rw [port_withPort_same]; exact hslice

/-- No match: the host is told, and the swap ends (R83). -/
theorem swapNoMatch_ends (hswap : (s.port p.val).lane.swapDn = some w) (hkind : w.kind ≠ .repair) (hphase : w.phase = .mirroring)
    (hslice : (s.port p.val).lane.slice = none) (hsends : Claims.Sends (s.port p.val)) :
    swapNoMatch p.val s = Claims.withPort s p (Claims.sent s.day.tick (.laneCtl 0x4 .down w.lane w.spare)
      ((s.port p.val).modLane (fun l => l.setSwap none .down))) := by
  unfold swapNoMatch
  rw [hswap]
  dsimp only
  rw [if_neg (by simp [hkind, hphase]), sendLane_of_sends hsends,
    swapAbandon_of_swap (d := .down) (w := w) (by rw [port_withPort_same]; exact hswap) hkind (by rw [port_withPort_same]; exact hslice),
    port_withPort_same, withPort_withPort]
  rfl

/-- The host does not answer a request (R83). -/
theorem swapUnanswered_ends (hswap : (s.port p.val).lane.swapDn = some w) (hkind : w.kind ≠ .repair) (hphase : w.phase = .requested)
    (hslice : (s.port p.val).lane.slice = none) :
    swapUnanswered p.val s = Claims.withPort s p ((s.port p.val).modLane (fun l => l.setSwap none .down)) := by
  unfold swapUnanswered
  rw [hswap]
  dsimp only
  rw [if_neg (by simp [hkind, hphase])]
  exact swapAbandon_of_swap hswap hkind hslice

/-- The marker of a repair that no other lane waits behind (R84). -/
theorem repairMarker_moves {n : Nat} (hswap : (s.port p.val).lane.swapDn = some w) (hkind : w.kind = .repair) (hn : 70 ≤ n)
    (hcarry : (s.port p.val).lane.mapDn.carry (if w.spare = 0 then 1 else 0) ≠ some w.lane) (hout : w.lane ∉ (s.port p.val).lane.outDn)
    (hwait : (s.port p.val).lane.waitRepair = []) :
    repairMarker p.val n s = Claims.withPort s p (((s.port p.val).modLane (fun l => (l.movedTo .down w.lane w.spare).setSwap none .down)).modLink
      (fun l => { l with cntRepair := satInc l.cntRepair, levt := l.levt.raise 1 })) := by
  have hwait' : (((s.port p.val).lane.movedTo .down w.lane w.spare).setSwap none .down).waitRepair = [] := hwait
  unfold repairMarker
  rw [hswap]
  dsimp only
  rw [if_pos ⟨hkind, hn⟩, modPort_eq_withPort, port_withPort_same, Port.modLane, moveTo_of_inService (d := .down) hcarry hout]
  split
  next l ls h => exact absurd (h.symm.trans hwait') (by simp)
  next => rfl

/-- A REPAIR block with valid words on fewer than 70 lanes is no marker (R84). -/
theorem repairMarker_of_few {n : Nat} (hn : n < 70) : repairMarker p.val n s = s := by
  unfold repairMarker
  split
  · exact if_neg fun h => by omega
  · rfl

end

/-! ### The obligation -/

/-- Settles O27: each row on the port that has accepted its frame, or on the port as it stands. -/
theorem swapsEnd : Obligations.SwapsEnd := by
  refine ⟨fun s p h l k he hl => ⟨fun a j => ?_, fun hslice hswap hout hcarry => ?_, fun hslice hswap => ?_,
    fun kind ph hslice hkind hswap => ?_, fun hswap hbad hfree hcarry hout hreplay => ?_, fun n sl hslice hpos htest => ?_⟩,
    fun s p w hswap hslice hcarry hout => ⟨fun hkind hphase hsends => ?_, fun hkind hphase hsends => ?_, fun hkind hphase => ?_,
      fun n hn hkind hwait => ?_, fun n hn => ?_⟩⟩
  · exact congrArg Host.Outcome.next ((congrArg (settle s) (rxSeq_of_expected he _ _ _)).trans (settle_withPort he.1 rfl))
  · exact congrArg Host.Outcome.next (rxLane_of_expected he hl (fun _ ht => rxSwitched_ends_swap ht hslice hswap hout hcarry) rfl)
  · exact congrArg Host.Outcome.next (rxLane_of_expected he hl (fun _ ht => rxSwitched_ends_restore ht hslice hswap) rfl)
  · exact congrArg Host.Outcome.next (rxLane_of_expected he hl (fun _ ht => rxSwapFail_ends ht hslice hswap hkind) rfl)
  · exact congrArg Host.Outcome.next (rxLane_of_expected he hl
      (fun _ ht => rxRepair_moves ht hswap hbad hfree hcarry hout hreplay) rfl)
  · exact congrArg Host.Outcome.next (rxLane_of_expected he hl (fun _ ht => rxBistResult_counts ht n.toNat hl hslice hpos htest) rfl)
  · exact congrArg Host.Outcome.next (swapMatch_ends_swap hswap hkind hphase hslice hcarry hout hsends)
  · exact congrArg Host.Outcome.next (swapNoMatch_ends hswap hkind hphase hslice hsends)
  · exact congrArg Host.Outcome.next (swapUnanswered_ends hswap hkind hphase hslice)
  · exact congrArg Host.Outcome.next (repairMarker_moves hswap hkind hn hcarry hout hwait)
  · exact congrArg Host.Outcome.next (repairMarker_of_few hn)

end Sys2Proof.Machine
end

section
/-! SUPPORT. What the checks on receipt make of a request whose frame is accepted (R105, R112, R117). -/

namespace Sys2Proof.Machine

/-! ### The end of a command that changed one port -/

/-- A command that changed one port, which serves as before, and raised nothing, whatever else it changed. -/
theorem settle_of_ports {s t : State} {p : PortId} {x : Port} (h : Calm s) (hports : t.ports = tset s.ports p.val x)
    (hx : x.serves = (s.port p.val).serves) (hflt : t.flt = s.flt) (hls : t.ls = s.ls) (hr : t.ready = s.ready) : settle s t = t := by
  refine settle_of_serves ⟨by rw [hflt]; exact h.1, by rw [hls]; exact h.2⟩ hr fun q => ?_
  have hport : t.port q = if q = p.val then x else s.port q := by rw [State.port, hports]; exact tget_tset _ _ _ _ _
  rw [hport]
  split
  next hq => rw [hq, hx]
  next => rfl

/-! ### The frame -/

/-- The expected frame of a request is received by the port that has accepted it (R114, R117). -/
theorem rxRequest_of_expected {s : State} {p : PortId} {h : Hdr} (he : Claims.Expected s p h) (o : BitVec 8) (r : ReqF) :
    rxRequest p.val h o r s = settle s (recvRequest p.val o r (Claims.withPort s p (Claims.accepted (s.port p.val)))) :=
  congrArg (settle s) (rxSeq_of_expected he _ _ _)

/-- The end of a request that the port `x` has taken without raising anything, where it serves as before. -/
theorem rxRequest_of_recv {s : State} {p : PortId} {h : Hdr} {o : BitVec 8} {r : ReqF} {x : Port} (he : Claims.Expected s p h)
    (hrecv : recvRequest p.val o r (Claims.withPort s p (Claims.accepted (s.port p.val))) = Claims.withPort s p x)
    (hx : x.serves = (s.port p.val).serves) : rxRequest p.val h o r s = Claims.withPort s p x := by
  rw [rxRequest_of_expected he, hrecv]
  exact settle_withPort he.1 hx

/-! ### The tag of a request -/

/-- The port on which a request has arrived: its tag holds the request's record, and the count of arrivals has gone on (R108, R112). -/
def Port.opened (k : Kind) (w : Bool) (r : ReqF) (x : Port) : Port :=
  { x with fr := { x.fr with arr := x.fr.arr + 1, tags := tset x.fr.tags r.tag.toNat (Claims.heldTag k w r x.fr.arr) } }

theorem tag_opened (k : Kind) (w : Bool) (r : ReqF) (x : Port) :
    (x.opened k w r).fr.tag r.tag.toNat = Claims.heldTag k w r x.fr.arr := tget_tset_same _ _ _ _

/-! ### Its ways after the checks (R117) -/

section
variable {s : State} {p : PortId} {x : Port} {o : BitVec 8} {r : ReqF}

/-- A request that passes the checks enters its class queue. -/
theorem recvRequest_queues (hfree : (x.fr.tag r.tag.toNat).outstanding = false) (hk : kindOf o ≠ .unknown)
    (hchk : receiptError s x o r = none) :
    recvRequest p.val o r (Claims.withPort s p x) = Claims.withPort s p (Claims.queued o (kindOf o) (writesMem o r) r x) := by
  have hchk' : receiptError (Claims.withPort s p x) x o r = none := hchk
  unfold recvRequest
  dsimp only
  rw [port_withPort_same, if_neg (by simp [hfree]), if_neg hk, hchk', modPort_withPort]
  rfl

/-- A request that fails a check is answered with what the check says. -/
theorem recvRequest_refuses {e : Nat × Nat} (hfree : (x.fr.tag r.tag.toNat).outstanding = false) (hk : kindOf o ≠ .unknown)
    (hchk : receiptError s x o r = some e) :
    recvRequest p.val o r (Claims.withPort s p x) = Claims.withPort s p
      ((x.opened (kindOf o) (writesMem o r) r).answerError s.day.tick s.stackId o r.tag.toNat e.1 e.2) := by
  have hchk' : receiptError (Claims.withPort s p x) x o r = some e := hchk
  unfold recvRequest
  dsimp only
  rw [port_withPort_same, if_neg (by simp [hfree]), if_neg hk, hchk']
  exact modPort_withPort _ _ _ _

/-- A reserved opcode is answered BAD_REQUEST 0x10. -/
theorem recvRequest_unknown (hfree : (x.fr.tag r.tag.toNat).outstanding = false) (hk : kindOf o = .unknown) :
    recvRequest p.val o r (Claims.withPort s p x) = Claims.withPort s p
      ((x.opened .unknown (writesMem o r) r).answerError s.day.tick s.stackId o r.tag.toNat stBAD 0x10) := by
  unfold recvRequest
  dsimp only
  rw [port_withPort_same, if_neg (by simp [hfree]), if_pos hk, modPort_withPort]
  rfl

/-- The checks on a request that no relay frame carries: those of its port, and the field rules of its opcode. -/
theorem receiptError_of_admissible (ha : Claims.Admissible x r) (hrelay : o ≠ 0x40) (hbell : o = 0x30 → s.tenderPart = true)
    (hfield : fieldError o r = none) : receiptError s x o r = none := by
  obtain ⟨-, hfence, hsect, hcredit⟩ := ha
  have hno : decide (o = 0x40) = false := decide_eq_false hrelay
  have hpart : (!s.tenderPart && decide (o = 0x30)) = false := by
    by_cases h : o = 0x30
    · rw [hbell h]; rfl
    · rw [decide_eq_false h, Bool.and_false]
  unfold receiptError
  simp only [hno, hpart, hfence, Bool.false_and, Bool.or_false, Bool.false_eq_true, if_false, if_neg hsect, if_neg hrelay,
    if_neg (Nat.not_le.2 hcredit), effOpc, hfield]

/-- The checks on a relay frame for this stack (R127, R129). -/
theorem receiptError_relay (ha : Claims.Admissible x r) (htender : isRacc (iopc r) = true → s.tenderPart = true)
    (hinner : innerOk (iopc r) = true) (hfield : fieldError (iopc r) r = none) (hme : s.stackId ≠ 0xFFF) (hstack : r.stack ≠ 0xFFF)
    (horig : r.orig ≠ 0xFFF) (hen : x.rly.en = true) : receiptError s x 0x40 r = none := by
  obtain ⟨-, hfence, hsect, hcredit⟩ := ha
  have hpart : (!s.tenderPart && isRacc (iopc r)) = false := by
    cases h : isRacc (iopc r)
    · exact Bool.and_false _
    · rw [htender h]; rfl
  have hhost : (decide (r.stack = 0xFFF) || decide (r.orig = 0xFFF)) = false := by
    rw [decide_eq_false hstack, decide_eq_false horig]; rfl
  have hdoor : decide ((0x40 : BitVec 8) = 0x30) = false := rfl
  unfold receiptError
  simp only [hpart, hfence, hhost, hinner, hen, hdoor, decide_true, Bool.true_and, Bool.false_or, Bool.not_true, Bool.false_eq_true,
    if_false, if_true, if_neg hsect, if_neg hme, if_neg (Nat.not_le.2 hcredit), effOpc, hfield]

/-- A request on a fenced port is refused FENCED 0x00 before any other check. -/
theorem receiptError_fenced (h : x.fr.fenced = true) : receiptError s x o r = some (stFENCED, 0x00) := if_pos h

/-- A request that fails a check, on a port whose transmitter sends at once: its answer leaves (R109). -/
theorem answerError_opened {k : Kind} {w : Bool} (hsends : Claims.Sends x) (tick : Nat) (me : StackId) (st d : Nat) :
    (x.opened k w r).answerError tick me o r.tag.toNat st d =
      Claims.sent tick (.rsp k.rsp r.tag r.sect.toNat me r.orig st d [] [])
        (let y := if st = stBAD then { x.opened k w r with fr := reportBad o r.tag d (x.opened k w r).fr } else x.opened k w r
         { y with fr := { y.fr with tags := tset x.fr.tags r.tag.toNat (Claims.answeredTag (Claims.heldTag k w r x.fr.arr)) } }) := by
  have hbody : rspBody me (Claims.heldTag k w r x.fr.arr) r.tag.toNat st d [] [] = .rsp k.rsp r.tag r.sect.toNat me r.orig st d [] [] := by
    simp only [rspBody, Claims.heldTag, BitVec.ofNat_toNat, BitVec.setWidth_eq]
  have hans (y : Port) (hy : Claims.Sends y) (htags : y.fr.tags = (x.opened k w r).fr.tags) :
      y.answer tick me r.tag.toNat st d [] = Claims.sent tick (.rsp k.rsp r.tag r.sect.toNat me r.orig st d [] [])
        { y with fr := { y.fr with tags := tset x.fr.tags r.tag.toNat (Claims.answeredTag (Claims.heldTag k w r x.fr.arr)) } } := by
    have htag : y.fr.tag r.tag.toNat = Claims.heldTag k w r x.fr.arr := by
      rw [Frames.tag, htags]; exact tag_opened k w r x
    have hset (g : TagRec) : tset y.fr.tags r.tag.toNat g = tset x.fr.tags r.tag.toNat g := by rw [htags]; exact tset_tset _ _ _ _
    rw [answer_of_sends hy _ _ _ _ _ _ (by simp [htag, Claims.heldTag]), htag, hbody, hset]
  unfold Port.answerError
  simp only [BitVec.ofNat_toNat, BitVec.setWidth_eq]
  split
  · exact hans { x.opened k w r with fr := reportBad o r.tag d (x.opened k w r).fr } hsends rfl
  · exact hans (x.opened k w r) hsends rfl

end

end Sys2Proof.Machine
end

section
/-! SUPPORT. A frame of a request on its lanes, and read back from them (R98 to R100). -/

namespace Sys2Proof.Machine

/-! ### Bits on lanes -/

/-- The words of `n` lanes put together bit by bit, where each lane carries its 16 bits of `w`. -/
theorem getLsbD_gather {W n : Nat} {w : BitVec W} {lane : Nat → BitVec 16} (h : ∀ i < n, lane i = w.extractLsb' (16 * i) 16) (j : Nat) :
    ((List.range n).foldl (fun v i => v ||| ((lane i).setWidth W <<< (16 * i))) 0).getLsbD j = (decide (j < 16 * n) && w.getLsbD j) := by
  induction n with
  | zero => simp
  | succ n ih =>
    rw [List.range_succ, List.foldl_append, List.foldl_cons, List.foldl_nil, BitVec.getLsbD_or, ih fun i hi => h i (by omega),
      h n (by omega), BitVec.getLsbD_shiftLeft, BitVec.getLsbD_setWidth, BitVec.getLsbD_extractLsb']
    by_cases hw : j < W
    · by_cases hlow : j < 16 * n
      · simp [hlow, show j < 16 * (n + 1) by omega]
      · have hat : 16 * n + (j - 16 * n) = j := by omega
        have hwide : j - 16 * n < W := by omega
        simp [hw, hlow, hat, hwide, show (j - 16 * n < 16) ↔ j < 16 * (n + 1) by omega]
    · simp [BitVec.getLsbD_of_ge w j (by omega), hw]

/-- The lanes bring back the header and the data of a frame (R98). -/
theorem lanesHeader_frameLane (f : BitVec 192) (d : BitVec 1024) : lanesHeader (frameLane f d) = f := by
  have hlane : ∀ i < 12, frameLane f d (64 + i) = f.extractLsb' (16 * i) 16 := fun i _ => by simp [frameLane]
  refine BitVec.eq_of_getLsbD_eq fun j hj => ?_
  exact (getLsbD_gather hlane j).trans (by simp [hj])

theorem lanesData_frameLane (f : BitVec 192) (d : BitVec 1024) : lanesData (frameLane f d) = d := by
  have hlane : ∀ i < 64, frameLane f d i = d.extractLsb' (16 * i) 16 := fun i hi => by simp [frameLane, hi]
  refine BitVec.eq_of_getLsbD_eq fun j hj => ?_
  exact (getLsbD_gather hlane j).trans (by simp [hj])

/-! ### The fields of a request's header (R99, R100) -/

section
variable (h : Hdr) (o : BitVec 8) (r : ReqF) (d : BitVec 1024)

/-- The header of a request below its CRC, field by field from the highest down. -/
def requestBits : BitVec (1 + (9 + (12 + (1 + ((32 + (16 + 37)) + (12 + (3 + (9 + (8 + (10 + 10)))))))))) :=
  b1 false ++ (0#9 ++ (r.orig ++ (b1 r.poison ++ ((r.operand ++ (r.mask ++ r.addr)) ++ (r.stack ++ (r.sect ++ (r.tag ++
    (o ++ (h.ack ++ h.fseq)))))))))

/-- Each field of the header of a request stands where R100 puts it. -/
theorem requestBits_fields :
    ((requestBits h o r).extractLsb' 0 10 = h.fseq ∧ (requestBits h o r).extractLsb' 10 10 = h.ack ∧
      (requestBits h o r).extractLsb' 20 8 = o) ∧
    (requestBits h o r).extractLsb' 28 9 = r.tag ∧ (requestBits h o r).extractLsb' 37 3 = r.sect ∧
    (requestBits h o r).extractLsb' 40 12 = r.stack ∧ (requestBits h o r).extractLsb' 52 37 = r.addr ∧
    (requestBits h o r).extractLsb' 89 16 = r.mask ∧ (requestBits h o r).extractLsb' 105 32 = r.operand ∧
    (requestBits h o r).extractLsb' 137 1 = b1 r.poison ∧ (requestBits h o r).extractLsb' 138 12 = r.orig := by
  refine ⟨⟨?_, ?_, ?_⟩, ?_, ?_, ?_, ?_, ?_, ?_, ?_, ?_⟩ <;>
  · simp (disch := omega) only [requestBits, BitVec.extractLsb'_append_eq_of_le, BitVec.extractLsb'_append_eq_of_add_le, -Nat.reduceAdd]
    exact BitVec.extractLsb'_eq_self

/-- What the frame carries below its CRC is the header. -/
theorem extractLsb'_requestFrame (st len : Nat) (hlen : st + len ≤ 160) :
    (Claims.requestFrame h o r d).extractLsb' st len = (requestBits h o r).extractLsb' st len :=
  BitVec.extractLsb'_append_eq_of_add_le hlen

theorem crcGood_requestFrame : crcGood (Claims.requestFrame h o r d) d = true := by
  have hlow : (Claims.requestFrame h o r d).extractLsb' 0 160 = requestBits h o r :=
    (extractLsb'_requestFrame h o r d 0 160 (by omega)).trans BitVec.extractLsb'_eq_self
  have hcrc : (Claims.requestFrame h o r d).extractLsb' 160 32 = frameCrc (requestBits h o r) d := BitVec.extractLsb'_append_eq_left
  rw [crcGood, hlow, hcrc, beq_self_eq_true]

theorem opc_requestFrame : (Claims.requestFrame h o r d).extractLsb' 20 8 = o := by
  obtain ⟨⟨-, -, hopc⟩, -⟩ := requestBits_fields h o r
  exact (extractLsb'_requestFrame h o r d 20 8 (by omega)).trans hopc

theorem rxHdr_requestFrame : rxHdr (Claims.requestFrame h o r d) = h := by
  obtain ⟨⟨hfseq, hack, -⟩, -⟩ := requestBits_fields h o r
  rw [rxHdr, extractLsb'_requestFrame h o r d 0 10 (by omega), extractLsb'_requestFrame h o r d 10 10 (by omega), hfseq, hack]

theorem poison_requestFrame : (Claims.requestFrame h o r d).getLsbD 137 = r.poison := by
  obtain ⟨-, -, -, -, -, -, -, hpoison, -⟩ := requestBits_fields h o r
  have hbit : ((Claims.requestFrame h o r d).extractLsb' 137 1).getLsbD 0 = (b1 r.poison).getLsbD 0 := by
    rw [extractLsb'_requestFrame h o r d 137 1 (by omega), hpoison]
  rw [BitVec.getLsbD_extractLsb'] at hbit
  exact hbit.trans (by cases r.poison <;> rfl)

theorem rxReq_requestFrame (hdata : r.data = leBytes 128 d.toNat) : rxReq (Claims.requestFrame h o r d) d = r := by
  obtain ⟨-, htag, hsect, hstack, haddr, hmask, hoperand, -, horig⟩ := requestBits_fields h o r
  rw [rxReq, poison_requestFrame, ← hdata, extractLsb'_requestFrame h o r d 28 9 (by omega), extractLsb'_requestFrame h o r d 37 3 (by omega),
    extractLsb'_requestFrame h o r d 40 12 (by omega), extractLsb'_requestFrame h o r d 52 37 (by omega),
    extractLsb'_requestFrame h o r d 89 16 (by omega), extractLsb'_requestFrame h o r d 105 32 (by omega),
    extractLsb'_requestFrame h o r d 138 12 (by omega), htag, hsect, hstack, haddr, hmask, hoperand, horig]

end

end Sys2Proof.Machine
end

section
/-! PROOF of O1, O2 and O3: requests on receipt (R102, R105, R109, R112, R117, R127, R129). -/

namespace Sys2Proof.Machine

/-! ### The memory requests -/

/-- The opcodes of the memory requests (R102). -/
def memoryOpcodes : List (BitVec 8) := [0x01, 0x02, 0x04, 0x05, 0x06, 0x10, 0x11, 0x12, 0x13, 0x14, 0x15, 0x16, 0x17, 0x18, 0x19]

/-- An opcode of a memory request is none of the others, and has the alignment of R105 that its kind gives. -/
theorem memoryOpcode_facts : ∀ o ∈ memoryOpcodes, kindOf o ≠ .unknown ∧ o ≠ 0x20 ∧ o ≠ 0x30 ∧ o ≠ 0x40 ∧ isRacc o = false ∧
    innerOk o = true ∧ (o = 0x06 → Claims.alignment o = 128) ∧
    Claims.alignment o = (if o = 0x01 || o = 0x04 then 64 else if isAtomic o then 8 else 128) := by decide

/-- The rows of the memory requests: each is the receipt of a request with its opcode, kind and direction. -/
theorem memoryRows_facts {p : PortId} {h : Hdr} {r : ReqF} {row : Instr × BitVec 8 × Kind × Bool} (hrow : row ∈ Claims.memoryRows p h r) :
    row.2.1 ∈ memoryOpcodes ∧ kindOf row.2.1 = row.2.2.1 ∧ (isWriteOp row.2.1 || isAtomic row.2.1) = row.2.2.2 ∧
      ∀ s, exec row.1 s = .next (rxRequest p.val h row.2.1 r s) := by
  simp only [Claims.memoryRows, List.mem_cons, List.not_mem_nil, or_false] at hrow
  rcases hrow with rfl | rfl | rfl | rfl | rfl | rfl | rfl | rfl | rfl | rfl | rfl | rfl | rfl | rfl | rfl <;>
  exact ⟨by dsimp only; decide, rfl, rfl, fun _ => rfl⟩

/-- A memory request writes where it is a write or an atomic (R121). -/
theorem writesMem_memory {o : BitVec 8} (ho : o ∈ memoryOpcodes) (r : ReqF) : writesMem o r = (isWriteOp o || isAtomic o) := by
  obtain ⟨-, -, -, hrelay, hracc, -⟩ := memoryOpcode_facts o ho
  simp only [writesMem, effOpc, if_neg hrelay, hracc, Bool.or_false]

/-- The field rules of R105 for a memory request. -/
theorem fieldError_memory {o : BitVec 8} {r : ReqF} (ho : o ∈ memoryOpcodes) (hf : Claims.FieldsOk o r) : fieldError o r = none := by
  obtain ⟨-, hfence, hbell, -, hracc, -, hmasked, halign⟩ := memoryOpcode_facts o ho
  obtain ⟨haddr, hmask, hpoison⟩ := hf
  unfold fieldError
  dsimp only
  rw [if_neg hfence, if_neg hbell, hracc, Bool.or_false]
  by_cases hm : o = 0x06
  · rw [hmasked hm] at haddr
    rw [if_pos hm] at hmask
    rw [if_pos (by simpa using hm), if_neg (by simpa using haddr), if_neg hmask]
    rfl
  · rw [if_neg hm] at hmask
    have hwrite : (r.poison && !isWriteOp o) = false := by
      cases hp : r.poison
      · rfl
      · have : isWriteOp o = true := by simpa [isWriteOp, or_assoc] using hpoison hp
        rw [this]; rfl
    rw [if_neg (by simpa using hm), ← halign, if_neg (by simpa using haddr), if_neg (by simpa using hmask), hwrite]
    rfl

/-- Settles O1: the request passes every check and is queued; and each field of its frame is read where it was put. -/
theorem memoryRequestQueued : Obligations.MemoryRequestQueued := by
  refine ⟨fun s p h r row hrow he ha hf => ?_, fun p h r d row hrow hdata => ?_⟩
  · obtain ⟨ho, hkind, hwrites, hexec⟩ := memoryRows_facts hrow
    obtain ⟨hknown, -, hbell, hrelay, -⟩ := memoryOpcode_facts _ ho
    have hchk : receiptError s (Claims.accepted (s.port p.val)) row.2.1 r = none :=
      receiptError_of_admissible ha hrelay (fun h => absurd h hbell) (fieldError_memory ho hf)
    rw [hexec, rxRequest_of_recv he (recvRequest_queues ha.1 hknown hchk) rfl, hkind, writesMem_memory ho, hwrites]
  · dsimp only
    rw [lanesHeader_frameLane, lanesData_frameLane, frameCommand]
    simp only [crcGood_requestFrame, rxHdr_requestFrame, rxReq_requestFrame h _ r d hdata, opc_requestFrame]
    simp only [Claims.memoryRows, List.mem_cons, List.not_mem_nil, or_false] at hrow
    rcases hrow with rfl | rfl | rfl | rfl | rfl | rfl | rfl | rfl | rfl | rfl | rfl | rfl | rfl | rfl | rfl <;> rfl

/-! ### Relay frames -/

/-- The inner opcode given to a relay frame is its inner opcode (R127). -/
theorem iopc_withInner (o : BitVec 8) (r : ReqF) : iopc (Claims.withInner o r) = o := BitVec.extractLsb'_append_eq_right

/-- Each row is the receipt of a relay frame (R127). -/
theorem relayRows_facts {p : PortId} {h : Hdr} {r : ReqF} {row : Instr × ReqF} (hrow : row ∈ Claims.relayRows p h r) :
    (∀ s, exec row.1 s = .next (rxRequest p.val h 0x40 row.2 s)) ∧ row.2.tag = r.tag ∧ row.2.sect = r.sect ∧ row.2.stack = r.stack ∧
      row.2.orig = r.orig := by
  simp only [Claims.relayRows, List.mem_cons, List.not_mem_nil, or_false] at hrow
  rcases hrow with rfl | rfl | rfl | rfl | rfl <;> exact ⟨fun _ => rfl, rfl, rfl, rfl, rfl⟩

/-- The opcodes of remote accumulations (R102). -/
theorem raccOpcode_facts : ∀ o ∈ [0x50#8, 0x51, 0x52, 0x53], isRacc o = true ∧ innerOk o = true ∧ o ≠ 0x20 ∧ o ≠ 0x30 := by decide

/-- The field rules of R129 for the request in a relay frame. -/
theorem fieldError_inner {r : ReqF} (hi : Claims.InnerOk r) : innerOk (iopc r) = true ∧ fieldError (iopc r) r = none := by
  rcases hi with ⟨ho, hf⟩ | ⟨ho, haddr, hmask, hty⟩
  · obtain ⟨-, -, -, -, -, hinner, -⟩ := memoryOpcode_facts (iopc r) ho
    exact ⟨hinner, fieldError_memory ho hf⟩
  · obtain ⟨hracc, hinner, hfence, hbell⟩ := raccOpcode_facts (iopc r) ho
    refine ⟨hinner, ?_⟩
    change (r.operand.extractLsb' 26 3).toNat ≤ (if iopc r = 0x53 then 0 else 4) at hty
    have htype : (decide ((r.operand.extractLsb' 26 3).toNat > 4) || decide (iopc r = 0x53) && decide ((r.operand.extractLsb' 26 3).toNat ≠ 0)) =
        false := by
      split at hty <;> simp_all
    unfold fieldError
    dsimp only
    rw [if_neg hfence, if_neg hbell, hracc, Bool.or_true, if_pos rfl, if_neg (by simpa using haddr), if_neg hmask, if_pos rfl, htype]
    rfl

/-- Settles O2: the frame passes the checks of its port, of its inner request and of the relay. -/
theorem relayFrameQueued : Obligations.RelayFrameQueued := by
  intro s p h r row hrow he ha hi hme hstack horig hen htender
  obtain ⟨hexec, htag, hsect, hstk, horg⟩ := relayRows_facts hrow
  obtain ⟨hinner, hfield⟩ := fieldError_inner hi
  have hadm : Claims.Admissible (Claims.accepted (s.port p.val)) row.2 := by
    rw [Claims.Admissible, htag, hsect]; exact ha
  have hchk : receiptError s (Claims.accepted (s.port p.val)) 0x40 row.2 = none :=
    receiptError_relay hadm htender hinner hfield hme (by rw [hstk]; exact hstack) (by rw [horg]; exact horig) hen
  rw [hexec, rxRequest_of_recv he (recvRequest_queues hadm.1 (by decide) hchk) rfl]
  rfl

/-! ### Requests that are refused -/

/-- An opcode without a meaning on the down direction has no kind (R102). -/
theorem kindOf_reserved {o : BitVec 8} (h : downOpcode o = false) : kindOf o = .unknown := by
  revert o; decide

/-- Settles O3: the request fails its second or third check, and its answer leaves at once. -/
theorem refusedRequestAnswered : Obligations.RefusedRequestAnswered := by
  refine ⟨fun s p h o r he hsends hfree ho => ?_, fun s p h r row hrow he hsends hfree hfenced => ?_⟩
  · have hrecv := recvRequest_unknown (s := s) (p := p) (x := Claims.accepted (s.port p.val)) hfree (kindOf_reserved ho)
    rw [answerError_opened (x := Claims.accepted (s.port p.val)) hsends] at hrecv
    exact congrArg Host.Outcome.next (rxRequest_of_recv he hrecv rfl)
  · obtain ⟨ho, hkind, hwrites, hexec⟩ := memoryRows_facts hrow
    obtain ⟨hknown, -⟩ := memoryOpcode_facts _ ho
    have hrecv := recvRequest_refuses (s := s) (p := p) (x := Claims.accepted (s.port p.val)) hfree hknown
      (receiptError_fenced (r := r) (o := row.2.1) hfenced)
    rw [answerError_opened (x := Claims.accepted (s.port p.val)) hsends, hkind, writesMem_memory ho, hwrites] at hrecv
    rw [hexec, rxRequest_of_recv he hrecv rfl]
    rfl

end Sys2Proof.Machine
end

section
/-! PROOF of O7, O10 and O12: replay episodes, link frames of the down direction, and coalesced writes (R110, R114 to R116, R118, R130). -/

namespace Sys2Proof.Machine

/-! ### A transmitter with nothing waiting (R114) -/

/-- Where no frame waits, the pump only pays the acknowledgement that is owed. -/
theorem pumpFrames_of_unsent {x : Port} (h : x.rty.unsent = []) (tick : Nat) :
    x.pumpFrames tick = { x with rty := { x.rty with ackOwed := false } } := by
  simp [Port.pumpFrames, h, pumpList, Port.emitFrames]

/-- It sends nothing. -/
theorem pump_of_idles {x : Port} (h : Claims.Idles x) (tick : Nat) : x.pump tick = { x with rty := { x.rty with ackOwed := false } } := by
  obtain ⟨hframing, hnak, hunsent⟩ := h
  have hpay : x.payNak = x := if_neg (by simp [hnak])
  rw [Port.pump, if_pos hframing, hpay, pumpFrames_of_unsent hunsent]

/-- It sends the NAK that it is given. -/
theorem sendNak_of_idles {x : Port} (h : Claims.Idles x) (tick n : Nat) : x.sendNak tick n = Claims.nakSent n x := by
  obtain ⟨hframing, -, hunsent⟩ := h
  let y : Port := { x with rty := { x.rty with nakWait := true, naks := n, nakOwed := true } }
  let z : Port := Port.emitFrames [x.frameOf 0 (.nak x.rty.rxE)] { x with rty := { x.rty with nakWait := true, naks := n, nakOwed := false } }
  have hframing' : y.framing = true := hframing
  have hpay : y.payNak = z := if_pos rfl
  change y.pump tick = _
  rw [Port.pump, if_pos hframing', hpay, pumpFrames_of_unsent (x := z) hunsent]
  rfl

/-! ### Replay episodes (R114, R115) -/

/-- A replay episode from the oldest frame. -/
theorem replayFrom_zero (tick : Nat) (x : Port) : x.replayFrom tick 0 = Claims.resent tick x := by
  simp only [Port.replayFrom, List.drop_zero, List.take_zero, List.nil_append, List.map_map, List.flatMap_map]
  rfl

/-- A replay episode changes its port, and the Beacon unit takes a record (R118). -/
theorem replayEpisode_zero (s : State) (p : PortId) :
    ∃ b, replayEpisode p.val 0 s = { (Claims.withPort s p (Claims.resent s.day.tick (s.port p.val))) with bcn := b } := by
  have hrun : replayEpisode p.val 0 s = galFrame p.val .c1 (Claims.withPort s p (Claims.resent s.day.tick (s.port p.val))) := by
    rw [replayEpisode, modPort_eq_withPort, replayFrom_zero]
  exact ⟨_, hrun.trans (emit_frame _ _)⟩

/-- The end of a command that changed one port, which serves as before, and the Beacon unit. -/
theorem settle_withPort_bcn {s : State} {p : PortId} {x : Port} {b : Bcn} (h : Calm s) (hx : x.serves = (s.port p.val).serves) :
    settle s { (Claims.withPort s p x) with bcn := b } = { (Claims.withPort s p x) with bcn := b } :=
  settle_of_ports h rfl hx rfl rfl rfl

theorem modPort_withPort_bcn (s : State) (p : PortId) (x : Port) (b : Bcn) (f : Port → Port) :
    State.modPort { (Claims.withPort s p x) with bcn := b } p.val f = { (Claims.withPort s p (f x)) with bcn := b } :=
  congrArg (fun (u : State) => { u with bcn := b }) (modPort_withPort s p x f)

/-- A NAK whose ACK and whose E cover no further frame: what the replay buffer holds is resent (R114). -/
theorem rxNak_of_covered {s : State} {p : PortId} {a e : Fseq} (hrx : receiving (s.port p.val) = true)
    (hack : ackCovers (s.port p.val).rty a = some 0) (hnak : ackCovers (s.port p.val).rty (e - 1) = some 0) :
    let u := Claims.withPort s p (Claims.heard (s.port p.val))
    rxNak p.val a e s = pumpPort p.val (if (s.port p.val).rty.replay.isEmpty then u else replayEpisode p.val 0 u) := by
  intro u
  have hrty : (u.port p.val).rty = (s.port p.val).rty := by rw [port_withPort_same]; rfl
  have hfree : ackFrames p.val 0 u = u := by simp [ackFrames]
  unfold rxNak
  dsimp only
  rw [if_neg (by simp [hrx]), show countDown p.val s = u from rfl, hrty, hack]
  dsimp only
  rw [hfree, hrty, hnak]
  dsimp only
  rw [hfree, hrty]

/-- Settles O7: a NAK and a timeout begin the episode of the whole replay buffer, and the own NAK goes out once more. -/
theorem replayEpisodeResends : Obligations.ReplayEpisodeResends := by
  refine ⟨fun s p a e hcalm hrx hidle hreplay ha he => ?_, fun s p a e hcalm hrx hreplay hunsent hnak ha he => ?_,
    fun s p hcalm hactive hreplay hepi => ?_, fun s p hcalm hrx hidle hwait hnaks => ?_⟩
  · let x := Claims.resent s.day.tick (Claims.heard (s.port p.val))
    obtain ⟨b, hb⟩ := replayEpisode_zero (Claims.withPort s p (Claims.heard (s.port p.val))) p
    rw [port_withPort_same, withPort_withPort] at hb
    have hx : Claims.Idles x := hidle
    have hrun : rxNak p.val a e s = { (Claims.withPort s p { x with rty := { x.rty with ackOwed := false } }) with bcn := b } := by
      rw [rxNak_of_covered hrx ha he, if_neg (by simpa using hreplay), hb, pumpPort, modPort_withPort_bcn]
      exact congrArg (fun y => { (Claims.withPort s p y) with bcn := b }) (pump_of_idles hx _)
    exact ⟨_, congrArg Host.Outcome.next ((congrArg (settle s) hrun).trans (settle_withPort_bcn hcalm rfl)), rfl⟩
  · let x := Claims.heard (s.port p.val)
    have hpump : x.pump s.day.tick = { x with rty := { x.rty with ackOwed := if x.framing then false else x.rty.ackOwed } } := by
      cases hf : x.framing
      · exact if_neg (by simp [hf])
      · exact pump_of_idles ⟨hf, hnak, hunsent⟩ _
    have hrun : rxNak p.val a e s = Claims.withPort s p (x.pump s.day.tick) := by
      rw [rxNak_of_covered hrx ha he, if_pos (by simp [hreplay]), pumpPort, modPort_withPort]
      rfl
    rw [hpump] at hrun
    exact congrArg Host.Outcome.next ((congrArg (settle s) hrun).trans (settle_withPort hcalm rfl))
  · let x := s.port p.val
    obtain ⟨b, hb⟩ := replayEpisode_zero (s.modPort p.val (fun x => { x with rty := { x.rty with episodes := x.rty.episodes + 1 } })) p
    rw [modPort_eq_withPort, port_withPort_same, withPort_withPort] at hb
    have hrun : replayTimeout p.val s = { (Claims.withPort s p (Claims.resent s.day.tick
        { x with rty := { x.rty with episodes := x.rty.episodes + 1 } })) with bcn := b } := by
      unfold replayTimeout
      dsimp only
      rw [if_neg (by simpa [hactive] using hreplay), if_pos hepi]
      exact hb
    exact ⟨_, congrArg Host.Outcome.next ((congrArg (settle s) hrun).trans (settle_withPort_bcn hcalm rfl)), rfl⟩
  · have hrun : nakResend p.val s = Claims.withPort s p (Claims.nakSent ((s.port p.val).rty.naks + 1) (s.port p.val)) := by
      unfold nakResend
      dsimp only
      rw [if_neg (by simp [hrx, hwait]), if_pos hnaks, modPort_eq_withPort, sendNak_of_idles hidle]
    exact congrArg Host.Outcome.next ((congrArg (settle s) hrun).trans (settle_withPort hcalm rfl))

/-! ### Link frames of the down direction (R116, R130) -/

/-- Settles O10: each frame is accepted, and what it carries changes its port only. -/
theorem linkFramesAct : Obligations.LinkFramesAct := by
  refine ⟨fun s p h n he => ?_, fun s p h unfence he => ?_⟩
  · have hrun : rxSeq p.val h 0xE3 0 (rxRlyCredit p.val n.toNat) s = _ := (rxSeq_of_expected he _ _ _).trans (modPort_withPort _ _ _ _)
    exact congrArg Host.Outcome.next ((congrArg (settle s) hrun).trans (settle_withPort he.1 rfl))
  · have hrun := (rxSeq_of_expected he (if unfence then 0xE2 else 0xE1) 0
      (fun s => s.modPort p.val (fun x => { x with fr := { x.fr with fevt := x.fr.fevt.raise 3 } }))).trans (modPort_withPort _ _ _ _)
    exact congrArg Host.Outcome.next ((congrArg (settle s) hrun).trans (settle_withPort he.1 rfl))

/-! ### Coalesced writes (R110) -/

/-- Up to eight held write tags with one status and DETAIL leave together, and none stays. -/
theorem coalesce_of_same {x : Port} {c : Coal} {cs : List Coal} (hcoal : x.rty.coal = c :: cs) (hlen : cs.length < 8)
    (hsame : ∀ d ∈ cs, d.status = c.status ∧ d.detail = c.detail) (me : StackId) (tick : Nat) :
    x.coalesce me tick = { x with rty := { x.rty with coal := [] } }.send tick
      (.rsp 0x84 c.tag c.sect me 0 c.status c.detail (cs.map Coal.tag) []) := by
  have hgroup : ((c :: cs).filter (fun d => d.status = c.status ∧ d.detail = c.detail)).take 8 = c :: cs := by
    rw [List.filter_eq_self.2 (by simpa using hsame)]
    exact List.take_of_length_le (by simpa using hlen)
  have hrest : (c :: cs).filter (fun d => !((c :: cs).contains d)) = [] := by
    rw [List.filter_eq_nil_iff]
    intro d hd
    simp only [List.contains_iff_mem.2 hd, Bool.not_true, Bool.false_eq_true, not_false_eq_true]
  unfold Port.coalesce
  rw [hcoal]
  dsimp only
  rw [hgroup, hrest]
  rfl

/-- Settles O12: the held tags are one group, and a transmitter that sends at once sends its frame. -/
theorem coalescedWritesReported : Obligations.CoalescedWritesReported := by
  intro s p c cs hsends hcoal hlen hsame
  have hexec : exec (.wrDoneCoalesceTimeout p) s = .next (s.modPort p.val (fun x => x.coalesce s.stackId s.day.tick)) := rfl
  rw [hexec, modPort_eq_withPort, coalesce_of_same hcoal hlen hsame]
  exact congrArg (fun x => Host.Outcome.next (Claims.withPort s p x))
    (send_of_sends (x := { s.port p.val with rty := { (s.port p.val).rty with coal := [] } }) hsends _ (by simp))

end Sys2Proof.Machine
end

section
/-! PROOF of O9 and O11: frames that fail their CRC or their FSEQ check (R113, R114, R118, R356 to R358). -/

namespace Sys2Proof.Machine

/-! ### The report of a CRC failure (R118, R356) -/

/-- The event of a CRC failure: class C1, source 0, no cause of lightship mode (R356). -/
abbrev CrcEvent (e : FaultEv) : Prop := e.cls = .c1 ∧ e.src = 0 ∧ e.lsCause = 0

/-- The state in which port `p` is `x`, the Beacon unit `b`, and the event `e` on the line to the collector. -/
def reported (s : State) (p : PortId) (x : Port) (b : Bcn) (e : FaultEv) : State :=
  { (Claims.withPort s p x) with bcn := b, flt := { s.flt with line := s.flt.line ++ [e] } }

theorem port_reported (s : State) (p : PortId) (x : Port) (b : Bcn) (e : FaultEv) : (reported s p x b e).port p.val = x :=
  port_withPort_same s p x

theorem modPort_reported (s : State) (p : PortId) (x : Port) (b : Bcn) (e : FaultEv) (f : Port → Port) :
    (reported s p x b e).modPort p.val f = reported s p (f x) b e :=
  congrArg (fun u : State => { u with bcn := b, flt := { s.flt with line := s.flt.line ++ [e] } }) (modPort_withPort s p x f)

theorem reported_withPort (s : State) (p : PortId) (x y : Port) (b : Bcn) (e : FaultEv) :
    reported (Claims.withPort s p x) p y b e = reported s p y b e :=
  congrArg (fun u : State => { u with bcn := b, flt := { s.flt with line := s.flt.line ++ [e] } }) (withPort_withPort s p x y)

/-- A CRC failure counts on its port, gives the Beacon unit a record and raises its event. -/
theorem reportCrc_eq (s : State) (p : PortId) (inj : Bool) :
    ∃ b e, CrcEvent e ∧ reportCrc p.val inj s = reported s p (Claims.crcCounted (s.port p.val)) b e := by
  let u := Claims.withPort s p (Claims.crcCounted (s.port p.val))
  have hrun : reportCrc p.val inj s = raiseInj 0 p.val .c1 (payloadSoon u (.galFrame p.val)) inj (galFrame p.val .c1 u) := rfl
  rw [galFrame, emit_frame] at hrun
  exact ⟨_, _, ⟨rfl, rfl, rfl⟩, hrun⟩

/-- The collector counts the event and sets its bit; it captures nothing and pulses no pin (R357, R358). -/
theorem collectOne_crc {s : State} {e : FaultEv} (he : CrcEvent e) : collectOne e s = { s with flt := Claims.crcEvent s.flt } := by
  obtain ⟨hcls, hsrc, hls⟩ := he
  have hown : ownRecord 0 = true := by decide
  simp [collectOne, hcls, hsrc, hls, hown, State.modFlt, Claims.crcEvent, Cls.rank]

/-- The end of a command that has reported a CRC failure. -/
theorem settle_reported {s : State} {p : PortId} (x : Port) (b : Bcn) {e : FaultEv} (h : Calm s) (he : CrcEvent e) :
    ∃ b', settle s (reported s p x b e) = { (Claims.withPort s p x) with bcn := b', flt := Claims.crcEvent s.flt } := by
  obtain ⟨hline, hctl⟩ := h
  have hone : (reported s p x b e).flt.line = [e] := by
    rw [show (reported s p x b e).flt.line = s.flt.line ++ [e] from rfl, hline]; rfl
  have hquiet : Quiet e := ⟨by simp [he.1], he.2.2⟩
  have hcollect : collect (reported s p x b e) = { (Claims.withPort s p x) with bcn := b, flt := Claims.crcEvent s.flt } := by
    rw [collect_single hone hquiet hctl, collectOne_crc he]
    simp only [reported, State.modFlt, Claims.crcEvent, hline]
  rw [settle_eq s _ (by rw [hcollect]; rfl), hcollect, readyRecords_frame]
  exact ⟨_, rfl⟩

/-- Settles O9: the failure is reported, and in NORMAL the NAK leaves at once. -/
theorem crcFailureNaks : Obligations.CrcFailureNaks := by
  intro s p hcalm hrx hidle
  let x : Port := (s.port p.val).descramble
  obtain ⟨b, e, he, hreport⟩ := reportCrc_eq (Claims.withPort s p x) p false
  rw [port_withPort_same, reported_withPort] at hreport
  have hrun : crcFail p.val false s = reported s p
      (if (s.port p.val).rty.nakWait then Claims.crcCounted x else Claims.nakSent 1 (Claims.crcCounted x)) b e := by
    unfold crcFail
    dsimp only
    rw [modPort_eq_withPort, hreport, port_reported, show (Claims.crcCounted x).rty.nakWait = (s.port p.val).rty.nakWait from rfl]
    split
    · rfl
    · rw [enterNak, modPort_reported, sendNak_of_idles (x := Claims.crcCounted x) hidle]
  obtain ⟨b', hsettle⟩ := settle_reported (p := p)
    (if (s.port p.val).rty.nakWait then Claims.crcCounted x else Claims.nakSent 1 (Claims.crcCounted x)) b hcalm he
  rw [← hrun] at hsettle
  have hexec : exec (.frameCrcFailure p) s = .next (settle s (crcFail p.val false s)) :=
    congrArg (fun t => Host.Outcome.next (settle s t)) (if_pos hrx)
  rw [hexec, hsettle]
  exact ⟨_, rfl, rfl⟩

/-! ### A frame that is not the expected one (R113, R114) -/

section
variable {s : State} {p : PortId} {h : Hdr}

/-- Its ACK covers nothing, and its FSEQ is not E: whatever it carries does not act. -/
theorem rxSeq_of_unexpected (hrx : receiving (s.port p.val) = true) (hinj : injArmed s 2 p.val = none)
    (hack : ackCovers (s.port p.val).rty h.ack = some 0) (hseq : h.fseq ≠ (s.port p.val).rty.rxE) (opc : BitVec 8) (tag : Tag)
    (act : State → State) :
    let u := Claims.withPort s p (Claims.heard (s.port p.val))
    rxSeq p.val h opc tag act s =
      if (s.port p.val).rty.nakWait then u
      else if ((s.port p.val).rty.rxE - h.fseq).toNat ≤ 256 then u
      else enterNak p.val (reportCrc p.val false u) := by
  intro u
  have hrty : (u.port p.val).rty = (s.port p.val).rty := by rw [port_withPort_same]; rfl
  have huse : useAck p.val h.ack opc tag u = (u, true) := by
    unfold useAck
    rw [hrty, hack]
    rfl
  unfold rxSeq
  dsimp only
  rw [if_neg (by simp [hrx]), if_neg (by simp [hinj]), show countDown p.val s = u from rfl, huse, if_neg (by simp), hrty, if_neg hseq]

/-- A duplicate, or a frame in NAK_WAIT, is heard and discarded. -/
theorem rxSeq_discards (hrx : receiving (s.port p.val) = true) (hinj : injArmed s 2 p.val = none)
    (hack : ackCovers (s.port p.val).rty h.ack = some 0) (hseq : h.fseq ≠ (s.port p.val).rty.rxE)
    (hold : (s.port p.val).rty.nakWait = true ∨ ((s.port p.val).rty.rxE - h.fseq).toNat ≤ 256) (opc : BitVec 8) (tag : Tag)
    (act : State → State) : rxSeq p.val h opc tag act s = Claims.withPort s p (Claims.heard (s.port p.val)) := by
  rw [rxSeq_of_unexpected hrx hinj hack hseq]
  rcases hold with hwait | hdup
  · exact if_pos hwait
  · rw [if_pos hdup, ite_self]

/-- A gap in NORMAL is reported as a CRC failure is, and answered with NAK (E). -/
theorem rxSeq_gap (hrx : receiving (s.port p.val) = true) (hinj : injArmed s 2 p.val = none)
    (hack : ackCovers (s.port p.val).rty h.ack = some 0) (hseq : h.fseq ≠ (s.port p.val).rty.rxE)
    (hnormal : (s.port p.val).rty.nakWait = false) (hgap : 256 < ((s.port p.val).rty.rxE - h.fseq).toNat)
    (hidle : Claims.Idles (s.port p.val)) :
    ∃ b e, CrcEvent e ∧ ∀ opc tag act, rxSeq p.val h opc tag act s =
      reported s p (Claims.nakSent 1 (Claims.crcCounted (Claims.heard (s.port p.val)))) b e := by
  obtain ⟨b, e, he, hreport⟩ := reportCrc_eq (Claims.withPort s p (Claims.heard (s.port p.val))) p false
  rw [port_withPort_same, reported_withPort] at hreport
  refine ⟨b, e, he, fun opc tag act => ?_⟩
  rw [rxSeq_of_unexpected hrx hinj hack hseq, if_neg (by simp [hnormal]), if_neg (Nat.not_le.2 hgap), hreport, enterNak, modPort_reported,
    sendNak_of_idles (x := Claims.crcCounted (Claims.heard (s.port p.val))) hidle]

end

/-- The commands whose request may be committed as it arrives: FENCE and the doorbells (R120, R121). -/
def Instr.commitsOwn : Instr → Bool
  | .fence .. | .start .. | .resume .. | .abort .. | .doorbellUndefinedCommand .. => true
  | _ => false

/-- A frame with an FSEQ is received (R113, R114). -/
theorem exec_of_headerOf {i : Instr} {p : PortId} {h : Hdr} (hi : Claims.headerOf i = some (p, h)) (hc : Instr.commitsOwn i = false) :
    ∃ opc tag act, ∀ s, exec i s = .next (settle s (rxSeq p.val h opc tag act s)) := by
  unfold Claims.headerOf at hi
  split at hi <;> cases hi <;> cases hc <;> exact ⟨_, _, _, fun _ => rfl⟩

/-- The frame of a FENCE or a doorbell is received, and then the head of its class queue may be committed (R120, R121). -/
theorem exec_of_commitsOwn {i : Instr} {p : PortId} {h : Hdr} (hi : Claims.headerOf i = some (p, h)) (hc : Instr.commitsOwn i = true) :
    ∃ opc tag act c t, ∀ s, exec i s = .next (settle s (commitOwn p.val c t (settle s (rxSeq p.val h opc tag act s)))) := by
  unfold Claims.headerOf at hi
  split at hi <;> cases hi <;> cases hc <;> exact ⟨_, _, _, _, _, fun _ => rfl⟩

/-- Where no request waits, none is committed. -/
theorem commitOwn_of_empty {s : State} {p c : Nat} (h : tget [] (s.port p).fr.cq c = []) (t : Nat) : commitOwn p c t s = s := by
  unfold commitOwn
  rw [h]

/-- The same command in each of its two forms, where the receipt leaves the class queues empty and ends as `t`. -/
theorem exec_of_header {i : Instr} {s t : State} {p : PortId} {h : Hdr} (hi : Claims.headerOf i = some (p, h))
    (hrx : ∀ opc tag act, settle s (rxSeq p.val h opc tag act s) = t) (hcq : ∀ c, tget [] (t.port p.val).fr.cq c = [])
    (hend : settle s t = t) : exec i s = .next t := by
  cases hc : Instr.commitsOwn i
  · obtain ⟨opc, tag, act, hexec⟩ := exec_of_headerOf hi hc
    rw [hexec, hrx]
  · obtain ⟨opc, tag, act, c, g, hexec⟩ := exec_of_commitsOwn hi hc
    rw [hexec, hrx, commitOwn_of_empty (hcq c), hend]

/-- Settles O11: the frame is heard and does not act; a gap is reported, and its event has been taken when the command ends. -/
theorem unexpectedFrameNotAccepted : Obligations.UnexpectedFrameNotAccepted := by
  intro s p h i hi hcalm hrx hinj hack hseq hcq
  refine ⟨fun hold => ?_, fun hnormal hgap hidle => ?_⟩
  · have hend : settle s (Claims.withPort s p (Claims.heard (s.port p.val))) = Claims.withPort s p (Claims.heard (s.port p.val)) :=
      settle_withPort hcalm rfl
    refine exec_of_header hi (fun opc tag act => ?_) (fun c => ?_) hend
    · rw [rxSeq_discards hrx hinj hack hseq hold, hend]
    · rw [port_withPort_same]; exact hcq c
  · obtain ⟨b, e, he, hrun⟩ := rxSeq_gap hrx hinj hack hseq hnormal hgap hidle
    let x := Claims.nakSent 1 (Claims.crcCounted (Claims.heard (s.port p.val)))
    obtain ⟨b', hsettle⟩ := settle_reported (p := p) x b hcalm he
    let t : State := { (Claims.withPort s p x) with bcn := b', flt := Claims.crcEvent s.flt }
    have hport (q : Nat) : t.port q = if q = p.val then x else s.port q := port_withPort s p x q
    have hend : settle s t = t := by
      refine settle_of_serves (s := t) hcalm rfl fun q => ?_
      rw [hport]
      split
      next hq => rw [hq]; rfl
      next => rfl
    refine ⟨t, exec_of_header hi (fun opc tag act => by rw [hrun]; exact hsettle) (fun c => ?_) hend, rfl⟩
    rw [hport, if_pos rfl]
    exact hcq c

end Sys2Proof.Machine
end

section
/-! PROOF of O16, O17 and O18: a RELAY is sent, answered, or times out (R127 to R132, R236, R262, R271). -/

namespace Sys2Proof.Machine

/-! ### The send of a RELAY (R130) -/

theorem relayBody_ne_idle (me : StackId) (g : Nat) (r : Res) (e : El) : Claims.relayBody me g r e ≠ .idle := by
  unfold Claims.relayBody
  exact nofun

/-- The RELAY that waits goes out on the port whose turn it is. -/
theorem relaySend_sends {s : State} {p : PortId} {k : Nat} {r : Res} {e : El} {g : Nat} (hturn : relayPort s = some p.val)
    (hsends : Claims.Sends (s.port p.val)) (hg : (s.port p.val).rly.freeRtag = some g)
    (hq : (relayQueue s).find? (fun q => outstanding s q.1 < 2048 && !relayHeld s q.2.1.stream q.2.2.stack (innerOf q.2.2)) =
      some (k, r, e)) :
    let q := innerOf e
    let x := s.port p.val
    let y := { x with rly := { x.rly with
      credit := x.rly.credit - 1
      rtags := tset x.rly.rtags g { st := .outstanding, stack := BitVec.ofNat 12 e.stack, stream := r.stream, elems := [e.i]
                                    sent := s.day.tick, iopc := q.iopc, addr := BitVec.ofNat 37 q.addr, mask := q.mask } } }
    relaySend p.val s = { ((modRes k r.stream (fun z => { z with run := z.run.map (Run.put { e with st := .relayed }) })
      (Claims.withPort s p (Claims.sent s.day.tick (Claims.relayBody s.stackId g r e) y))).modTclu k
        (fun u => { u with relay := u.relay + 1 })) with rlyTurn := p.val } := by
  intro q x y
  have hsent : y.send s.day.tick (Claims.relayBody s.stackId g r e) = Claims.sent s.day.tick (Claims.relayBody s.stackId g r e) y :=
    send_of_sends (x := y) hsends _ (relayBody_ne_idle _ _ _ _)
  unfold relaySend
  rw [if_neg (by simp [hturn]), hq]
  dsimp only
  rw [hg]
  dsimp only
  rw [modPort_eq_withPort, ← hsent, Claims.relayBody]
  dsimp only [q, y, x]
  generalize innerOf e = q
  generalize e.acc = a
  cases a with
  | acc va op ty d => cases ty <;> rfl
  | _ => rfl

/-- Settles O16: the frame leaves at once, and no port serves otherwise than before. -/
theorem relayIsSent : Obligations.RelayIsSent := by
  intro s p k r e g hcalm hturn hsends hg hq
  have hexec : exec (.relay p) s = .next (settle s (relaySend p.val s)) := rfl
  rw [hexec, relaySend_sends hturn hsends hg hq]
  exact congrArg Host.Outcome.next (settle_of_ports hcalm rfl rfl rfl rfl rfl)

/-- The end of a command that changed one port, which serves as before, and the Tender streams. -/
theorem settle_withPort_tnd {s u : State} {p : PortId} {x : Port} (h : Calm s) (hu : u = { (Claims.withPort s p x) with tnd := u.tnd })
    (hx : x.serves = (s.port p.val).serves) : settle s u = u := by
  generalize u.tnd = v at hu
  subst hu
  exact settle_of_ports h rfl hx rfl rfl rfl

/-! ### The end of a RELAY's time (R132) -/

/-- The port on which the RELAY of RTAG `t` has timed out. -/
def Port.timedOut (t : Nat) (x : Port) : Port :=
  { x with
    rly := { x.rly with rtags := tset x.rly.rtags t { x.rly.rtag t with st := .zombie }, cntTmo := satInc x.rly.cntTmo }
    fr := { x.fr with fevt := x.fr.fevt.raise 6 } }

section
variable {s : State} {p : PortId} {t : Nat}

/-- A RELAY within its time, and an RTAG that is not outstanding, do not time out. -/
theorem relayTimeout_waits
    (h : ((s.port p.val).rly.rtag t).st ≠ .outstanding ∨ s.day.tick ≤ ((s.port p.val).rly.rtag t).sent + (s.port p.val).rly.tmoEff) :
    relayTimeout p.val t s = s := if_pos h

/-- The element of an RTAG is that of the streams, whatever the ports hold. -/
theorem relayEl_withPort (x : Port) (g : RTag) : relayEl (Claims.withPort s p x) g = relayEl s g := rfl

/-- A RELAY that times out: its RTAG is a zombie, and the stream that still has its element stops. -/
theorem relayTimeout_acts (hst : ((s.port p.val).rly.rtag t).st = .outstanding)
    (hlate : ((s.port p.val).rly.rtag t).sent + (s.port p.val).rly.tmoEff < s.day.tick) :
    let g := (s.port p.val).rly.rtag t
    let u := Claims.withPort s p ((s.port p.val).timedOut t)
    (relayEl s g = none → relayTimeout p.val t s = u) ∧
    ∀ k r e, relayEl s g = some (k, r, e) →
      ∃ doubt detail, relayTimeout p.val t s = relayFail k g.stream (Desc.of r.ctx.dcopy) e doubt cRELAYTMO detail u := by
  intro g u
  have hnot : ¬(g.st ≠ .outstanding ∨ s.day.tick ≤ g.sent + (s.port p.val).rly.tmoEff) := by
    rintro (h | h)
    · exact h hst
    · exact absurd hlate (Nat.not_lt.2 h)
  have hport : s.modPort p.val (fun x => { (x.modRly (fun y => { (y.modRtag t (fun g => { g with st := .zombie })) with
      cntTmo := satInc y.cntTmo })) with fr := { x.fr with fevt := x.fr.fevt.raise 6 } }) = u := rfl
  refine ⟨fun hnone => ?_, fun k r e hsome => ?_⟩
  · unfold relayTimeout
    dsimp only
    rw [if_neg hnot, hport, relayEl_withPort, hnone]
  · refine ⟨doubtful g, BitVec.ofNat 64 (e.i % 2 ^ 32 + g.stack.toNat * 2 ^ 32 +
      (if e.i ≥ (Desc.of r.ctx.dcopy).count then 1 else 0) * 2 ^ 44), ?_⟩
    unfold relayTimeout
    dsimp only
    rw [if_neg hnot, hport, relayEl_withPort, hsome]

end

/-! ### The element of a RELAY that failed (R262, R265, R271) -/

/-- A resident stream stands in its cluster's cache. -/
theorem mem_of_resident {s : State} {n k : Nat} {r : Res} (h : resident s n = some (k, r)) : r ∈ (s.tclu k).res ∧ r.stream = n := by
  obtain ⟨t, -, ht⟩ := List.exists_of_findSome?_eq_some h
  obtain ⟨x, hx, hkr⟩ := Option.map_eq_some_iff.1 ht
  cases hkr
  exact ⟨List.mem_of_find?_eq_some hx, by simpa using List.find?_some hx⟩

/-- The entry of a stream whose element `i` failed: it is stopping and has the element no more. -/
theorem failed_facts (i cause : Nat) (detail : BitVec 64) (r : Res) :
    (Res.failed i cause detail r).stream = r.stream ∧ (Res.failed i cause detail r).ctx.state = sSTOPPING ∧
      ∀ v, (Res.failed i cause detail r).run = some v → ∀ f ∈ v.els, f.i ≠ i := by
  refine ⟨rfl, rfl, fun v hv f hf => ?_⟩
  simp only [Res.failed, Res.stopping, Option.map_map, Option.map_eq_some_iff] at hv
  obtain ⟨u, -, rfl⟩ := hv
  have := (List.mem_filter.1 (List.mem_of_mem_filter hf)).2
  simpa using this

/-- The failed element of a resident stream: in doubt or not, its stream stops without it, and only the Tender streams change. -/
theorem relayFail_facts {s : State} {n k : Nat} {r : Res} {e : El} (d : Desc) (doubt : Bool) (cause : Nat) (detail : BitVec 64)
    (hr : resident s n = some (k, r)) :
    let t := relayFail k n d e doubt cause detail s
    t = { s with tnd := t.tnd } ∧
      ∃ z ∈ (t.tclu k).res, z.stream = n ∧ z.ctx.state = sSTOPPING ∧ ∀ v, z.run = some v → ∀ f ∈ v.els, f.i ≠ e.i := by
  have hfail (u : State) (x : Res) (hx : resident u n = some (k, x)) :
      elFail k n e cause detail u = { u with tnd := (elFail k n e cause detail u).tnd } ∧
        ∃ z ∈ ((elFail k n e cause detail u).tclu k).res, z.stream = n ∧ z.ctx.state = sSTOPPING ∧
          ∀ v, z.run = some v → ∀ f ∈ v.els, f.i ≠ e.i := by
    obtain ⟨hmem, hstream⟩ := mem_of_resident (resident_modRes hx
      (f := fun r => Res.failed e.i cause detail { r with run := r.run.map (Run.drop e.i) }) fun _ => rfl)
    obtain ⟨-, hstate, hels⟩ := failed_facts e.i cause detail { x with run := x.run.map (Run.drop e.i) }
    exact ⟨rfl, _, hmem, hstream, hstate, hels⟩
  unfold relayFail
  dsimp only
  split
  · obtain ⟨hframe, hrest⟩ := hfail _ _ (resident_modRes hr
      (f := fun r => { r with dirty := true, ctx := r.ctx.inDoubt e.i }) fun _ => rfl)
    exact ⟨hframe, hrest⟩
  · exact hfail s r hr

/-- The element that an RTAG names is that of a resident stream. -/
theorem resident_of_relayEl {s : State} {g : RTag} {k : Nat} {r : Res} {e : El} (h : relayEl s g = some (k, r, e)) :
    resident s g.stream = some (k, r) := by
  unfold relayEl at h
  split at h
  next t x hx =>
    obtain ⟨f, -, hf⟩ := Option.map_eq_some_iff.1 h
    cases hf
    exact hx
  next => cases h

/-- Settles O18: the RTAG is a zombie, and the stream that still has the element stops without it. -/
theorem relayTimesOut : Obligations.RelayTimesOut := by
  intro s p t g hcalm hst hlate
  obtain ⟨hgone, hhere⟩ := relayTimeout_acts hst hlate
  have hexec : exec (.relayTimeout p t) s = .next (settle s (relayTimeout p.val t.toNat s)) := rfl
  have hend (u : State) (hu : u = { (Claims.withPort s p ((s.port p.val).timedOut t.toNat)) with tnd := u.tnd }) : settle s u = u :=
    settle_withPort_tnd hcalm hu rfl
  rw [hexec]
  cases hel : relayEl s g with
  | none =>
    rw [hgone hel, hend _ rfl]
    exact ⟨_, rfl, rfl, fun _ => rfl, fun _ _ _ h => nomatch h⟩
  | some y =>
    obtain ⟨k, r, e⟩ := y
    obtain ⟨doubt, detail, hrun⟩ := hhere k r e hel
    obtain ⟨hframe, hstops⟩ := relayFail_facts (s := Claims.withPort s p ((s.port p.val).timedOut t.toNat)) (e := e) (Desc.of r.ctx.dcopy)
      doubt cRELAYTMO detail (resident_of_relayEl hel)
    rw [hrun, hend _ hframe]
    refine ⟨_, rfl, hframe, (fun h => nomatch h), fun k' r' e' h => ?_⟩
    cases h
    exact hstops

/-! ### The response (R130, R132, R236) -/

/-- The port whose RTAG `t` is free (R130). -/
def Port.rtagFreed (t : Nat) (x : Port) : Port := { x with rly := { x.rly with rtags := tset x.rly.rtags t {} } }

section
variable {s : State} {p : PortId} {r : RspF} {x : Port}

/-- A response that matches its outstanding RTAG frees it and has its outcome (R132). -/
theorem rxRelayRsp_matches (hst : (x.rly.rtag r.tag.toNat).st = .outstanding)
    (htime : s.day.tick ≤ (x.rly.rtag r.tag.toNat).sent + x.rly.tmoEff) (horig : r.orig = s.stackId)
    (hstack : r.stack = (x.rly.rtag r.tag.toNat).stack) :
    rxRelayRsp p.val r (Claims.withPort s p x) =
      relayOutcome (x.rly.rtag r.tag.toNat) r.status.toNat r.detail.toNat r.data (Claims.withPort s p (x.rtagFreed r.tag.toNat)) := by
  have hwait : relayTimeout p.val r.tag.toNat (Claims.withPort s p x) = Claims.withPort s p x :=
    relayTimeout_waits (.inr (by rw [port_withPort_same]; exact htime))
  unfold rxRelayRsp
  dsimp only
  rw [hwait, port_withPort_same, if_pos ⟨hst, horig, hstack⟩, modPort_withPort]
  rfl

/-- A response whose RTAG is not outstanding once its time has been looked at is a stray one, and frees a zombie (R132). -/
theorem rxRelayRsp_strays {y : Port} (hlook : relayTimeout p.val r.tag.toNat (Claims.withPort s p x) = Claims.withPort s p y)
    (hst : (y.rly.rtag r.tag.toNat).st ≠ .outstanding) :
    rxRelayRsp p.val r (Claims.withPort s p x) = Claims.withPort s p { y with
      rly := if (y.rly.rtag r.tag.toNat).st = .zombie then { y.rly with rtags := tset y.rly.rtags r.tag.toNat {} } else y.rly
      fr := { y.fr with fevt := y.fr.fevt.raise 7 } } := by
  unfold rxRelayRsp
  dsimp only
  rw [hlook, port_withPort_same, if_neg fun h => hst h.1, modPort_withPort]
  rfl

end

/-- A write at another stack that went well ends the access of its element (R236). -/
theorem relayOutcome_written {s : State} {g : RTag} {k : Nat} {z : Res} {e : El} (hel : relayEl s g = some (k, z, e))
    (hopc : g.iopc = 0x06) (hcount : e.i < (Desc.of z.ctx.dcopy).count) (hph : e.ph = .dst) (detail : Nat) (data : List (BitVec 8)) :
    relayOutcome g 0 detail data s = elApplied k g.stream e false 0 s := by
  have hdone : elDone k g.stream (Desc.of z.ctx.dcopy) e [] 0 s = elApplied k g.stream e false 0 s := by
    cases e
    subst hph
    simp [elDone, Nat.not_le.2 hcount]
  unfold relayOutcome
  rw [hel, ← hdone]
  simp [hopc, stOK]

/-- An element applied changes the Tender streams only (R215). -/
theorem elApplied_frame (k n : Nat) (e : El) (skip : Bool) (flags : BitVec 6) (s : State) :
    elApplied k n e skip flags s = { s with tnd := (elApplied k n e skip flags s).tnd } := by
  unfold elApplied
  split
  · rfl
  · dsimp only
    split <;> rfl

/-- Settles O17: the RELAY's time is looked at first; then the response is the answer of its RTAG, or a stray one. -/
theorem relayResponseFreesItsTag : Obligations.RelayResponseFreesItsTag := by
  have hexec (s : State) (p : PortId) (h : Hdr) (r : RspF) (he : Claims.Expected s p h) : exec (.relayRsp p h r) s =
      .next (settle s (rxRelayRsp p.val r (Claims.withPort s p (Claims.accepted (s.port p.val))))) :=
    congrArg (fun t => Host.Outcome.next (settle s t)) (rxSeq_of_expected he _ _ _)
  refine ⟨fun s p h r k z e => ?_, fun s p h r => ?_, fun s p h r => ?_⟩
  · intro g he hst htime horig hstack hstatus hopc hel hcount hph
    let x := Claims.accepted (s.port p.val)
    have hok : r.status.toNat = 0 := by rw [hstatus]; rfl
    have hrun := rxRelayRsp_matches (s := s) (p := p) (r := r) (x := x) hst htime horig hstack
    rw [hok] at hrun
    have happlied := hrun.trans (relayOutcome_written (s := Claims.withPort s p (x.rtagFreed r.tag.toNat)) hel hopc hcount hph _ _)
    rw [hexec s p h r he, happlied]
    exact congrArg Host.Outcome.next (settle_withPort_tnd he.1 (elApplied_frame _ _ _ _ _ _) rfl)
  · intro g he hst
    have hlook : relayTimeout p.val r.tag.toNat (Claims.withPort s p (Claims.accepted (s.port p.val))) = _ :=
      relayTimeout_waits (.inl (by rw [port_withPort_same]; exact hst))
    rw [hexec s p h r he, rxRelayRsp_strays hlook hst]
    exact congrArg Host.Outcome.next (settle_withPort he.1 rfl)
  · intro g he hst hlate hel
    let x := Claims.accepted (s.port p.val)
    have hport := port_withPort_same s p x
    obtain ⟨hgone, -⟩ := relayTimeout_acts (s := Claims.withPort s p x) (p := p) (t := r.tag.toNat) (by rw [hport]; exact hst)
      (by rw [hport]; exact hlate)
    rw [hport, withPort_withPort] at hgone
    have hzombie : ((x.timedOut r.tag.toNat).rly.rtag r.tag.toNat) = { g with st := .zombie } := tget_tset_same _ _ _ _
    have hrun := rxRelayRsp_strays (hgone hel) (by rw [hzombie]; simp)
    rw [hzombie, if_pos rfl, show (x.timedOut r.tag.toNat).rly.rtags = tset x.rly.rtags r.tag.toNat { g with st := .zombie } from rfl,
      tset_tset] at hrun
    rw [hexec s p h r he, hrun]
    exact congrArg Host.Outcome.next (settle_withPort he.1 rfl)

end Sys2Proof.Machine
end

section
/-! SUPPORT. A FENCE or a doorbell that stands alone on its port is committed as it arrives (R112, R119 to R121, R190, R191). -/

namespace Sys2Proof.Machine

/-! ### The head of a class queue -/

section
variable {s : State} {p c : Nat} {r : Req}

/-- An empty class queue offers nothing. -/
theorem headReady_of_empty (h : tget [] (s.port p).fr.cq c = []) : headReady s p c = none := by
  unfold headReady
  rw [h]

/-- A FENCE or a doorbell that no check, no order rule and no budget holds is ready (R191). -/
theorem headReady_of_alone {rs : List Req} (hq : tget [] (s.port p).fr.cq c = r :: rs) (hchk : headCheck s r = none)
    (hord : orderHolds (s.port p) r = false) (hb : budgetsAdmit s.sec p c = true) (hchan : r.chan = none) : headReady s p c = some r := by
  unfold headReady
  rw [hq]
  dsimp only
  rw [hchk, hord, hb, hchan]
  rfl

/-- It is taken at once where the other class queues of its port are empty (R192). -/
theorem portTurn_of_alone (h : ∀ d, d ≠ c → tget [] (s.port p).fr.cq d = []) : portTurn s p c none = true := by
  unfold portTurn
  rw [Option.all_none, Bool.and_true, List.all_eq_true]
  intro d _
  by_cases hd : d = c
  · simp [hd]
  · simp [headReady_of_empty (h d hd)]

/-- No order rule holds a request where every tag of an earlier one is free (R119 to R121), and, for a FENCE, complete. -/
theorem orderHolds_of_free {x : Port} (h : ∀ y ∈ x.fr.tags, y.2.arr < r.arr → y.2.st = .free)
    (hfence : kindOf r.opc = .fence → ∀ y ∈ x.fr.tags, y.2.arr < r.arr → x.completed y.1 = true) : orderHolds x r = false := by
  have hheld : fenceHolds x r.arr = false := by
    rw [fenceHolds, List.any_eq_false]
    intro y hy
    by_cases ha : y.2.arr < r.arr
    · simp [h y hy ha]
    · simp [ha]
  have hopen : (kindOf r.opc == .fence && x.fr.tags.any (fun y => y.2.arr < r.arr && !x.completed y.1)) = false := by
    by_cases hk : kindOf r.opc = .fence
    · rw [Bool.and_eq_false_iff, List.any_eq_false]
      refine .inr fun y hy => ?_
      by_cases ha : y.2.arr < r.arr
      · simp [hfence hk y hy ha]
      · simp [ha]
    · simp [hk]
  have hbehind : (x.fr.tags.any (fun y => y.2.arr < r.arr && (y.2.st == .held || y.2.st == .issued) &&
      ((y.2.writes && y.2.outcome == .notPerformed) || (y.2.kind == .doorbell && y.2.sect == r.f.sect.toNat)))) = false := by
    rw [List.any_eq_false]
    intro y hy
    by_cases ha : y.2.arr < r.arr
    · simp [h y hy ha]
    · simp [ha]
  unfold orderHolds
  dsimp only
  rw [hheld, hopen, hbehind, Bool.and_false]
  rfl

end

/-! ### The request that has just been queued -/

section
variable {s : State} {p : PortId} {r : ReqF} {o : BitVec 8} {k : Kind}

/-- The state in which a request has been accepted and stands in its class queue (R112). -/
def arrived (s : State) (p : PortId) (o : BitVec 8) (k : Kind) (r : ReqF) : State :=
  Claims.withPort s p (Claims.queued o k false r (Claims.accepted (s.port p.val)))

/-- The request itself. -/
def arrival (s : State) (p : PortId) (o : BitVec 8) (r : ReqF) : Req := { opc := o, f := r, arr := (s.port p.val).fr.arr }

theorem port_arrived : (arrived s p o k r).port p.val = Claims.queued o k false r (Claims.accepted (s.port p.val)) :=
  port_withPort_same _ _ _

/-- The class queues then, where they were empty. -/
theorem queue_arrived (hcq : tget [] (s.port p.val).fr.cq r.sect.toNat = []) :
    tget [] ((arrived s p o k r).port p.val).fr.cq r.sect.toNat = [arrival s p o r] := by
  rw [port_arrived]
  refine (tget_tset_same _ _ _ _).trans ?_
  change tget [] (s.port p.val).fr.cq r.sect.toNat ++ _ = _
  rw [hcq]
  rfl

theorem queue_arrived_ne (hcq : ∀ c, tget [] (s.port p.val).fr.cq c = []) (d : Nat) (hd : d ≠ r.sect.toNat) :
    tget [] ((arrived s p o k r).port p.val).fr.cq d = [] := by
  rw [port_arrived]
  exact (tget_tset_ne _ _ _ _ _ hd).trans (hcq d)

/-- A tag of an earlier request is a tag of before. -/
theorem mem_tags_arrived {y : Nat × TagRec} (hy : y ∈ ((arrived s p o k r).port p.val).fr.tags) (ha : y.2.arr < (arrival s p o r).arr) :
    y ∈ (s.port p.val).fr.tags := by
  rw [port_arrived] at hy
  rcases mem_tset _ _ _ _ hy with rfl | hy
  · exact absurd ha (Nat.lt_irrefl _)
  · exact hy

/-- It stands at the head of its queue, so it is what its command may commit. -/
theorem commitOwn_arrived (hcq : tget [] (s.port p.val).fr.cq r.sect.toNat = []) :
    commitOwn p.val r.sect.toNat r.tag.toNat (arrived s p o k r) = commitHead p.val r.sect.toNat (arrived s p o k r) := by
  unfold commitOwn
  rw [queue_arrived hcq]
  exact if_pos rfl

/-- Its commit leaves the class queue empty and takes its counts (R39, R190). -/
theorem issueTag_arrived (hcq : tget [] (s.port p.val).fr.cq r.sect.toNat = []) (hopen : (s.port p.val).fr.fenced = false) :
    issueTag p.val r.tag.toNat r.sect.toNat 0 (popHead p.val r.sect.toNat (arrived s p o k r)) = Claims.committed s p k r := by
  let x := Claims.accepted (s.port p.val)
  let y : Port := { x with fr := { x.fr with
    arr := x.fr.arr + 1, cq := tset x.fr.cq r.sect.toNat [], tags := tset x.fr.tags r.tag.toNat (Claims.heldTag k false r x.fr.arr) } }
  have hpop : popHead p.val r.sect.toNat (arrived s p o k r) = Claims.withPort s p y := by
    have htail : (tget [] ((arrived s p o k r).port p.val).fr.cq r.sect.toNat).tail = [] := by rw [queue_arrived hcq]; rfl
    rw [popHead, modPort_eq_withPort, htail, port_arrived, arrived, withPort_withPort]
    simp only [Claims.queued, tset_tset]
    rfl
  have hopen' : y.fr.fenced = false := hopen
  rw [hpop, issueTag, port_withPort_same, hopen', Bool.not_false, Bool.and_true, modPort_withPort]
  simp only [Frames.modTag, tmod, y, tget_tset_same, tset_tset]
  rfl

/-- A FENCE or a doorbell that passes its checks on a port without another request is committed. -/
theorem commitHead_arrived (hchk : headCheck (arrived s p o k r) (arrival s p o r) = none) (hchan : (arrival s p o r).chan = none)
    (hord : orderHolds ((arrived s p o k r).port p.val) (arrival s p o r) = false)
    (hb : budgetsAdmit s.sec p.val r.sect.toNat = true) (hcq : ∀ c, tget [] (s.port p.val).fr.cq c = [])
    (hopen : (s.port p.val).fr.fenced = false) :
    commitHead p.val r.sect.toNat (arrived s p o k r) =
      if kindOf o = .fence then
        (Claims.committed s p k r).modPort p.val (fun x =>
          Port.answer s.day.tick s.stackId r.tag.toNat (okStatus (x.fr.tag r.tag.toNat)) 0 []
            { x with fr := x.fr.modTag r.tag.toNat (fun g => { g with outcome := .performed }) })
      else arriveDb { src := some (p.val, r.tag.toNat), stream := r.addr.toNat % 2 ^ 18, gen := r.operand.extractLsb' 0 16
                      cmd := (r.operand.extractLsb' 16 8).toNat } (Claims.committed s p k r) := by
  have hready : headReady (arrived s p o k r) p.val r.sect.toNat = some (arrival s p o r) :=
    headReady_of_alone (queue_arrived (hcq _)) hchk hord hb hchan
  have hturn : portTurn (arrived s p o k r) p.val r.sect.toNat none = true := portTurn_of_alone (queue_arrived_ne hcq)
  have hkind : kindOf o = .fence ∨ kindOf o = .doorbell := by
    by_contra hno
    exact absurd hchan (by simp [Req.chan, arrival, hno])
  unfold commitHead
  dsimp only
  rw [queue_arrived (hcq _)]
  dsimp only
  rw [hchk]
  dsimp only
  rw [hready, hchan, hturn, if_neg (by simp)]
  rw [show (arrival s p o r).f = r from rfl, show (arrival s p o r).opc = o from rfl, issueTag_arrived (hcq _) hopen]
  rcases hkind with hk | hk
  · rw [if_pos hk, if_pos hk]
    rfl
  · have hno : kindOf o ≠ .fence := by simp [hk]
    rw [if_neg hno, if_pos hk, if_neg hno]

end

/-! ### Its answer (R109) -/

/-- The answer to a request that was performed without an access leaves at once on a port whose transmitter sends. -/
theorem answer_performed {x y : Port} {t : Tag} {g : TagRec} {k : Kind} (hsends : Claims.Sends y)
    (htags : y.fr.tags = tset x.fr.tags t.toNat { g with outcome := .performed }) (hkind : g.kind = k) (hopen : g.fenced = false)
    (hst : g.st ≠ .recover) (tick : Nat) (me : StackId) (st d : Nat) :
    y.answer tick me t.toNat st d [] = Claims.sent tick (.rsp k.rsp t g.sect me g.orig st d [] []) { y with fr := { y.fr with
      tags := tset x.fr.tags t.toNat { g with st := .answered, outcome := .performed } } } := by
  have htag : y.fr.tag t.toNat = { g with outcome := .performed } := by rw [Frames.tag, htags, tget_tset_same]
  have hdone : Claims.answeredTag { g with outcome := .performed } = { g with st := .answered, outcome := .performed } := by
    rw [Claims.answeredTag, ← hopen]
  rw [answer_of_sends hsends _ _ _ _ _ _ (by rw [htag]; exact hst), htag, htags, tset_tset, hdone]
  simp only [rspBody, hkind, BitVec.ofNat_toNat, BitVec.setWidth_eq]

/-! ### The port on which it was committed -/

/-- The port, as the commit leaves it. -/
def committedPort (s : State) (p : PortId) (k : Kind) (r : ReqF) : Port :=
  let x := Claims.accepted (s.port p.val)
  { x with fr := { x.fr with
    arr := x.fr.arr + 1, cq := tset x.fr.cq r.sect.toNat []
    tags := tset x.fr.tags r.tag.toNat (Claims.issuedTag s k false r x.fr.arr) } }

theorem port_committed (s : State) (p : PortId) (k : Kind) (r : ReqF) : (Claims.committed s p k r).port p.val = committedPort s p k r :=
  port_withPort_same _ _ _

theorem tag_committedPort (s : State) (p : PortId) (k : Kind) (r : ReqF) :
    (committedPort s p k r).fr.tag r.tag.toNat = Claims.issuedTag s k false r (s.port p.val).fr.arr := tget_tset_same _ _ _ _

/-- The status of a request that its commit issued (R103, R203). -/
theorem okStatus_issuedTag (s : State) (k : Kind) (w : Bool) (r : ReqF) (n : Nat) :
    (if (Claims.issuedTag s k w r n).throttled then stHINT else stOK) = Claims.okCode s := by
  by_cases h : s.sec.k = 0 <;> simp [h, Claims.issuedTag, Claims.okCode, stHINT, stOK]

end Sys2Proof.Machine
end

section
/-! PROOF of O5: doorbells that are decided as they arrive (R103 to R105, R117 to R121, R203, R249 to R251, R265). -/

namespace Sys2Proof.Machine

/-! ### The decision (R249) -/

section
variable {s : State} {n k : Nat} {d : Db} {e : Res}

/-- The only doorbell of a stream that has elements left, or does not run, is not held back (R251). -/
theorem dbBlocked_single (hq : s.tnd.dbq = [d]) (hread : d.reading = false) (hres : resident s n = some (k, e))
    (hrun : e.ctx.state = sRUNNING → e.ctx.cursor ≠ (Desc.of e.ctx.dcopy).count) : dbBlocked s n = false := by
  unfold dbBlocked
  rw [hq, hres]
  by_cases h : e.ctx.state = sRUNNING
  · simp [hread, hrun h]
  · simp [hread, h]

/-- The context in effect of a resident stream is the cached one (R246). -/
theorem ctxOf_resident (hres : resident s n = some (k, e)) : ctxOf s n = e.ctx := by
  unfold ctxOf
  rw [hres]

/-- A change of the context of a resident stream is one of its cache entry (R254). -/
theorem putCtx_resident (hres : resident s n = some (k, e)) (c : Ctx) :
    putCtx n c s = modRes k n (fun e => { e with ctx := c, dirty := true }) s := by
  unfold putCtx
  rw [hres]

/-- The state without the doorbells that wait. -/
def unrung (s : State) : State := s.modTnd (fun x => { x with dbq := [] })

theorem unrung_of_none (h : s.tnd.dbq = []) : unrung s = s := by
  simp only [unrung, State.modTnd, ← h]

/-- The only doorbell, of the generation that its stream has, is decided by its command. -/
theorem decideDb_single (hq : s.tnd.dbq = [d]) (hstream : d.stream = n) (hres : resident s n = some (k, e)) (hblk : dbBlocked s n = false)
    (hfree : e.ctx.state ≠ sFREE) (husable : e.ctx.state ≠ sUNUSABLE) (hgen : d.gen = e.ctx.gen) :
    decideDb n s =
      if cmdAllowed d.cmd e.ctx then
        (if (applyCmd d.cmd n d.src.isNone (unrung s)).2 then
          (applyCmd d.cmd n d.src.isNone (unrung s)).1.modTnd (fun x => { x with dbq := [{ d with reading := true }] })
        else finishDb d.src stOK 0 (applyCmd d.cmd n d.src.isNone (unrung s)).1)
      else finishDb d.src stBAD 0x42 (unrung s) := by
  have hfind : s.tnd.dbq.find? (fun d => d.stream = n) = some d := by simp [hq, hstream]
  have hrest : s.tnd.dbq.erase d = [] := by simp [hq]
  unfold decideDb
  rw [hfind]
  dsimp only
  rw [hblk, if_neg (by simp), ctxOf_resident hres, if_neg (by simp [hfree, husable]), if_neg (by simp [hgen]), hrest]
  cases cmdAllowed d.cmd e.ctx <;> rfl

/-- A doorbell that reaches the translation unit when no other waits is decided at once (R251). -/
theorem arriveDb_decides (hq : s.tnd.dbq = []) (hstream : d.stream = n) (hread : d.reading = false) (hres : resident s n = some (k, e))
    (hrun : e.ctx.state = sRUNNING → e.ctx.cursor ≠ (Desc.of e.ctx.dcopy).count)
    (hfree : e.ctx.state ≠ sFREE) (husable : e.ctx.state ≠ sUNUSABLE) (hgen : d.gen = e.ctx.gen) :
    arriveDb d s =
      if cmdAllowed d.cmd e.ctx then
        (if (applyCmd d.cmd n d.src.isNone s).2 then
          (applyCmd d.cmd n d.src.isNone s).1.modTnd (fun x => { x with dbq := [{ d with reading := true }] })
        else finishDb d.src stOK 0 (applyCmd d.cmd n d.src.isNone s).1)
      else finishDb d.src stBAD 0x42 s := by
  let u := s.modTnd (fun x => { x with dbq := x.dbq ++ [d] })
  have hu : u.tnd.dbq = [d] := by
    change s.tnd.dbq ++ [d] = [d]
    rw [hq]; rfl
  have hres' : resident u n = some (k, e) := hres
  have hblk : dbBlocked u n = false := dbBlocked_single hu hread hres' hrun
  have hempty : unrung u = s := (show unrung u = unrung s from rfl).trans (unrung_of_none hq)
  have hdec := decideDb_single hu hstream hres' hblk hfree husable hgen
  rw [hempty] at hdec
  rw [← hdec]
  change decideAll d.stream u.tnd.dbq.length u = _
  rw [hu, hstream]
  exact if_pos (by simp [isResident, hres', hblk])

end

/-! ### The answer (R109, R203) -/

section
variable {s : State} {p : PortId} {t : Tag}

/-- Where no tag waits in RECOVER, an answer releases none. -/
theorem recoverRelease_answered {x : Port} {g : TagRec} {ts : List (Nat × TagRec)} (hx : x.fr.tags = tset ts t.toNat g)
    (hg : g.st ≠ .recover) (hrec : ∀ y ∈ ts, y.2.st ≠ .recover) :
    recoverRelease p.val (Claims.withPort s p x) = Claims.withPort s p x := by
  refine recoverRelease_of_none fun v hv hvr => ?_
  rw [port_withPort_same, hx] at hv
  rcases mem_tset _ _ _ _ hv with rfl | hv
  · exact absurd hvr hg
  · exact absurd hvr (hrec v hv)

variable {g : TagRec} (hsends : Claims.Sends (s.port p.val)) (hg : (s.port p.val).fr.tag t.toNat = g) (hkind : g.kind = .doorbell)
  (hopen : g.fenced = false) (hst : g.st ≠ .recover) (hrec : ∀ y ∈ (s.port p.val).fr.tags, y.2.st ≠ .recover)
include hsends hg hkind hopen hst hrec

/-- An accepted doorbell is answered OK, or THROTTLED_HINT where its commit was enforced. -/
theorem finishDb_accepts : finishDb (some (p.val, t.toNat)) stOK 0 s =
    Claims.replied s p t (.rsp 0xB0 t g.sect s.stackId g.orig (if g.throttled then stHINT else stOK) 0 [] []) := by
  subst hg
  let x := s.port p.val
  let y : Port := { x with fr := x.fr.modTag t.toNat (fun r => { r with outcome := .performed }) }
  have hrun : finishDb (some (p.val, t.toNat)) stOK 0 s = recoverRelease p.val (Claims.withPort s p
      (y.answer s.day.tick s.stackId t.toNat (if (x.fr.tag t.toNat).throttled then stHINT else stOK) 0 [])) := by
    simp only [finishDb, modPort_eq_withPort]
    rfl
  rw [hrun, answer_performed (x := x) (y := y) hsends rfl hkind hopen hst]
  exact recoverRelease_answered (ts := x.fr.tags) rfl (by simp) hrec

/-- A refused doorbell is answered BAD_REQUEST, and counted and logged as one (R118). -/
theorem finishDb_refuses (d : Nat) : finishDb (some (p.val, t.toNat)) stBAD d s =
    Claims.replied (Claims.withPort s p { s.port p.val with fr := { (s.port p.val).fr with
      cntBadreq := satInc (s.port p.val).fr.cntBadreq, fevt := (s.port p.val).fr.fevt.raise 3
      err := { opc := 0x30, tag := t, detail := d, protocol := false } } }) p t
      (.rsp 0xB0 t g.sect s.stackId g.orig stBAD d [] []) := by
  subst hg
  let x := s.port p.val
  let y : Port := { x with fr := reportBad 0x30 t d (x.fr.modTag t.toNat (fun r => { r with outcome := .performed })) }
  have hrun : finishDb (some (p.val, t.toNat)) stBAD d s = recoverRelease p.val (Claims.withPort s p
      (y.answer s.day.tick s.stackId t.toNat stBAD d [])) := by
    simp only [finishDb, modPort_eq_withPort, BitVec.ofNat_toNat, BitVec.setWidth_eq]
    rfl
  rw [hrun, answer_performed (x := x) (y := y) hsends rfl hkind hopen hst]
  refine (recoverRelease_answered (ts := x.fr.tags) rfl (by simp) hrec).trans ?_
  rw [Claims.replied, port_withPort_same, withPort_withPort]
  rfl

end

/-! ### The doorbell's way from its frame to its decision -/

section
variable {s : State} {p : PortId} {h : Hdr} {k : Nat} {e : Res}

/-- The fields of a doorbell pass the checks on receipt (R105). -/
theorem fieldError_bell {r : ReqF} (ha : r.addr.toNat < 2 ^ 18) (hrsv : r.operand.extractLsb' 24 8 = 0) (hmask : r.mask = 0)
    (hpoison : r.poison = false) : fieldError 0x30 r = none := by
  have hrange : (decide (r.addr.toNat ≥ 2 ^ 18) || decide (r.operand.extractLsb' 24 8 ≠ 0)) = false := by
    rw [Bool.or_eq_false_iff]
    exact ⟨decide_eq_false (Nat.not_le.2 ha), decide_eq_false (not_not.2 hrsv)⟩
  have hfence : (0x30 : BitVec 8) ≠ 0x20 := by decide
  unfold fieldError
  dsimp only
  rw [if_neg hfence, if_pos rfl, hrange, if_neg (by simp), if_neg (not_not.2 hmask), hpoison]
  rfl

/-- A doorbell that is decided as it arrives passes the checks made at the head of its queue (R117). -/
theorem headCheck_bell {r : ReqF} (hd : Claims.Decided s p h r k e) :
    headCheck (arrived s p 0x30 .doorbell r) (arrival s p 0x30 r) = none := by
  obtain ⟨-, ⟨ha, -, -, -, hstack⟩, ⟨-, hxl, hctx, htnd, -⟩, -, hres, -⟩ := hd
  have hres' : resident (arrived s p 0x30 .doorbell r) r.addr.toNat = some (k, e) := hres
  have hready : (xlReady (arrived s p 0x30 .doorbell r) && ctxWritten (arrived s p 0x30 .doorbell r) r.addr.toNat &&
      tndReady (arrived s p 0x30 .doorbell r) e.ctx.tcl) = true := by
    rw [Bool.and_eq_true, Bool.and_eq_true]
    exact ⟨⟨hxl, hctx⟩, htnd⟩
  have hkind : kindOf (arrival s p 0x30 r).opc = .doorbell := rfl
  unfold headCheck
  dsimp only
  rw [hkind, show (arrival s p 0x30 r).f = r from rfl, Nat.mod_eq_of_lt ha, ctxOf_resident hres', hready,
    if_neg (show ¬ r.stack ≠ (arrived s p 0x30 .doorbell r).stackId from not_not.2 hstack)]
  rfl

/-- Its frame is accepted, it is committed, and it reaches the translation unit. -/
theorem rxDoorbell_decided {c : BitVec 8} {q : ReqF} (hd : Claims.Decided s p h (Claims.withBell c q) k e) :
    rxDoorbell p.val h c q s = settle s (arriveDb
      { src := some (p.val, q.tag.toNat), stream := q.addr.toNat, gen := e.ctx.gen, cmd := c.toNat }
      (Claims.committed s p .doorbell (Claims.withBell c q))) := by
  have hcheck := headCheck_bell hd
  obtain ⟨⟨hexp, -, hadm, hfree, hcq⟩, ⟨ha, hrsv, hmask, hpoison, -⟩, ⟨htender, -, -, -, hb⟩, -, -, hgen⟩ := hd
  have hrecv : rxRequest p.val h 0x30 (Claims.withBell c q) s = arrived s p 0x30 .doorbell (Claims.withBell c q) :=
    rxRequest_of_recv hexp
      (recvRequest_queues hadm.1 (by decide) (receiptError_of_admissible hadm (by decide) (fun _ => htender)
        (fieldError_bell ha hrsv hmask hpoison))) rfl
  have hno : kindOf 0x30 ≠ .fence := by decide
  have hord : orderHolds ((arrived s p 0x30 .doorbell (Claims.withBell c q)).port p.val) (arrival s p 0x30 (Claims.withBell c q)) = false :=
    orderHolds_of_free (fun y hy harr => hfree y (mem_tags_arrived hy harr)) (fun hk => absurd hk hno)
  have hcmd : (Claims.withBell c q).operand.extractLsb' 16 8 = c := by
    rw [Claims.withBell, BitVec.extractLsb'_append_eq_of_add_le (by decide)]
    exact BitVec.extractLsb'_append_eq_left
  have hcommit := commitHead_arrived hcheck rfl hord hb hcq hadm.2.1
  rw [if_neg hno, hgen, hcmd, Nat.mod_eq_of_lt ha, ← commitOwn_arrived (hcq _), ← hrecv] at hcommit
  exact congrArg (settle s) hcommit

/-! ### The port on which it was committed -/

/-- Its tag is the only one in use there. -/
theorem tags_committedPort {r : ReqF} (hfree : ∀ y ∈ (s.port p.val).fr.tags, y.2.st = .free) :
    ∀ y ∈ (committedPort s p .doorbell r).fr.tags, y.2.st ≠ .recover := by
  intro y hy
  rcases mem_tset _ _ _ _ hy with rfl | hy
  · simp [Claims.issuedTag]
  · simp [hfree y hy]

variable {r : ReqF} (hd : Claims.Decided s p h r k e)
include hd

/-- A command that changed the Tender cluster alone is answered there with DB_DONE. -/
theorem finishDb_committed {u : State} (hu : u = { Claims.committed s p .doorbell r with tnd := u.tnd }) :
    settle s (finishDb (some (p.val, r.tag.toNat)) stOK 0 u) = Claims.replied u p r.tag (Claims.dbDone s r (Claims.okCode s) 0) := by
  obtain ⟨⟨⟨hcalm, -⟩, hsends, -, hfree, -⟩, -⟩ := hd
  generalize u.tnd = v at hu
  subst hu
  let u : State := { Claims.committed s p .doorbell r with tnd := v }
  have hport : u.port p.val = committedPort s p .doorbell r := port_committed s p .doorbell r
  have hdone := finishDb_accepts (s := u) (p := p) (t := r.tag) (by rw [hport]; exact hsends) (by rw [hport, tag_committedPort]) rfl rfl
    (by simp [Claims.issuedTag]) (by rw [hport]; exact tags_committedPort hfree)
  rw [okStatus_issuedTag] at hdone
  rw [hdone]
  refine settle_of_ports hcalm (tset_tset _ _ _ _) ?_ rfl rfl rfl
  rw [hport]
  rfl

/-- A command that the state of the stream does not allow is answered there as a bad request. -/
theorem finishDb_committed_bad :
    let x := committedPort s p .doorbell r
    settle s (finishDb (some (p.val, r.tag.toNat)) stBAD 0x42 (Claims.committed s p .doorbell r)) =
      Claims.replied (Claims.withPort (Claims.committed s p .doorbell r) p { x with fr := { x.fr with
        cntBadreq := satInc x.fr.cntBadreq, fevt := x.fr.fevt.raise 3
        err := { opc := 0x30, tag := r.tag, detail := 0x42, protocol := false } } }) p r.tag (Claims.dbDone s r 9 0x42) := by
  intro x
  obtain ⟨⟨⟨hcalm, -⟩, hsends, -, hfree, -⟩, -⟩ := hd
  have hport := port_committed s p .doorbell r
  have hdone := finishDb_refuses (s := Claims.committed s p .doorbell r) (p := p) (t := r.tag) (by rw [hport]; exact hsends)
    (by rw [hport, tag_committedPort]) rfl rfl (by simp [Claims.issuedTag]) (by rw [hport]; exact tags_committedPort hfree) 0x42
  rw [hport] at hdone
  rw [hdone]
  refine settle_of_ports hcalm ((tset_tset _ _ _ _).trans (tset_tset _ _ _ _)) ?_ rfl rfl rfl
  rw [port_withPort_same]
  rfl

/-- Nothing was left of the last command. -/
theorem calm_of_decided : Calm s := by
  obtain ⟨⟨⟨hcalm, -⟩, -⟩, -⟩ := hd
  exact hcalm

/-- Its stream stays resident. -/
theorem resident_committed : resident (Claims.committed s p .doorbell r) r.addr.toNat = some (k, e) := by
  obtain ⟨-, -, -, -, hres, -⟩ := hd
  exact hres

/-- A command that the state of the stream allows acts as `applyCmd` says; the others are refused. -/
theorem arriveDb_decided {cmd : Nat} (hrun : e.ctx.state = sRUNNING → e.ctx.cursor ≠ (Desc.of e.ctx.dcopy).count)
    (hfree : e.ctx.state ≠ sFREE) (husable : e.ctx.state ≠ sUNUSABLE) :
    arriveDb { src := some (p.val, r.tag.toNat), stream := r.addr.toNat, gen := e.ctx.gen, cmd := cmd } (Claims.committed s p .doorbell r) =
      if cmdAllowed cmd e.ctx then
        (if (applyCmd cmd r.addr.toNat false (Claims.committed s p .doorbell r)).2 then
          (applyCmd cmd r.addr.toNat false (Claims.committed s p .doorbell r)).1.modTnd (fun x => { x with
            dbq := [{ src := some (p.val, r.tag.toNat), stream := r.addr.toNat, gen := e.ctx.gen, cmd := cmd, reading := true }] })
        else finishDb (some (p.val, r.tag.toNat)) stOK 0 (applyCmd cmd r.addr.toNat false (Claims.committed s p .doorbell r)).1)
      else finishDb (some (p.val, r.tag.toNat)) stBAD 0x42 (Claims.committed s p .doorbell r) := by
  obtain ⟨-, -, -, hdbq, hres, -⟩ := hd
  exact arriveDb_decides (s := Claims.committed s p .doorbell r) hdbq rfl rfl hres hrun hfree husable rfl

end

/-! ### The four commands (R249) -/

/-- An entry whose stream ABORT stops: what was not sent is dropped, and a first ABORT leaves its DETAIL (R249, R265). -/
def Res.aborted (d : Nat) (x : Res) : Res :=
  { x with
    dirty := true, ctx := { x.ctx with state := sSTOPPING }
    run := x.run.map (fun v => { v with abort := if v.abort.isSome then v.abort else some d, els := v.els.filter El.sent }) }

section
variable {s : State} {n k : Nat} {e : Res} (hres : resident s n = some (k, e)) (mgr : Bool)
include hres

/-- START: the stream's progress is cleared, and its descriptor read follows. -/
theorem applyCmd_start : applyCmd 1 n mgr s =
    (modRes k n (fun x => { x with ctx := { e.ctx.cleared with state := sQUEUED }, dirty := true }) s, true) := by
  rw [← putCtx_resident hres, ← ctxOf_resident hres]
  rfl

/-- RESUME of a stream whose descriptor is loaded: it waits for a cache entry. -/
theorem applyCmd_resume (hload : e.ctx.dloaded = true) : applyCmd 2 n mgr s =
    (addWait n e.ctx false (modRes k n (fun x => { x with ctx := { e.ctx with state := sQUEUED }, dirty := true }) s), false) := by
  rw [← putCtx_resident hres]
  unfold applyCmd
  simp [ctxOf_resident hres, hload]

/-- ABORT of a running stream: it stops. -/
theorem applyCmd_abort (hstate : e.ctx.state = sRUNNING) : applyCmd 3 n mgr s = (modRes k n (Res.aborted mgr.toNat) s, false) := by
  have hno : ¬ (sRUNNING = sQUEUED ∨ sRUNNING = sPREEMPTED) := by decide
  have habort : applyCmd 3 n mgr s = (abortStream n mgr s, false) := rfl
  rw [habort, abortStream, ctxOf_resident hres, hstate, if_neg hno, hres]
  refine congrArg (fun f => (modRes k n f s, false)) (funext fun x => ?_)
  cases hrun : x.run with
  | none => simp [Res.stopping, Res.aborted, hrun]
  | some v => by_cases hv : v.abort.isSome <;> simp [Res.stopping, Res.aborted, hrun, hv]

end

/-- START is allowed to a stream that has ended, or has not begun. -/
theorem start_allowed {c : Ctx} (h : c.state = sIDLE ∨ c.state = sDONE ∨ c.state = sSTOPPED) :
    cmdAllowed 1 c = true ∧ c.state ≠ sRUNNING ∧ c.state ≠ sFREE ∧ c.state ≠ sUNUSABLE := by
  rcases h with h | h | h <;> simp [cmdAllowed, h, sIDLE, sDONE, sSTOPPED, sRUNNING, sFREE, sUNUSABLE]

/-- Settles O5: the doorbell is decided as it arrives, and acts as its command says. -/
theorem doorbellsDecided : Obligations.DoorbellsDecided := by
  refine ⟨fun s p h q k e => ?start, fun s p h q k e => ?resume, fun s p h q k e u => ?abort, fun s p h q k e => ?undefined⟩
  case start =>
    intro r hd hstate
    obtain ⟨hallowed, hrun, hfree, husable⟩ := start_allowed hstate
    have harrive := arriveDb_decided hd (cmd := 1) (fun h => absurd h hrun) hfree husable
    rw [hallowed, if_pos rfl, applyCmd_start (resident_committed hd), if_pos rfl] at harrive
    have hexec : exec (.start p h q) s = .next (rxDoorbell p.val h 0x01 q s) := rfl
    rw [hexec, rxDoorbell_decided hd]
    refine congrArg Host.Outcome.next ((congrArg (settle s) harrive).trans ?_)
    exact settle_of_ports (calm_of_decided hd) rfl rfl rfl rfl rfl
  case resume =>
    intro r hd hstate hcause hload
    have hallowed : cmdAllowed 2 e.ctx = true := by simp [cmdAllowed, hstate, hcause]
    have harrive := arriveDb_decided hd (cmd := 2) (by simp [hstate, sSTOPPED, sRUNNING]) (by simp [hstate, sSTOPPED, sFREE])
      (by simp [hstate, sSTOPPED, sUNUSABLE])
    rw [hallowed, if_pos rfl, applyCmd_resume (resident_committed hd) _ hload, if_neg (by simp)] at harrive
    have hexec : exec (.resume p h q) s = .next (rxDoorbell p.val h 0x02 q s) := rfl
    rw [hexec, rxDoorbell_decided hd]
    exact congrArg Host.Outcome.next ((congrArg (settle s) harrive).trans (finishDb_committed hd rfl))
  case abort =>
    intro r hd hstate hcur hrun habort
    have hallowed : cmdAllowed 3 e.ctx = true := by simp [cmdAllowed, hstate]
    have harrive := arriveDb_decided hd (cmd := 3) (fun _ => hcur) (by simp [hstate, sRUNNING, sFREE])
      (by simp [hstate, sRUNNING, sUNUSABLE])
    rw [hallowed, if_pos rfl, applyCmd_abort (resident_committed hd) _ hstate, if_neg (by simp)] at harrive
    have hexec : exec (.abort p h q) s = .next (rxDoorbell p.val h 0x03 q s) := rfl
    rw [hexec, rxDoorbell_decided hd]
    exact congrArg Host.Outcome.next ((congrArg (settle s) harrive).trans (finishDb_committed hd rfl))
  case undefined =>
    intro c r hd h1 h2 h3 hfree husable hrun
    have hno (n : Nat) (hn : n < 256) (h : c ≠ BitVec.ofNat 8 n) : c.toNat ≠ n := by bv_omega
    have hallowed : cmdAllowed c.toNat e.ctx = false := by
      simp [cmdAllowed, hno 1 (by decide) h1, hno 2 (by decide) h2, hno 3 (by decide) h3]
    have harrive := arriveDb_decided hd (cmd := c.toNat) (fun h => absurd h hrun) hfree husable
    rw [hallowed, if_neg (by simp)] at harrive
    have hexec : exec (.doorbellUndefinedCommand p h q) s = .next (rxDoorbell p.val h c q s) := rfl
    rw [hexec, rxDoorbell_decided hd]
    refine congrArg Host.Outcome.next ((congrArg (settle s) harrive).trans ((finishDb_committed_bad hd).trans ?_))
    rw [← port_committed]

end Sys2Proof.Machine
end

section
/-! PROOF of the negation of O4: a FENCE whose tag the port's table lists twice (R117, R119, R120, R190, R203). -/

namespace Sys2Proof.Machine

section
variable {s : State} {p : PortId} {h : Hdr} {r : ReqF}

/-! ### The FENCE's way to its class queue -/

/-- A FENCE that passes the checks on receipt is accepted and enters its class queue. -/
theorem rxRequest_fence (hexp : Claims.Expected s p h) (hadm : Claims.Admissible (s.port p.val) r) (hpoison : r.poison = false) :
    rxRequest p.val h 0x20 r s = arrived s p 0x20 .fence r := by
  have hfield : fieldError 0x20 r = none := by
    unfold fieldError
    dsimp only
    rw [if_pos rfl, hpoison]
    rfl
  exact rxRequest_of_recv hexp
    (recvRequest_queues hadm.1 (by decide) (receiptError_of_admissible hadm (by decide) (fun h => absurd h (by decide)) hfield)) rfl

/-- At the head of its queue a FENCE for this stack passes (R117). -/
theorem headCheck_fence (hstack : r.stack = s.stackId) : headCheck (arrived s p 0x20 .fence r) (arrival s p 0x20 r) = none := by
  unfold headCheck
  dsimp only
  rw [if_neg (show ¬ (arrival s p 0x20 r).f.stack ≠ (arrived s p 0x20 .fence r).stackId from not_not.2 hstack)]
  rfl

/-- A FENCE that an order rule holds waits in its class queue. -/
theorem exec_fence_waits (hexp : Claims.Expected s p h) (hadm : Claims.Admissible (s.port p.val) r)
    (hcq : tget [] (s.port p.val).fr.cq r.sect.toNat = []) (hpoison : r.poison = false) (hstack : r.stack = s.stackId)
    (hord : orderHolds ((arrived s p 0x20 .fence r).port p.val) (arrival s p 0x20 r) = true) :
    exec (.fence p h r) s = .next (arrived s p 0x20 .fence r) := by
  have hhead : headReady (arrived s p 0x20 .fence r) p.val r.sect.toNat = none := by
    unfold headReady
    rw [queue_arrived hcq]
    dsimp only
    rw [hord]
    simp
  have hcommit : commitHead p.val r.sect.toNat (arrived s p 0x20 .fence r) = arrived s p 0x20 .fence r := by
    unfold commitHead
    dsimp only
    rw [queue_arrived hcq]
    dsimp only
    rw [headCheck_fence hstack, hhead]
    rfl
  have hexec : exec (.fence p h r) s =
      .next (settle s (commitOwn p.val r.sect.toNat r.tag.toNat (rxRequest p.val h 0x20 r s))) := rfl
  rw [hexec, rxRequest_fence hexp hadm hpoison, commitOwn_arrived hcq, hcommit]
  exact congrArg Host.Outcome.next (settle_withPort hexp.1 rfl)

/-- A FENCE that no order rule holds, alone on its port, is committed and completes at once. -/
theorem exec_fence_completes (hexp : Claims.Expected s p h) (hsends : Claims.Sends (s.port p.val))
    (hadm : Claims.Admissible (s.port p.val) r) (hcq : ∀ c, tget [] (s.port p.val).fr.cq c = []) (hpoison : r.poison = false)
    (hstack : r.stack = s.stackId) (hb : budgetsAdmit s.sec p.val r.sect.toNat = true)
    (hord : orderHolds ((arrived s p 0x20 .fence r).port p.val) (arrival s p 0x20 r) = false) :
    exec (.fence p h r) s = .next (Claims.replied (Claims.committed s p .fence r) p r.tag
      (.rsp 0xA0 r.tag r.sect.toNat s.stackId r.orig (Claims.okCode s) 0 [] [])) := by
  let x := committedPort s p .fence r
  let y : Port := { x with fr := x.fr.modTag r.tag.toNat (fun g => { g with outcome := .performed }) }
  have htag : x.fr.tag r.tag.toNat = Claims.issuedTag s .fence false r (s.port p.val).fr.arr := tag_committedPort s p .fence r
  have hstatus : okStatus (x.fr.tag r.tag.toNat) = Claims.okCode s := by rw [htag]; exact okStatus_issuedTag _ _ _ _ _
  have hanswer := answer_performed (x := x) (y := y) (t := r.tag) hsends rfl (congrArg TagRec.kind htag) (congrArg TagRec.fenced htag)
    (by rw [← Frames.tag, htag]; simp [Claims.issuedTag]) s.day.tick s.stackId (Claims.okCode s) 0
  rw [← Frames.tag, htag] at hanswer
  have hreplied : Claims.withPort (Claims.committed s p .fence r) p
      (y.answer s.day.tick s.stackId r.tag.toNat (okStatus (x.fr.tag r.tag.toNat)) 0 []) =
      Claims.replied (Claims.committed s p .fence r) p r.tag
        (.rsp 0xA0 r.tag r.sect.toNat s.stackId r.orig (Claims.okCode s) 0 [] []) := by
    rw [hstatus, hanswer, Claims.replied, port_committed, tag_committedPort]
    rfl
  have hcommit := commitHead_arrived (headCheck_fence hstack) rfl hord hb hcq hadm.2.1
  rw [if_pos (show kindOf 0x20 = .fence from rfl), modPort_eq_withPort, port_committed] at hcommit
  have hexec : exec (.fence p h r) s =
      .next (settle s (commitOwn p.val r.sect.toNat r.tag.toNat (rxRequest p.val h 0x20 r s))) := rfl
  rw [hexec, rxRequest_fence hexp hadm hpoison, commitOwn_arrived (hcq _), hcommit]
  refine congrArg Host.Outcome.next ((congrArg (settle s) hreplied).trans ?_)
  refine settle_of_ports hexp.1 (tset_tset _ _ _ _) ?_ rfl rfl rfl
  rw [port_committed]
  rfl

end

/-! ### What the tag table tells -/

/-- A write at another tag keeps an entry. -/
theorem mem_tset_of_ne {α : Type} {t : List (Nat × α)} {k : Nat} {v : α} {x : Nat × α} (hx : x ∈ t) (hk : x.1 ≠ k) :
    x ∈ tset t k v := by
  induction t with
  | nil => cases hx
  | cons y t ih =>
    obtain ⟨j, w⟩ := y
    rw [tset]
    rcases List.mem_cons.1 hx with rfl | hx
    · split
      next h => exact absurd h.symm hk
      next => split <;> simp
    · split
      · exact List.mem_cons_of_mem _ hx
      · split
        · exact List.mem_cons_of_mem _ (List.mem_cons_of_mem _ hx)
        · exact List.mem_cons_of_mem _ (ih hx)

/-- In a table whose tags ascend, the value written at a tag is the only one there. -/
theorem eq_of_mem_tset_of_ascending {α : Type} {t : List (Nat × α)} (ht : t.Pairwise (fun x y => x.1 < y.1)) {k : Nat} {v : α}
    {x : Nat × α} (hx : x ∈ tset t k v) (hk : x.1 = k) : x = (k, v) := by
  induction t with
  | nil => simpa [tset] using hx
  | cons y t ih =>
    obtain ⟨hlt, htail⟩ := List.pairwise_cons.1 ht
    obtain ⟨j, w⟩ := y
    have hrest : k < j ∨ k = j → x ∉ t := fun hkj hxt => absurd (hlt x hxt) (by dsimp only; omega)
    rw [tset] at hx
    split at hx
    next h =>
      rcases List.mem_cons.1 hx with h' | h'
      · exact h'
      · exact absurd h' (hrest (.inr h))
    next h =>
      split at hx
      next hlt' =>
        rcases List.mem_cons.1 hx with h' | h'
        · exact h'
        · rcases List.mem_cons.1 h' with h' | h'
          · exact absurd (show k = j by rw [← hk, h']) h
          · exact absurd h' (hrest (.inl hlt'))
      next =>
        rcases List.mem_cons.1 hx with h' | h'
        · exact absurd (show k = j by rw [← hk, h']) h
        · exact ih htail h'

/-- A value read from a table is the default or one that the table lists. -/
theorem tget_eq_or_mem {α : Type} (d : α) (t : List (Nat × α)) (k : Nat) : tget d t k = d ∨ ∃ y ∈ t, tget d t k = y.2 := by
  induction t with
  | nil => exact .inl rfl
  | cons y t ih =>
    rw [tget]
    split
    · exact .inr ⟨y, List.mem_cons_self, rfl⟩
    · split
      · exact .inl rfl
      · exact ih.imp_right fun ⟨z, hz, h⟩ => ⟨z, List.mem_cons_of_mem _ hz, h⟩

/-- Where every listed tag is free, every tag is. -/
theorem tag_free_of_unused {x : Port} (h : ∀ y ∈ x.fr.tags, y.2.st = .free) (t : Nat) : (x.fr.tag t).st = .free := by
  rcases tget_eq_or_mem {} x.fr.tags t with hd | ⟨y, hy, hv⟩
  · rw [Frames.tag, hd]
  · rw [Frames.tag, hv]
    exact h y hy

section
variable {s : State} {p : PortId} {h : Hdr} {r : ReqF}

/-- Another tag after the FENCE has arrived is complete as before. -/
theorem completed_arrived {n : Nat} (hn : n ≠ r.tag.toNat) :
    ((arrived s p 0x20 .fence r).port p.val).completed n = (s.port p.val).completed n := by
  have htag : ((arrived s p 0x20 .fence r).port p.val).fr.tag n = (s.port p.val).fr.tag n := by
    rw [port_arrived]
    exact tget_tset_ne _ _ _ _ _ hn
  unfold Port.completed
  rw [htag, port_arrived]
  rfl

/-- The second clause of O4: a FENCE waits behind an earlier request that has not completed. -/
theorem fence_waits_behind (hexp : Claims.Expected s p h) (hadm : Claims.Admissible (s.port p.val) r)
    (hcq : tget [] (s.port p.val).fr.cq r.sect.toNat = []) (hpoison : r.poison = false) (hstack : r.stack = s.stackId)
    {y : Nat × TagRec} (hy : y ∈ (s.port p.val).fr.tags) (hne : y.1 ≠ r.tag.toNat) (harr : y.2.arr < (s.port p.val).fr.arr)
    (hopen : (s.port p.val).completed y.1 = false) : exec (.fence p h r) s = .next (arrived s p 0x20 .fence r) := by
  have hmem : y ∈ ((arrived s p 0x20 .fence r).port p.val).fr.tags := by
    rw [port_arrived]
    exact mem_tset_of_ne hy hne
  have hbehind : ((arrived s p 0x20 .fence r).port p.val).fr.tags.any (fun y => y.2.arr < (arrival s p 0x20 r).arr &&
      !((arrived s p 0x20 .fence r).port p.val).completed y.1) = true := by
    refine List.any_eq_true.2 ⟨y, hmem, ?_⟩
    rw [completed_arrived hne, hopen, Bool.and_eq_true]
    exact ⟨decide_eq_true harr, rfl⟩
  refine exec_fence_waits hexp hadm hcq hpoison hstack ?_
  unfold orderHolds
  dsimp only
  have hfence : (kindOf (arrival s p 0x20 r).opc == .fence) = true := rfl
  rw [hbehind, hfence, Bool.true_and, Bool.or_true, Bool.true_or]

/-- The first clause of O4 where the tags of the port's table ascend: a FENCE alone on its port completes at once. -/
theorem fence_completes_of_ascending (hexp : Claims.Expected s p h) (hsends : Claims.Sends (s.port p.val))
    (hadm : Claims.Admissible (s.port p.val) r) (hunused : Claims.Unused (s.port p.val)) (hpoison : r.poison = false)
    (hstack : r.stack = s.stackId) (hb : budgetsAdmit s.sec p.val r.sect.toNat = true)
    (hasc : (s.port p.val).fr.tags.Pairwise (fun x y => x.1 < y.1)) :
    exec (.fence p h r) s = .next (Claims.replied (Claims.committed s p .fence r) p r.tag
      (.rsp 0xA0 r.tag r.sect.toNat s.stackId r.orig (Claims.okCode s) 0 [] [])) := by
  obtain ⟨hfree, hcq⟩ := hunused
  refine exec_fence_completes hexp hsends hadm hcq hpoison hstack hb
    (orderHolds_of_free (fun y hy harr => hfree y (mem_tags_arrived hy harr)) fun _ y hy harr => ?_)
  have hne : y.1 ≠ r.tag.toNat := by
    intro heq
    rw [port_arrived] at hy
    rw [eq_of_mem_tset_of_ascending hasc hy heq] at harr
    exact Nat.lt_irrefl _ harr
  rw [completed_arrived hne, Port.completed, tag_free_of_unused hfree]

end

/-! ### The refutation -/

/-- Port 3 in ACTIVE, whose tag table lists tag 17 twice, free, and which has received one request. -/
def doubledTag : State := { State.reset with
  ports := [(3, { Port.reset with
    link := { lstate := .active, sig := BitVec.allOnes 78 }, fr := { Port.reset.fr with tags := [(17, {}), (17, {})], arr := 1 } })] }

/-- A FENCE of tag 17, and the header that the port expects. -/
def fence17 : ReqF := { tag := 17, sect := 0, stack := State.reset.stackId, addr := 0 }

def fenceHdr : Hdr := { fseq := 0, ack := 0x3FF }

theorem expected_doubledTag : Claims.Expected doubledTag 3 fenceHdr := by decide

theorem admissible_fence17 : Claims.Admissible (doubledTag.port 3) fence17 := by decide

/-- The second entry of tag 17 counts as an earlier request, and tag 17 is not complete once the FENCE holds it. -/
theorem orderHolds_fence17 : orderHolds ((arrived doubledTag 3 0x20 .fence fence17).port 3) (arrival doubledTag 3 0x20 fence17) = true := by
  decide

/-- Refutes O4: where the tag table lists the tag of the FENCE twice, each time free, the first entry becomes the FENCE's own and the
second stands for an earlier request; that tag is HELD now, so the FENCE waits for itself, where the statement has it complete
(`fence_completes_of_ascending` is the first clause with the hypothesis that it lacks, and `fence_waits_behind` the second clause). The
state is one that no run reaches, as every write to the table (`tset`) keeps one entry for each tag; the statement does not exclude it. -/
theorem not_fenceWaitsThenCompletes : ¬ Obligations.FenceWaitsThenCompletes := by
  rintro ⟨hcompletes, -⟩
  have hunused : Claims.Unused (doubledTag.port 3) := ⟨by decide, fun _ => rfl⟩
  have hstated := hcompletes doubledTag 3 fenceHdr fence17 expected_doubledTag (by decide) admissible_fence17 hunused rfl rfl (by decide)
  have hwaits : exec (.fence 3 fenceHdr fence17) doubledTag = .next (arrived doubledTag 3 0x20 .fence fence17) :=
    exec_fence_waits expected_doubledTag admissible_fence17 rfl rfl rfl orderHolds_fence17
  have hsame := Host.Outcome.next.inj (hwaits.symm.trans hstated)
  have hst := congrArg (fun t => ((t.port 3).fr.tag 17).st) hsame
  exact absurd hst (by decide)

end Sys2Proof.Machine
end

section
/-! PROOF of the negation of O8: a tag that the port's table lists twice when the retry limit is reached (R114, R122, R125). -/

namespace Sys2Proof.Machine

/-- Port 3 in ACTIVE after four timeout episodes, with one frame unacknowledged. Its tag table lists tag 17 twice, free and HELD. -/
def halfHeldTag : State := { State.reset with
  ports := [(3, { Port.reset with
    link := { lstate := .active, sig := BitVec.allOnes 78 }
    fr := { Port.reset.fr with tags := [(17, {}), (17, { st := .held })] }
    rty := { Port.reset.rty with episodes := 4, replay := [{ fseq := 0, body := .unfence 0, sent := 0 }] } })] }

theorem replayTimeout_halfHeldTag : (((settle halfHeldTag (replayTimeout 3 halfHeldTag)).port 3).fr.tag 17).st = .recover := by
  decide

/-- Refutes O8: where the tag table lists a tag twice, free in its first entry and HELD in the second, the fence answers the tag for its
second entry, and that leaves the first, free before, in RECOVER; the statement has a free tag stay free. The state is one that no run
reaches, as every write to the table (`tset`) keeps one entry for each tag; the statement does not exclude it. -/
theorem not_retryLimitRetrains : ¬ Obligations.RetryLimitRetrains := by
  intro h
  obtain ⟨t, hexec, -, -, -, -, -, -, -, htags, -⟩ :=
    h halfHeldTag 3 (.replayTimeout 3) (by simp) (by decide) (by decide) (by simp) (fun _ => by decide)
  obtain rfl : settle halfHeldTag (replayTimeout 3 halfHeldTag) = t := Host.Outcome.next.inj hexec
  have hfree : ((halfHeldTag.port (3 : PortId).val).fr.tag 17).st = .free := by decide
  have hst := htags 17
  rw [if_pos hfree] at hst
  exact absurd (replayTimeout_halfHeldTag.symm.trans hst) (by decide)

end Sys2Proof.Machine
end

section
/-! SUPPORT. A command that a row names, on a channel with nothing on its way: when it goes out, and what it changes (R134, R143). -/

namespace Sys2Proof.Machine

/-! ### Changes of one scheduler -/

theorem modSched_modSched (s : State) (c : Nat) (f g : Sched → Sched) :
    (s.modSched c f).modSched c g = s.modSched c (fun q => g (f q)) := by
  simp [State.modSched, State.modChan]

/-- A scheduler that stays as it is leaves every channel as it is. -/
theorem chan_modSched_of_fixed {s : State} {c : Nat} {f : Sched → Sched} (h : f (s.chan c).q = (s.chan c).q) (d : Nat) :
    (s.modSched c f).chan d = s.chan d := by
  rw [State.modSched, State.chan_modChan]
  split
  next hd => rw [hd, h]
  next => rfl

/-- A change of a scheduler that keeps its queue and the banks outside `B`, and lets its clock go on. -/
theorem onlySched_modSched {s : State} {c : ChanId} {f : Sched → Sched} {B : Nat → Prop}
    (hqueue : (f (s.chan c.val).q).queue = (s.chan c.val).q.queue) (hclk : (s.chan c.val).q.clk < (f (s.chan c.val).q).clk)
    (hbank : ∀ b, ¬ B b → (f (s.chan c.val).q).bank b = (s.chan c.val).q.bank b) : Claims.OnlySched s (s.modSched c.val f) c B := by
  refine ⟨rfl, fun _ => rfl, (onChan_modSched _ _ _).2, State.modSched_i _ _ _ _, ?_, ?_, ?_⟩
  all_goals rw [State.modSched_q]
  · exact hqueue
  · exact hclk
  · exact hbank

/-- The end of a command that changed a scheduler, and event and clock bits of its cluster. -/
theorem settle_onlySched {s t : State} {c : ChanId} {B : Nat → Prop} (hcalm : Calm s) (h : Claims.OnlySched s t c B) : settle s t = t := by
  obtain ⟨hf, -⟩ := h
  exact settle_ports s t (by rw [hf]; exact hcalm) (by rw [hf]) (by rw [hf])

theorem settle_onlyChan {s t : State} {c : ChanId} (hcalm : Calm s) (h : Claims.OnlyChan s t c) : settle s t = t := by
  obtain ⟨hf, -⟩ := h
  exact settle_ports s t (by rw [hf]; exact hcalm) (by rw [hf]) (by rw [hf])

/-! ### The clock at which a command goes out -/

/-- The scheduler at the first clock after this one that is not before `n`. -/
def Sched.clockTo (n : Nat) (q : Sched) : Sched := { q with clk := max (q.clk + 1) n }

theorem lt_clockTo (n : Nat) (q : Sched) : q.clk < (q.clockTo n).clk := Nat.lt_of_lt_of_le (Nat.lt_succ_self _) (Nat.le_max_left _ _)

theorem until_of_due {q : Sched} {step n : Nat} {x : Cmd} (h : q.due step x = some n) : q.until step x = some (q.clockTo n) := by
  rw [Sched.until, h]; rfl

/-- The die that a command other than a reissue addresses is in the command itself. -/
theorem die_clockTo (n : Nat) (q : Sched) (x : Cmd) : x.die (q.clockTo n) = x.die q := by cases x <;> rfl

theorem episode_clockTo (n : Nat) (q : Sched) : (q.clockTo n).episode = q.episode := rfl

theorem alert_of_still {s : State} {c : Nat} (h : Claims.Still s c) {d : Nat} (hd : d < 16) : ((s.chan c).q.slice d).alert = false :=
  h.2.2.2 d hd

theorem dieOf_lt (b : BankId) : dieOf b.val < 16 := by
  have := b.isLt
  rw [dieOf]; omega

theorem land_of_no_flights {s : State} {c : Nat} (h : (s.chan c).q.flights = []) : land c s = s := by simp [land, h]

/-- A command that is due some time goes out then, on a channel with nothing on its way whose controller runs. -/
theorem rowCommand_of_due {s : State} {c n : Nat} {x : Cmd} (hon : ctrlOn s c = true) (hstill : Claims.Still s c)
    (hdoom : doomed (s.chan c).i (x.die (s.chan c).q) = false) (hdue : (s.chan c).q.due (s.clu (cluOf c)).step x = some n) :
    rowCommand c x s = issue c { cmd := x } (s.modSched c (Sched.clockTo n)) := by
  have hep : ((s.chan c).q.clockTo n).episode = none := episode_of_still hstill
  obtain ⟨hfl, -⟩ := hstill
  have hland : land c (s.modSched c (fun _ => (s.chan c).q.clockTo n)) = s.modSched c (Sched.clockTo n) :=
    land_of_no_flights (by rw [State.modSched_q]; exact hfl)
  unfold rowCommand
  rw [until_of_due hdue]
  dsimp only
  rw [if_pos (by simp [hon, hep, die_clockTo, hdoom]), hland]

/-- A command that its bank or slice is in no state for does not go out. -/
theorem rowCommand_of_not_due {s : State} {c : Nat} {x : Cmd} (hdue : (s.chan c).q.due (s.clu (cluOf c)).step x = none) :
    rowCommand c x s = s := by
  simp [rowCommand, Sched.until, hdue]

/-- What must hold where commands of requests go to a slice. -/
theorem sliceOpen_iff {s : State} {c d : Nat} : sliceOpen s c d = true ↔ ctrlOn s c = true ∧
    (s.cluReady (cluOf c) = true ∨ (s.clu (cluOf c)).draining = true) ∧ (s.clu (cluOf c)).inStep = false ∧ (s.chan c).q.replay = [] ∧
    (∀ e < 16, ((s.chan c).q.slice e).alert = false) ∧ doomed (s.chan c).i d = false := by
  simp only [sliceOpen, Bool.and_eq_true, Bool.or_eq_true, Bool.not_eq_true', List.isEmpty_iff, List.all_eq_true, List.mem_range, and_assoc]

theorem ctrlOn_of_sliceOpen {s : State} {c d : Nat} (h : sliceOpen s c d = true) : ctrlOn s c = true := (sliceOpen_iff.1 h).1

theorem not_doomed_of_sliceOpen {s : State} {c d : Nat} (h : sliceOpen s c d = true) : doomed (s.chan c).i d = false := by
  obtain ⟨-, -, -, -, -, hdoom⟩ := sliceOpen_iff.1 h
  exact hdoom

theorem not_inStep_of_sliceOpen {s : State} {c d : Nat} (h : sliceOpen s c d = true) : (s.clu (cluOf c)).inStep = false := by
  obtain ⟨-, -, hstep, -⟩ := sliceOpen_iff.1 h
  exact hstep

/-! ### What a command does to a scheduler -/

/-- From `q` to `r` the queue, the clock and the banks outside `B` are as before. -/
abbrev KeepsApart (B : Nat → Prop) (q r : Sched) : Prop := r.queue = q.queue ∧ r.clk = q.clk ∧ ∀ b, ¬ B b → r.bank b = q.bank b

theorem keepsApart_modBank (q : Sched) (b : Nat) (f : Bank → Bank) : KeepsApart (fun x => x = b) q (q.modBank b f) :=
  ⟨rfl, rfl, fun _ h => (Sched.bank_modBank _ _ _ _).trans (if_neg h)⟩

theorem keepsApart_refl (B : Nat → Prop) (q : Sched) : KeepsApart B q q := ⟨rfl, rfl, fun _ _ => rfl⟩

theorem keepsApart_act (q : Sched) (step b r : Nat) : KeepsApart (fun x => x = b) q (q.act step b r) := by
  unfold Sched.act
  dsimp only
  split
  · exact ⟨rfl, rfl, fun x hx => by simp only [Sched.bank, Sched.modBank, Sched.modSlice, Sched.log, tget_tmod, hx, if_false]⟩
  · exact keepsApart_refl _ q

theorem keepsApart_pre (q : Sched) (step b : Nat) : KeepsApart (fun x => x = b) q (q.pre step b) := by
  unfold Sched.pre
  dsimp only
  split
  · exact keepsApart_refl _ q
  · exact keepsApart_modBank (q.log .pre (dieOf b) b 0) b _

theorem keepsApart_refpb (q : Sched) (step b : Nat) : KeepsApart (fun x => x = b) q (q.refpb step b) := by
  unfold Sched.refpb
  dsimp only
  split
  · exact keepsApart_refl _ q
  · exact keepsApart_modBank (q.log .refpb (dieOf b) b 0) b _

theorem keepsApart_rfmt (q : Sched) (step b : Nat) : KeepsApart (fun x => x = b) q (q.rfmt step b) := by
  unfold Sched.rfmt
  dsimp only
  split
  · exact keepsApart_refl _ q
  · exact ⟨rfl, rfl, fun x hx => by simp only [Sched.bank, Sched.modBank, Sched.log, tget_tmod, hx, if_false]⟩

theorem queue_of_onRows {q r : Sched} (h : OnRows q r) : r.queue = q.queue := (congrArg Sched.queue h :)

/-- Changes of the banks of one slice keep all other banks. -/
theorem bank_foldl_modBank_ne (d : Nat) (f : Sched → Bank → Bank) (q : Sched) {b : Nat} (hb : b / 8 ≠ d) :
    ((List.range 8).foldl (fun q j => q.modBank (8 * d + j) (f q)) q).bank b = q.bank b := by
  obtain ⟨-, hother, -⟩ := foldl_touches (get := Sched.bank) (I := fun _ => True) (C := fun _ _ => True) (P := fun _ _ _ => True)
    (f := fun q j => q.modBank (8 * d + j) (f q)) (fun j => 8 * d + j) (fun _ _ _ _ => trivial)
    (fun q j b _ _ hb => (Sched.bank_modBank _ _ _ _).trans (if_neg hb)) (fun _ _ _ _ => trivial) (l := List.range 8)
    (List.nodup_range.map (fun _ _ h => Nat.add_left_cancel h)) (s := q) trivial (fun _ _ => trivial)
  refine hother b fun hmem => hb ?_
  obtain ⟨j, hj, rfl⟩ := List.mem_map.1 hmem
  have := List.mem_range.1 hj
  omega

theorem clk_foldl_modBank (b : Nat → Nat) (f : Sched → Bank → Bank) (l : List Nat) (q : Sched) :
    (l.foldl (fun q j => q.modBank (b j) (f q)) q).clk = q.clk := by
  induction l generalizing q with
  | nil => rfl
  | cons j l ih => exact ih (q.modBank (b j) (f q))

theorem keepsApart_prea (q : Sched) (step d : Nat) : KeepsApart (fun x => x / 8 = d) q (q.prea step d) := by
  refine ⟨queue_of_onRows (prea_keeps q step d).1, ?_, fun b hb => ?_⟩
  all_goals
    unfold Sched.prea
    split
  · rfl
  · exact clk_foldl_modBank _ (fun q x => { x.shut with rdyAct := max x.rdyAct (q.clk + tRP step) }) _ _
  · rfl
  · exact bank_foldl_modBank_ne d (fun q x => { x.shut with rdyAct := max x.rdyAct (q.clk + tRP step) }) (q.log .prea d 0 0) hb

/-- ACT on a closed bank of an awake slice (R134, R143, R147). -/
theorem bank_act {q : Sched} {b r : Nat} (step : Nat) (hrow : (q.bank b).row = none) (hsr : (q.slice (dieOf b)).sr = false)
    (hal : (q.slice (dieOf b)).alert = false) (hr : r < 24576) (hraa : (q.bank b).raa < 576) :
    ((q.act step b r).bank b).row = some r ∧ ((q.act step b r).bank b).raa = (q.bank b).raa + 1 ∧
      ((q.act step b r).bank b).rdyCol = q.clk + tRCD step := by
  have hact : (q.act step b r).bank b = { ((q.bank b).track r) with
      row := some r, l := some r, c := false, fresh := true, lastUse := q.clk, raa := (q.bank b).raa + 1
      rdyCol := q.clk + tRCD step, rdyPre := q.clk + tRAS step, rdyAct := q.clk + tRC step } := by
    rw [Sched.act]
    dsimp only
    rw [if_pos (by simp [hrow, hsr, hal, hr, hraa])]
    simp only [Sched.bank, Sched.modBank, Sched.modSlice, Sched.log, tget_tmod, if_true]
  rw [hact]
  exact ⟨rfl, rfl, rfl⟩

/-- PRE of a bank of an awake slice. -/
theorem row_pre {q : Sched} {b : Nat} (step : Nat) (hsr : (q.slice (dieOf b)).sr = false) (hal : (q.slice (dieOf b)).alert = false) :
    ((q.pre step b).bank b).row = none := by
  rw [Sched.pre]
  rw [if_neg (by simp [hsr, hal]), Sched.bank_modBank, if_pos rfl]

/-- REFPB of a bank of an awake slice (R144). -/
theorem bank_refpb {q : Sched} {b : Nat} (step : Nat) (hsr : (q.slice (dieOf b)).sr = false) (hal : (q.slice (dieOf b)).alert = false) :
    ((q.refpb step b).bank b).row = none ∧ ((q.refpb step b).bank b).ptr = ((q.bank b).ptr + 4) % 24576 := by
  have hptr (x : Bank) : x.window.ptr = x.ptr := by
    unfold Bank.window
    dsimp only
    split <;> rfl
  rw [Sched.refpb]
  dsimp only
  rw [if_neg (by simp [hsr, hal]), Sched.bank_modBank, if_pos rfl]
  refine ⟨rfl, congrArg (fun n => (n + 4) % 24576) ?_⟩
  split
  · exact hptr _
  · rfl

/-- RFMT of a bank of an awake slice (R148). -/
theorem bank_rfmt {q : Sched} {b : Nat} (step : Nat) (hsr : (q.slice (dieOf b)).sr = false) (hal : (q.slice (dieOf b)).alert = false) :
    ((q.rfmt step b).bank b).row = none ∧ ((q.rfmt step b).bank b).raa = 0 ∧ ((q.rfmt step b).bank b).blocked = false ∧
      (q.rfmt step b).rfmCnt = satInc q.rfmCnt := by
  rw [Sched.rfmt]
  dsimp only
  rw [if_neg (by simp [hsr, hal])]
  refine and_assoc.1 (and_assoc.1 ⟨?_, rfl⟩)
  simp only [Sched.bank, Sched.modBank, Sched.log, tget_tmod, if_true]
  split <;> exact ⟨⟨rfl, rfl⟩, rfl⟩

theorem maint_refpb (q : Sched) (step b : Nat) : (q.refpb step b).maint = q.maint := by
  unfold Sched.refpb
  dsimp only
  split <;> rfl

theorem maint_rfmt (q : Sched) (step b : Nat) : (q.rfmt step b).maint = q.maint := by
  unfold Sched.rfmt
  dsimp only
  split <;> rfl

/-! ### What goes out for a command that serves no scrub job -/

section
variable (c : Nat) (s : State)

theorem issue_act (b r : Nat) : issue c { cmd := .act b r } s = blockCheck c b (s.modSched c (fun q => q.act (s.clu (cluOf c)).step b r)) :=
  (rfl)
theorem issue_pre (b : Nat) : issue c { cmd := .pre b } s = s.modSched c (fun q => q.pre (s.clu (cluOf c)).step b) := (rfl)
theorem issue_prea (d : Nat) : issue c { cmd := .prea d } s = s.modSched c (fun q => q.prea (s.clu (cluOf c)).step d) := (rfl)

/-- A maintenance command is owed no more. -/
def Sched.paid (m : Maint) (q : Sched) : Sched := { q with maint := q.maint.erase m }

theorem issue_refpb (b : Nat) : issue c { cmd := .refpb b } s =
    s.modSched c (fun q => (q.refpb (s.clu (cluOf c)).step b).paid (.refpb b)) := by
  rw [← modSched_modSched]; rfl
theorem issue_rfmt (b : Nat) : issue c { cmd := .rfmt b } s =
    s.modSched c (fun q => (q.rfmt (s.clu (cluOf c)).step b).paid (.rfmt b)) := by
  rw [← modSched_modSched]; rfl

theorem clu_modSched (f : Sched → Sched) (k : Nat) : (s.modSched c f).clu k = s.clu k := (rfl)

end

/-- Where commands of requests may go to the slice, one goes out as any other. -/
theorem requestCommand_of_open {s : State} {c : Nat} {x : Cmd} (h : sliceOpen s c (x.die (s.chan c).q) = true) :
    requestCommand c x s = rowCommand c x s := if_pos h

end Sys2Proof.Machine
end

section
/-! PROOF of O36: the row commands and PCLR (R134, R143, R144, R147, R148, R158, R159). -/

namespace Sys2Proof.Machine

/-! ### A row command goes out -/

/-- The state after a command that does `f` to the scheduler of channel `c`, at the first clock from `n` on. -/
def sentAt (c n : Nat) (f : Sched → Sched) (s : State) : State := s.modSched c (fun q => f (q.clockTo n))

theorem q_sentAt (c n : Nat) (f : Sched → Sched) (s : State) : ((sentAt c n f s).chan c).q = f ((s.chan c).q.clockTo n) :=
  State.modSched_q _ _ _

theorem onlySched_sentAt {s : State} {c : ChanId} {f : Sched → Sched} {B : Nat → Prop} (n : Nat) (hf : ∀ q, KeepsApart B q (f q)) :
    Claims.OnlySched s (sentAt c.val n f s) c B := by
  obtain ⟨hqueue, hclk, hbank⟩ := hf ((s.chan c.val).q.clockTo n)
  exact onlySched_modSched hqueue (by rw [hclk]; exact lt_clockTo _ _) hbank

theorem issued_sentAt {s : State} {c : ChanId} {f : Sched → Sched} {B : Nat → Prop} {x : Cmd} {n : Nat} (hf : ∀ q, KeepsApart B q (f q))
    (hdue : (s.chan c.val).q.due (s.clu (cluOf c.val)).step x = some n) : Claims.Issued s (sentAt c.val n f s) c x B := by
  refine ⟨onlySched_sentAt n hf, n, hdue, ?_⟩
  rw [q_sentAt, (hf _).2.1]
  rfl

/-- The scheduler on which a block of bank `b` begins to act (R149). -/
def Sched.blockBank (b : Nat) (q : Sched) : Sched :=
  { (q.modBank b (fun x => { x with blocked := true })) with rfmBlock := satInc q.rfmBlock }

theorem blockCheck_cases (c b : Nat) (s : State) : blockCheck c b s = s ∨
    blockCheck c b s = (s.modSched c (Sched.blockBank b)).modClu (cluOf c) (fun u => { u with evt := u.evt.raise 4 }) := by
  unfold blockCheck
  dsimp only
  split
  · exact .inr rfl
  · exact .inl rfl

theorem keepsApart_blockBank (q : Sched) (b : Nat) : KeepsApart (fun x => x = b) q (q.blockBank b) :=
  keepsApart_modBank q b (fun x => { x with blocked := true })

theorem bank_blockBank (q : Sched) (b : Nat) : (q.blockBank b).bank b = { q.bank b with blocked := true } :=
  (Sched.bank_modBank q b b (fun x => { x with blocked := true })).trans (if_pos rfl)

/-- Whether or not a block begins to act, the bank keeps all but its mark of it (R149). -/
theorem blockCheck_facts {s : State} {c : ChanId} {n b : Nat} {f : Sched → Sched} (hf : ∀ q, KeepsApart (fun x => x = b) q (f q)) :
    Claims.OnlySched s (blockCheck c.val b (sentAt c.val n f s)) c (fun x => x = b) ∧
      ((blockCheck c.val b (sentAt c.val n f s)).chan c.val).q.clk = ((s.chan c.val).q.clockTo n).clk ∧
      ∃ w, ((blockCheck c.val b (sentAt c.val n f s)).chan c.val).q.bank b = { (f ((s.chan c.val).q.clockTo n)).bank b with blocked := w } := by
  rcases blockCheck_cases c.val b (sentAt c.val n f s) with h | h
  · rw [h, q_sentAt]
    exact ⟨onlySched_sentAt n hf, (hf _).2.1, _, rfl⟩
  · have hboth : (sentAt c.val n f s).modSched c.val (Sched.blockBank b) = sentAt c.val n (fun q => (f q).blockBank b) s :=
      modSched_modSched _ _ _ _
    obtain ⟨hframe, -, hother, hi, hqueue, hclk, hbank⟩ := onlySched_sentAt (s := s) (c := c) (B := fun x => x = b) n
      (f := fun q => (f q).blockBank b) (fun q => by
        obtain ⟨hqueue, hclk, hbank⟩ := hf q
        obtain ⟨hqueue', hclk', hbank'⟩ := keepsApart_blockBank (f q) b
        exact ⟨hqueue'.trans hqueue, hclk'.trans hclk, fun x hx => (hbank' x hx).trans (hbank x hx)⟩)
    have hq := q_sentAt c.val n (fun q => (f q).blockBank b) s
    have hclus : (sentAt c.val n (fun q => (f q).blockBank b) s).clus = s.clus := rfl
    rw [h, hboth]
    generalize sentAt c.val n (fun q => (f q).blockBank b) s = t at *
    have hchan (e : Nat) (g : Clu → Clu) : (t.modClu (cluOf c.val) g).chan e = t.chan e := rfl
    have hclu (k : Nat) : t.clu k = s.clu k := by rw [State.clu, hclus]; rfl
    refine ⟨⟨?_, fun k => ?_, hother, hi, hqueue, hclk, hbank⟩, ?_, true, ?_⟩
    · rw [hframe]; rfl
    · rw [State.clu_modClu]
      split
      next hk => rw [hk, hclu]
      next => rw [hclu]
    · rw [hchan, hq]; exact (hf _).2.1
    · rw [hchan, hq]; exact bank_blockBank _ _

section
variable {s : State} {c : ChanId} {b : BankId} {d : DieId}

/-- ACT goes out to a closed bank (R134, R143, R147). -/
theorem exec_act {row : Nat} (hcalm : Calm s) (hopen : sliceOpen s c.val (dieOf b.val) = true) (hstill : Claims.Still s c.val)
    (hsr : ((s.chan c.val).q.slice (dieOf b.val)).sr = false) (hrow : ((s.chan c.val).q.bank b.val).row = none) (hr : row < 24576)
    (hraa : ((s.chan c.val).q.bank b.val).raa < 576) :
    ∃ t, exec (.act c b row) s = .next t ∧ Claims.Issued s t c (.act b.val row) (fun x => x = b.val) ∧
      ((t.chan c.val).q.bank b.val).row = some row ∧ ((t.chan c.val).q.bank b.val).raa = ((s.chan c.val).q.bank b.val).raa + 1 ∧
      ((t.chan c.val).q.bank b.val).rdyCol = (t.chan c.val).q.clk + tRCD (s.clu (cluOf c.val)).step := by
  obtain ⟨n, hdue⟩ : ∃ n, (s.chan c.val).q.due (s.clu (cluOf c.val)).step (.act b.val row) = some n := by
    simp [Sched.due, hrow, hsr, hr, hraa]
  have hdoom := not_doomed_of_sliceOpen hopen
  have hsent : requestCommand c.val (.act b.val row) s =
      blockCheck c.val b.val (sentAt c.val n (fun q => q.act (s.clu (cluOf c.val)).step b.val row) s) := by
    rw [requestCommand_of_open (x := .act b.val row) hopen, rowCommand_of_due (ctrlOn_of_sliceOpen hopen) hstill (by exact hdoom) hdue, issue_act,
      modSched_modSched, clu_modSched, sentAt]
  obtain ⟨honly, hclk, w, hbank⟩ := blockCheck_facts (s := s) (c := c) (n := n) (fun q => keepsApart_act q (s.clu (cluOf c.val)).step b.val row)
  obtain ⟨hrow', hraa', hcol⟩ := bank_act (q := (s.chan c.val).q.clockTo n) (s.clu (cluOf c.val)).step hrow hsr
    (alert_of_still hstill (dieOf_lt b)) hr hraa
  refine ⟨_, congrArg Host.Outcome.next ((congrArg (settle s) hsent).trans (settle_onlySched hcalm honly)), ⟨honly, n, hdue, hclk⟩, ?_, ?_, ?_⟩
  · rw [hbank]; exact hrow'
  · rw [hbank]; exact hraa'
  · rw [hclk, hbank]; exact hcol

/-- PRE goes out to an open bank. -/
theorem exec_pre (hcalm : Calm s) (hopen : sliceOpen s c.val (dieOf b.val) = true) (hstill : Claims.Still s c.val)
    (hsr : ((s.chan c.val).q.slice (dieOf b.val)).sr = false) (hrow : ((s.chan c.val).q.bank b.val).row ≠ none) :
    ∃ t, requestCommand c.val (.pre b.val) s = t ∧ settle s t = t ∧ Claims.Issued s t c (.pre b.val) (fun x => x = b.val) ∧
      ((t.chan c.val).q.bank b.val).row = none := by
  obtain ⟨n, hdue⟩ : ∃ n, (s.chan c.val).q.due (s.clu (cluOf c.val)).step (.pre b.val) = some n := by
    simp [Sched.due, hsr, Option.isSome_iff_ne_none.2 hrow]
  have hissued := issued_sentAt (f := fun q => q.pre (s.clu (cluOf c.val)).step b.val) (fun q => keepsApart_pre q _ b.val) hdue
  refine ⟨_, ?_, settle_onlySched hcalm hissued.1, hissued, ?_⟩
  · have hdoom := not_doomed_of_sliceOpen hopen
    rw [requestCommand_of_open (x := .pre b.val) hopen, rowCommand_of_due (ctrlOn_of_sliceOpen hopen) hstill (by exact hdoom) hdue, issue_pre,
      modSched_modSched, clu_modSched, sentAt]
  · rw [q_sentAt]
    exact row_pre (q := (s.chan c.val).q.clockTo n) _ hsr (alert_of_still hstill (dieOf_lt b))

/-- PRE of a closed bank does nothing. -/
theorem exec_pre_closed (hcalm : Calm s) (hrow : ((s.chan c.val).q.bank b.val).row = none) : exec (.pre c b) s = .next s := by
  have hnone : requestCommand c.val (.pre b.val) s = s := by
    rw [requestCommand, rowCommand_of_not_due (by simp [Sched.due, hrow]), ite_self]
  exact congrArg Host.Outcome.next ((congrArg (settle s) hnone).trans (settle_ports s s hcalm rfl rfl))

/-- A maintenance command that the tick does not owe does nothing (R32). -/
theorem maintCommand_of_not_owed {m : Maint} (x : Cmd) (h : m ∉ (s.chan c.val).q.maint) : maintCommand c.val m x s = s :=
  if_neg (by simpa using h)

/-- A maintenance command that the tick owes goes out to an awake slice, and is owed no more (R32, R143). -/
theorem maintCommand_of_owed {m : Maint} {x : Cmd} {f : Sched → Sched} (hcalm : Calm s) (hon : ctrlOn s c.val = true)
    (hstill : Claims.Still s c.val) (hdoom : doomed (s.chan c.val).i (dieOf b.val) = false)
    (hsr : ((s.chan c.val).q.slice (dieOf b.val)).sr = false) (hx : x = .refpb b.val ∨ x = .rfmt b.val)
    (hf : ∀ q, KeepsApart (fun y => y = b.val) q (f q)) (hissue : ∀ n, issue c.val { cmd := x } (s.modSched c.val (Sched.clockTo n)) =
      sentAt c.val n (fun q => (f q).paid m) s) (howed : m ∈ (s.chan c.val).q.maint) :
    ∃ t n, settle s (maintCommand c.val m x s) = t ∧ Claims.Issued s t c x (fun y => y = b.val) ∧
      (t.chan c.val).q = (f ((s.chan c.val).q.clockTo n)).paid m := by
  obtain ⟨n, hdue⟩ : ∃ n, (s.chan c.val).q.due (s.clu (cluOf c.val)).step x = some n := by
    rcases hx with rfl | rfl <;> simp [Sched.due, hsr]
  have hdie : x.die (s.chan c.val).q = dieOf b.val := by rcases hx with rfl | rfl <;> rfl
  have hissued : Claims.Issued s (sentAt c.val n (fun q => (f q).paid m) s) c x (fun y => y = b.val) := issued_sentAt hf hdue
  have hsent : maintCommand c.val m x s = sentAt c.val n (fun q => (f q).paid m) s := by
    rw [maintCommand, if_pos (by simpa using howed), rowCommand_of_due hon hstill (by rw [hdie]; exact hdoom) hdue, hissue]
  exact ⟨_, n, by rw [hsent, settle_onlySched hcalm hissued.1], hissued, q_sentAt _ _ _ _⟩

/-- REFPB that the tick owes (R144). -/
theorem exec_refpb (hcalm : Calm s) (hon : ctrlOn s c.val = true) (hstill : Claims.Still s c.val)
    (hdoom : doomed (s.chan c.val).i (dieOf b.val) = false) (hsr : ((s.chan c.val).q.slice (dieOf b.val)).sr = false)
    (howed : Maint.refpb b.val ∈ (s.chan c.val).q.maint) :
    ∃ t, exec (.refpb c b) s = .next t ∧ Claims.Issued s t c (.refpb b.val) (fun x => x = b.val) ∧
      ((t.chan c.val).q.bank b.val).row = none ∧
      ((t.chan c.val).q.bank b.val).ptr = (((s.chan c.val).q.bank b.val).ptr + 4) % 24576 ∧
      (t.chan c.val).q.maint = (s.chan c.val).q.maint.erase (.refpb b.val) := by
  obtain ⟨t, n, ht, hissued, hq⟩ := maintCommand_of_owed (f := fun q => q.refpb (s.clu (cluOf c.val)).step b.val) (m := .refpb b.val) hcalm hon
    hstill hdoom hsr (.inl rfl) (fun q => keepsApart_refpb q _ b.val) (fun n => by rw [issue_refpb, modSched_modSched, clu_modSched, sentAt]) howed
  obtain ⟨hrow, hptr⟩ := bank_refpb (q := (s.chan c.val).q.clockTo n) (s.clu (cluOf c.val)).step hsr (alert_of_still hstill (dieOf_lt b))
  refine ⟨t, congrArg Host.Outcome.next ht, hissued, ?_, ?_, ?_⟩
  all_goals rw [hq]
  · exact hrow
  · exact hptr
  · exact congrArg (fun l => List.erase l _) (maint_refpb _ _ _)

/-- RFMT that the tick owes (R148). -/
theorem exec_rfmt (hcalm : Calm s) (hon : ctrlOn s c.val = true) (hstill : Claims.Still s c.val)
    (hdoom : doomed (s.chan c.val).i (dieOf b.val) = false) (hsr : ((s.chan c.val).q.slice (dieOf b.val)).sr = false)
    (howed : Maint.rfmt b.val ∈ (s.chan c.val).q.maint) :
    ∃ t, exec (.rfmt c b) s = .next t ∧ Claims.Issued s t c (.rfmt b.val) (fun x => x = b.val) ∧
      ((t.chan c.val).q.bank b.val).row = none ∧ ((t.chan c.val).q.bank b.val).raa = 0 ∧ ((t.chan c.val).q.bank b.val).blocked = false ∧
      (t.chan c.val).q.rfmCnt = satInc (s.chan c.val).q.rfmCnt ∧
      (t.chan c.val).q.maint = (s.chan c.val).q.maint.erase (.rfmt b.val) := by
  obtain ⟨t, n, ht, hissued, hq⟩ := maintCommand_of_owed (f := fun q => q.rfmt (s.clu (cluOf c.val)).step b.val) (m := .rfmt b.val) hcalm hon
    hstill hdoom hsr (.inr rfl) (fun q => keepsApart_rfmt q _ b.val) (fun n => by rw [issue_rfmt, modSched_modSched, clu_modSched, sentAt]) howed
  obtain ⟨hrow, hraa, hblock, hcnt⟩ := bank_rfmt (q := (s.chan c.val).q.clockTo n) (s.clu (cluOf c.val)).step hsr
    (alert_of_still hstill (dieOf_lt b))
  refine ⟨t, congrArg Host.Outcome.next ht, hissued, ?_, ?_, ?_, ?_, ?_⟩
  all_goals rw [hq]
  · exact hrow
  · exact hraa
  · exact hblock
  · exact hcnt
  · exact congrArg (fun l => List.erase l _) (maint_rfmt _ _ _)

/-- PREA closes every row of an awake slice. -/
theorem exec_prea (hcalm : Calm s) (hopen : sliceOpen s c.val d.val = true) (hstill : Claims.Still s c.val)
    (hsr : ((s.chan c.val).q.slice d.val).sr = false) :
    ∃ t, exec (.prea c d) s = .next t ∧ Claims.Issued s t c (.prea d.val) (fun x => x / 8 = d.val) ∧
      ∀ j < 8, ((t.chan c.val).q.bank (8 * d.val + j)).row = none := by
  obtain ⟨n, hdue⟩ : ∃ n, (s.chan c.val).q.due (s.clu (cluOf c.val)).step (.prea d.val) = some n := by simp [Sched.due, hsr]
  have hissued := issued_sentAt (f := fun q => q.prea (s.clu (cluOf c.val)).step d.val) (fun q => keepsApart_prea q _ d.val) hdue
  have htick : (s.clu (cluOf c.val)).stepTick ≠ 1 := fun h => by
    simpa [Clu.inStep, h] using not_inStep_of_sliceOpen hopen
  have hsent : requestCommand c.val (.prea d.val) s = sentAt c.val n (fun q => q.prea (s.clu (cluOf c.val)).step d.val) s := by
    have hdoom := not_doomed_of_sliceOpen hopen
    rw [requestCommand_of_open (x := .prea d.val) hopen, rowCommand_of_due (ctrlOn_of_sliceOpen hopen) hstill (by exact hdoom) hdue, issue_prea,
      modSched_modSched, clu_modSched, sentAt]
  refine ⟨_, congrArg Host.Outcome.next ?_, hissued, ?_⟩
  · rw [if_neg htick, hsent, settle_onlySched hcalm hissued.1]
  · rw [q_sentAt]
    exact rows_prea (q := (s.chan c.val).q.clockTo n) hsr (alert_of_still hstill d.isLt)

/-- PCLR ends the alert that a slice shows (R158, R159). -/
theorem exec_pclr (hon : ctrlOn s c.val = true) (hal : ((s.chan c.val).q.slice d.val).alert = true) :
    ∃ t, exec (.pclr c d) s = .next t ∧ Claims.OnlySched s t c (fun _ => False) ∧ ((t.chan c.val).q.slice d.val).alert = false ∧
      (t.chan c.val).q.replayFrom = (s.chan c.val).q.clk + 1 + tPARREC (s.clu (cluOf c.val)).step := by
  have hpclr (q : Sched) (k : Nat) (h : (q.slice d.val).alert = true) : KeepsApart (fun _ => False) q (q.pclr k d.val) ∧
      ((q.pclr k d.val).slice d.val).alert = false ∧ (q.pclr k d.val).replayFrom = q.clk + tPARREC k := by
    rw [Sched.pclr, if_pos h]
    refine ⟨⟨rfl, rfl, fun _ _ => rfl⟩, ?_, rfl⟩
    have hslice := Sched.slice_modSlice (q.log .pclr d.val 0 0) d.val d.val (fun y => { y with alert := false, rdy := max y.rdy (q.clk + tPARREC k) })
    exact congrArg Slice.alert (hslice.trans (if_pos rfl))
  have hq := State.modSched_q s c.val (fun q => { q with clk := q.clk + 1 }.pclr (s.clu (cluOf c.val)).step d.val)
  obtain ⟨⟨hqueue, hclk, hbank⟩, halert, hfrom⟩ := hpclr { (s.chan c.val).q with clk := (s.chan c.val).q.clk + 1 } (s.clu (cluOf c.val)).step hal
  refine ⟨_, congrArg Host.Outcome.next (if_pos hon), onlySched_modSched hqueue ?_ hbank, ?_, ?_⟩
  · rw [hclk]; exact Nat.lt_succ_self _
  · rw [hq]; exact halert
  · rw [hq]; exact hfrom

end

/-- Settles O36: each command goes out at the clock that is due for it, and does to its banks what its scheduler function says. -/
theorem rowCommandsAct : Obligations.RowCommandsAct := by
  intro s c b d row hcalm q i k here
  refine ⟨fun hopen hstill hsr => ⟨fun hrow hr hraa => ?_, fun hrow => ?_, exec_pre_closed hcalm⟩,
    fun hon hstill hdoom hsr => ⟨fun howed => ?_, fun howed => ?_⟩, fun hnot => ?_, fun hnot => ?_, fun hopen hstill hsr => ?_, fun hon hal => ?_⟩
  · exact exec_act hcalm hopen hstill hsr hrow hr hraa
  · obtain ⟨t, hcmd, hsettle, hissued, hclosed⟩ := exec_pre hcalm hopen hstill hsr hrow
    exact ⟨t, congrArg Host.Outcome.next ((congrArg (settle s) hcmd).trans hsettle), hissued, hclosed⟩
  · exact exec_refpb hcalm hon hstill hdoom hsr howed
  · exact exec_rfmt hcalm hon hstill hdoom hsr howed
  · exact congrArg Host.Outcome.next ((congrArg (settle s) (maintCommand_of_not_owed _ hnot)).trans (settle_ports s s hcalm rfl rfl))
  · exact congrArg Host.Outcome.next ((congrArg (settle s) (maintCommand_of_not_owed _ hnot)).trans (settle_ports s s hcalm rfl rfl))
  · exact exec_prea hcalm hopen hstill hsr
  · exact exec_pclr hon hal

end Sys2Proof.Machine
end

section
/-! PROOF of O37: self-refresh and the timed closing of a row (R142, R152, R153, R155, R426). -/

namespace Sys2Proof.Machine

/-! ### Changes of one channel and its cluster -/

theorem onlyChan_modSched {s : State} {c : ChanId} {f : Sched → Sched} (hqueue : (f (s.chan c.val).q).queue = (s.chan c.val).q.queue) :
    Claims.OnlyChan s (s.modSched c.val f) c := by
  refine ⟨rfl, fun _ _ => rfl, (onChan_modSched _ _ _).2, State.modSched_i _ _ _ _, ?_⟩
  rw [State.modSched_q]
  exact hqueue

theorem onlyChan_modClu {s t : State} {c : ChanId} (h : Claims.OnlyChan s t c) (g : Clu → Clu) :
    Claims.OnlyChan s (t.modClu (cluOf c.val) g) c := by
  obtain ⟨hframe, hclu, hchan, hi, hqueue⟩ := h
  refine ⟨?_, fun k hk => ?_, hchan, hi, hqueue⟩
  · rw [hframe]; rfl
  · rw [State.clu_modClu, if_neg hk]
    exact hclu k hk

theorem chan_stopClock (k : Nat) (s : State) (c : Nat) : (stopClock k s).chan c = s.chan c := by
  unfold stopClock
  split <;> rfl

theorem onlyChan_stopClock {s t : State} {c : ChanId} (h : Claims.OnlyChan s t c) : Claims.OnlyChan s (stopClock (cluOf c.val) t) c := by
  unfold stopClock
  split
  · exact onlyChan_modClu h _
  · exact h

theorem not_lightship_of_ctrlOn {s : State} {c : Nat} (h : ctrlOn s c = true) : s.ls.on = false := by
  simp only [ctrlOn, Bool.and_eq_true, Bool.not_eq_true'] at h
  exact h.2

/-! ### SRE and SRX of a slice (R152, R153) -/

/-- SRE of an awake slice: its die's timer takes over, and its rows are closed. -/
theorem sre_of_awake {q : Sched} {d : Nat} (tick : Nat) (doubled : Bool) (hsr : (q.slice d).sr = false) :
    ((q.sre tick d doubled).slice d).srSince = tick ∧
      ((q.sre tick d doubled).slice d).srDoubled = (doubled || q.doubled.getLsbD d) ∧
      ∀ j < 8, ((q.sre tick d doubled).bank (8 * d + j)).row = none := by
  obtain ⟨-, -, hrow⟩ := foldl_touches (get := Sched.bank) (I := fun _ => True) (C := fun _ _ => True) (P := fun _ _ y => y.row = none)
    (f := fun q j => q.modBank (8 * d + j) Bank.shut) (fun j => 8 * d + j) (fun _ _ _ _ => trivial)
    (fun q j b _ _ hb => (Sched.bank_modBank _ _ _ _).trans (if_neg hb))
    (fun q j _ _ => by rw [Sched.bank_modBank, if_pos rfl]; rfl) (l := List.range 8)
    (List.nodup_range.map (fun _ _ h => Nat.add_left_cancel h)) (s := q) trivial (fun _ _ => trivial)
  obtain ⟨hshut, -⟩ := foldl_modBank_keeps (fun j => 8 * d + j) (fun _ => Bank.shut) (List.range 8) q
  have hdoubled : ((List.range 8).foldl (fun q j => q.modBank (8 * d + j) Bank.shut) q).doubled = q.doubled := (congrArg Sched.doubled hshut :)
  rw [Sched.sre, if_neg (by simp [hsr]), Sched.slice_modSlice, if_pos rfl]
  exact ⟨rfl, congrArg (fun w => doubled || w.getLsbD d) hdoubled, fun j hj => hrow j (List.mem_range.2 hj)⟩

/-- SRX of a slice in self-refresh: the next command to it waits tXSR. -/
theorem srx_of_asleep {q : Sched} {d : Nat} (step tick : Nat) (hsr : (q.slice d).sr = true) :
    OnRows q (q.srx step tick d) ∧ (q.srx step tick d).clk = q.clk ∧ ((q.srx step tick d).slice d).sr = false ∧
      ((q.srx step tick d).slice d).rdy = q.clk + tXSR step ∧ ∀ e, e ≠ d → (q.srx step tick d).slice e = q.slice e := by
  obtain ⟨hrows, hslices⟩ := timer_keeps q tick d
  rw [Sched.srx, if_pos hsr]
  refine ⟨hrows, clk_foldl_modBank _ (fun _ => Bank.timer _) _ _, ?_, ?_, fun e he => ?_⟩
  · rw [Sched.slice_modSlice, if_pos rfl]
  · rw [Sched.slice_modSlice, if_pos rfl]
  · rw [Sched.slice_modSlice, if_neg he, slice_congr hslices]

/-- The scheduler after SRE of slice `d` by a command. -/
def Sched.sreSent (tick d : Nat) (doubled : Bool) (q : Sched) : Sched := ((q.log .sre d 0 0).sre tick d doubled).paid (.srePrea d)

/-- The scheduler after SRX of slice `d` by a command. -/
def Sched.srxSent (step tick d : Nat) (q : Sched) : Sched := ((q.log .srx d 0 0).srx step tick d).paid (.srx d)

section
variable (c d : Nat) (s : State)

theorem issue_sre : issue c { cmd := .sre d } s = s.modSched c (Sched.sreSent s.day.tick d s.ls.on) := by
  rw [← show _ = s.modSched c (Sched.sreSent s.day.tick d s.ls.on) from
    modSched_modSched s c (fun q => (q.log .sre d 0 0).sre s.day.tick d s.ls.on) (Sched.paid (.srePrea d))]
  rfl

theorem issue_srx : issue c { cmd := .srx d } s =
    (s.modSched c (Sched.srxSent (s.clu (cluOf c)).step s.day.tick d)).modClu (cluOf c) (fun u => { u with clkStop := false }) := by
  rw [← show _ = s.modSched c (Sched.srxSent (s.clu (cluOf c)).step s.day.tick d) from
    modSched_modSched s c (fun q => (q.log .srx d 0 0).srx (s.clu (cluOf c)).step s.day.tick d) (Sched.paid (.srx d))]
  rfl

end

section
variable {s : State} {c : ChanId} {b : BankId} {d : DieId}

/-- SRE goes out to an awake slice without open rows (R152, R153, R155). -/
theorem exec_sre (hcalm : Calm s) (hon : ctrlOn s c.val = true) (hstill : Claims.Still s c.val)
    (hdoom : doomed (s.chan c.val).i d.val = false) (hsr : ((s.chan c.val).q.slice d.val).sr = false)
    (hrows : ∀ j < 8, ((s.chan c.val).q.bank (8 * d.val + j)).row = none)
    (hfree : (s.clu (cluOf c.val)).stepTick = 1 ∨
      ((s.clu (cluOf c.val)).inStep = false ∧ ∀ e ∈ (s.chan c.val).q.queue, dieOf (bankOf (128 * e.chunk)) ≠ d.val)) :
    ∃ t, exec (.sre c d) s = .next t ∧ Claims.OnlyChan s t c ∧
      ((t.chan c.val).q.slice d.val).sr = true ∧ ((t.chan c.val).q.slice d.val).srSince = s.day.tick ∧
      ((t.chan c.val).q.slice d.val).srDoubled = (s.chan c.val).q.doubled.getLsbD d.val ∧
      (∀ j < 8, ((t.chan c.val).q.bank (8 * d.val + j)).row = none) ∧
      ∀ e, e ≠ d.val → (t.chan c.val).q.slice e = (s.chan c.val).q.slice e := by
  obtain ⟨n, hdue⟩ : ∃ n, (s.chan c.val).q.due (s.clu (cluOf c.val)).step (.sre d.val) = some n := by
    simpa [Sched.due, hsr] using hrows
  have hcmd : sreCmd c.val d.val s = s.modSched c.val (fun q => (q.clockTo n).sreSent s.day.tick d.val false) := by
    rw [sreCmd, if_pos (by simpa using hfree), rowCommand_of_due hon hstill (by exact hdoom) hdue, issue_sre, modSched_modSched,
      ← not_lightship_of_ctrlOn hon]
    rfl
  obtain ⟨honrows, hasleep, hother⟩ := sre_facts (((s.chan c.val).q.clockTo n).log .sre d.val 0 0) s.day.tick d.val false
  obtain ⟨hsince, hdoubled, hclosed⟩ := sre_of_awake (q := ((s.chan c.val).q.clockTo n).log .sre d.val 0 0) s.day.tick false hsr
  have honly : Claims.OnlyChan s (stopClock (cluOf c.val) (sreCmd c.val d.val s)) c := by
    rw [hcmd]
    exact onlyChan_stopClock (onlyChan_modSched (queue_of_onRows honrows :))
  refine ⟨_, congrArg Host.Outcome.next (settle_onlyChan hcalm honly), honly, ?_⟩
  rw [chan_stopClock, hcmd, State.modSched_q]
  exact ⟨hasleep, hsince, hdoubled, hclosed, hother⟩

/-- SRX goes out to a slice in self-refresh, outside T1 and T2 (R152, R155). -/
theorem exec_srx (hcalm : Calm s) (hon : ctrlOn s c.val = true) (hstill : Claims.Still s c.val)
    (hdoom : doomed (s.chan c.val).i d.val = false) (hsr : ((s.chan c.val).q.slice d.val).sr = true)
    (ht1 : (s.clu (cluOf c.val)).stepTick ≠ 1) (ht2 : (s.clu (cluOf c.val)).stepTick ≠ 2) :
    ∃ t, exec (.srx c d) s = .next t ∧ Claims.OnlyChan s t c ∧
      (t.chan c.val).q.clk = max ((s.chan c.val).q.clk + 1) (((s.chan c.val).q.slice d.val).rdy + tCKESR (s.clu (cluOf c.val)).step) ∧
      ((t.chan c.val).q.slice d.val).sr = false ∧
      ((t.chan c.val).q.slice d.val).rdy = (t.chan c.val).q.clk + tXSR (s.clu (cluOf c.val)).step ∧
      (t.clu (cluOf c.val)).clkStop = false ∧ ∀ e, e ≠ d.val → (t.chan c.val).q.slice e = (s.chan c.val).q.slice e := by
  obtain ⟨n, hn⟩ : ∃ n, n = ((s.chan c.val).q.slice d.val).rdy + tCKESR (s.clu (cluOf c.val)).step := ⟨_, rfl⟩
  have hdue : (s.chan c.val).q.due (s.clu (cluOf c.val)).step (.srx d.val) = some n := by
    simp [Sched.due, hsr, hn]
  have hcmd : srxCmd c.val d.val s =
      (s.modSched c.val (fun q => (q.clockTo n).srxSent (s.clu (cluOf c.val)).step s.day.tick d.val)).modClu (cluOf c.val)
        (fun u => { u with clkStop := false }) := by
    rw [srxCmd, if_neg (by simp [ht1, ht2]), rowCommand_of_due hon hstill (by exact hdoom) hdue, issue_srx, modSched_modSched]
    rfl
  obtain ⟨honrows, hclk, hawake, hrdy, hother⟩ := srx_of_asleep (q := ((s.chan c.val).q.clockTo n).log .srx d.val 0 0)
    (s.clu (cluOf c.val)).step s.day.tick hsr
  have honly : Claims.OnlyChan s (srxCmd c.val d.val s) c := by
    rw [hcmd]
    exact onlyChan_modClu (onlyChan_modSched (queue_of_onRows honrows :)) _
  refine ⟨_, congrArg Host.Outcome.next (settle_onlyChan hcalm honly), honly, ?_⟩
  rw [hcmd, State.clu_modClu, if_pos rfl, ← hn]
  rw [show ((s.modSched c.val _).modClu (cluOf c.val) _).chan c.val = (s.modSched c.val _).chan c.val from rfl, State.modSched_q]
  exact ⟨hclk, hawake, hrdy.trans (congrArg (· + _) hclk.symm), rfl, hother⟩

/-- An idle channel goes into self-refresh (R152, R426). -/
theorem exec_srIdleExpiry (hon : ctrlOn s c.val = true) (hstill : Claims.Still s c.val)
    (hstep : (s.clu (cluOf c.val)).inStep = false) (hqueue : (s.chan c.val).q.queue = []) (hlink : (s.chan c.val).q.link = [])
    (hidle : s.pwr.srAct = true ∨ ((s.clu (cluOf c.val)).srIdle ≠ 0 ∧ (s.clu (cluOf c.val)).srIdle ≤ (s.chan c.val).q.emptyTicks)) :
    ∃ t, exec (.srIdleExpiry c) s = .next t ∧ Claims.OnlyChan s t c ∧
      ∀ e < 16, doomed (s.chan c.val).i e = false → ((t.chan c.val).q.slice e).sr = true := by
  obtain ⟨hframe, hchan⟩ := landAll_of_still hstill
  have hcmd : srIdle c.val s = stopClock (cluOf c.val) (chanSleep false c.val (landAll c.val s)) :=
    if_pos (by simpa [hon, hstep, hqueue, hlink, episode_of_still hstill] using hidle)
  have hstill' : Claims.Still (landAll c.val s) c.val := by rw [Claims.Still, hchan]; exact hstill
  have hsleeps := chanSleep_sleeps false (s := landAll c.val s) hstill'
  have honly : Claims.OnlyChan s (chanSleep false c.val (landAll c.val s)) c := by
    refine ⟨?_, fun k _ => ?_, fun e he => ?_, ?_, ?_⟩
    · rw [hframe]; rfl
    · rw [hframe]; rfl
    · rw [chanSleep, State.chan_modChan, if_neg he, hchan]
    · rw [chanSleep, State.chan_modChan, if_pos rfl, hchan]
    · rw [chanSleep, State.chan_modChan, if_pos rfl, hchan]
      exact queue_of_onRows (OnRows.foldl (fun q d => onRows_sleep _ _ _ q d) _ _)
  refine ⟨_, congrArg Host.Outcome.next hcmd, onlyChan_stopClock honly, fun e he hdoom => ?_⟩
  rw [chan_stopClock]
  obtain ⟨-, -, -, hi, -⟩ := honly
  exact hsleeps e he (by rw [hi]; exact hdoom)

/-- The scheduler whose clock is at least `n`. -/
def Sched.clockFrom (n : Nat) (q : Sched) : Sched := { q with clk := max q.clk n }

/-- An open row that nothing has used for OPEN_MAX clocks closes (R142, R162). -/
theorem exec_openMaxExpiry (hcalm : Calm s) (hstill : Claims.Still s c.val) (hrow : ((s.chan c.val).q.bank b.val).row ≠ none)
    (hopen : sliceOpen s c.val (dieOf b.val) = true) (hsr : ((s.chan c.val).q.slice (dieOf b.val)).sr = false)
    (hqueue : (s.chan c.val).q.queue = []) :
    ∃ t, exec (.openMaxExpiry c b) s = .next t ∧ Claims.OnlySched s t c (fun x => x = b.val) ∧
      ((t.chan c.val).q.bank b.val).row = none ∧
      ((s.chan c.val).q.bank b.val).lastUse + max 1 (s.clu (cluOf c.val)).openMax ≤ (t.chan c.val).q.clk := by
  obtain ⟨n, hn⟩ : ∃ n, n = ((s.chan c.val).q.bank b.val).lastUse + max 1 (s.clu (cluOf c.val)).openMax - 1 := ⟨_, rfl⟩
  have hcmd : openMax c.val b.val s = requestCommand c.val (.pre b.val) (s.modSched c.val (Sched.clockFrom n)) := by
    rw [openMax, if_pos (by simp [hqueue, Option.isSome_iff_ne_none.2 hrow]), hn]
    rfl
  have hq : ((s.modSched c.val (Sched.clockFrom n)).chan c.val).q = (s.chan c.val).q.clockFrom n := State.modSched_q _ _ _
  have hi : ((s.modSched c.val (Sched.clockFrom n)).chan c.val).i = (s.chan c.val).i := State.modSched_i _ _ _ _
  have hother := (onChan_modSched s c.val (Sched.clockFrom n)).2
  have hopen' : sliceOpen (s.modSched c.val (Sched.clockFrom n)) c.val (dieOf b.val) = true := by
    rw [sliceOpen_iff] at hopen ⊢
    rw [hq, hi]
    exact hopen
  have hstill' : Claims.Still (s.modSched c.val (Sched.clockFrom n)) c.val := by rw [Claims.Still, hq]; exact hstill
  obtain ⟨t, ht, -, ⟨⟨hframe, hclu, hchan, hint, hlist, hclk, hbank⟩, -⟩, hclosed⟩ :=
    exec_pre (s := s.modSched c.val (Sched.clockFrom n)) (c := c) (b := b) hcalm hopen' hstill' (by rw [hq]; exact hsr) (by rw [hq]; exact hrow)
  rw [hq] at hlist hclk hbank
  have hle : max (s.chan c.val).q.clk n < (t.chan c.val).q.clk := hclk
  refine ⟨t, congrArg Host.Outcome.next (hcmd.trans ht), ⟨?_, hclu, fun e he => (hchan e he).trans (hother e he), hint.trans hi, hlist, ?_, hbank⟩,
    hclosed, ?_⟩
  · rw [hframe]; rfl
  · exact Nat.lt_of_le_of_lt (Nat.le_max_left _ _) hle
  · omega

end

/-- Settles O37: each command's change of its slice is that of the scheduler function it stands for, and only a stopped or started clock of
the cluster comes with it. -/
theorem selfRefreshEntersAndLeaves : Obligations.SelfRefreshEntersAndLeaves := by
  intro s c b d hcalm hon hstill q u
  refine ⟨fun hdoom hsr hrows hfree => ?_, fun hdoom hsr ht1 ht2 => ?_, fun hstep hqueue hlink hidle => ?_, fun hrow hopen hsr hqueue => ?_⟩
  · exact exec_sre hcalm hon hstill hdoom hsr hrows hfree
  · exact exec_srx hcalm hon hstill hdoom hsr ht1 ht2
  · exact exec_srIdleExpiry hon hstill hstep hqueue hlink hidle
  · exact exec_openMaxExpiry hcalm hstill hrow hopen hsr hqueue

end Sys2Proof.Machine
end

section
/-! SUPPORT. A channel with one request in its queue: what its next command is, and its service by a column command (R134, R135, R137). -/

namespace Sys2Proof.Machine

/-! ### What a granule's place and an entry's next command depend on -/

theorem cellsOf_congr {s t : State} (hi : ∀ c, (t.chan c).i = (s.chan c).i) (ht : t.tenderPart = s.tenderPart) (g : Nat) :
    cellsOf t g = cellsOf s g := by
  simp [cellsOf, (physGran_congr (congrArg Integ.redirects (hi _)) ht).1]

theorem livesAt_congr {s t : State} (hi : ∀ c, (t.chan c).i = (s.chan c).i) (ht : t.tenderPart = s.tenderPart) (ch b r j : Nat) :
    livesAt t ch b r j = livesAt s ch b r j := by
  have hp (g : Nat) := (physGran_congr (g := g) (congrArg Integ.redirects (hi _)) ht).1
  simp only [livesAt, hi, ht, hp]

/-- A scheduler without its clock and its mode. -/
def Sched.atRest (q : Sched) : Sched := { q with clk := 0, writeMode := false }

/-- The next command of an entry depends on its channel's banks, slices, queue and flights, and on the places of its granules. -/
theorem nextCmd_congr {s t : State} {ch : Nat} (hq : (t.chan ch).q.atRest = (s.chan ch).q.atRest) (hi : ∀ c, (t.chan c).i = (s.chan c).i)
    (ht : t.tenderPart = s.tenderPart) (e : Entry) : nextCmd ch t e = nextCmd ch s e := by
  have hbanks : (t.chan ch).q.banks = (s.chan ch).q.banks := (congrArg Sched.banks hq :)
  have hslices : (t.chan ch).q.slices = (s.chan ch).q.slices := (congrArg Sched.slices hq :)
  have hqueue : (t.chan ch).q.queue = (s.chan ch).q.queue := (congrArg Sched.queue hq :)
  have hflights : (t.chan ch).q.flights = (s.chan ch).q.flights := (congrArg Sched.flights hq :)
  have hbefore (g : Nat) : (t.chan ch).q.before e g = (s.chan ch).q.before e g := by rw [Sched.before, hqueue]; rfl
  have hslice (d : Nat) : (t.chan ch).q.slice d = (s.chan ch).q.slice d := slice_congr hslices d
  have htowards (b r col : Nat) (w : Bool) : towards (t.chan ch).q b r col w = towards (s.chan ch).q b r col w := by
    unfold towards
    rw [Sched.bank, hbanks]
    rfl
  have hwritable (g : Nat) : writable ch t e g = writable ch s e g := by
    unfold writable
    rw [hbefore, hi]
  simp only [nextCmd, hwritable, htowards, hbefore, hslice, cellsOf_congr hi ht, hi, hflights]

/-- A change of one scheduler leaves the integrity units as they are. -/
theorem i_modSched (s : State) (c : Nat) (f : Sched → Sched) (d : Nat) : ((s.modSched c f).chan d).i = (s.chan d).i := by
  rw [State.modSched, State.chan_modChan]
  split
  next hd => rw [hd]
  next => rfl

theorem nextCmd_modSched {s : State} {ch : Nat} {f : Sched → Sched} (hf : (f (s.chan ch).q).atRest = (s.chan ch).q.atRest) (e : Entry) :
    nextCmd ch (s.modSched ch f) e = nextCmd ch s e :=
  nextCmd_congr (by rw [State.modSched_q]; exact hf) (i_modSched s ch f) rfl e

/-- The column command on bank `b` that a pick stands for. -/
abbrev colCmd (rd : Bool) (b col : Nat) : Cmd := if rd then .rdc b col else .wrc b col

/-- A column command is next only where the slice is awake. -/
theorem awake_of_nextCmd {s : State} {ch b col : Nat} {rd : Bool} {e : Entry} (h : nextCmd ch s e = some (colCmd rd b col)) :
    ((s.chan ch).q.slice (dieOf b)).sr = false := by
  obtain ⟨g, -, hg⟩ := List.exists_of_findSome?_eq_some h
  dsimp only at hg
  split_ifs at hg with hgo hsr hfl
  · cases rd <;> cases hg
  · have hbank : (cellsOf s (2 * e.chunk + g)).1 = b := by
      unfold towards at hg
      split at hg
      · cases rd <;> cases hg
      · split_ifs at hg <;> cases rd <;> cases hg <;> rfl
    rw [← hbank]
    simpa using hsr

/-! ### The one request of a channel -/

/-- From `s` to `t` only the scheduler of channel `ch` changed; the one request of its queue is now `e`, and none waits on its links. -/
def OnlyEntry (s t : State) (ch : Nat) (e : Entry) : Prop :=
  t = { s with chans := t.chans } ∧ (∀ c, c ≠ ch → t.chan c = s.chan c) ∧ (t.chan ch).i = (s.chan ch).i ∧
    (t.chan ch).q.requests = ([e], [], (s.chan ch).q.done)

/-- Entries that need nothing more leave, and the request `e` has been performed. -/
def Sched.performed (e : Entry) (q : Sched) : Sched :=
  { q with queue := q.queue.filter (fun e => e.need ≠ 0), done := q.done ++ [{ e := e, how := .performed }] }

section
variable {s t : State} {ch : Nat} {e f : Entry}

theorem onlyEntry_refl (hqueue : (s.chan ch).q.queue = [e]) (hlink : (s.chan ch).q.link = []) : OnlyEntry s s ch e :=
  ⟨rfl, fun _ _ => rfl, rfl, by rw [Sched.requests, hqueue, hlink]⟩

theorem OnlyEntry.queue (h : OnlyEntry s t ch e) : (t.chan ch).q.queue = [e] := by
  obtain ⟨-, -, -, hreq⟩ := h
  exact congrArg Prod.fst hreq

theorem OnlyEntry.link (h : OnlyEntry s t ch e) : (t.chan ch).q.link = [] := by
  obtain ⟨-, -, -, hreq⟩ := h
  exact congrArg (fun r => r.2.1) hreq

theorem OnlyEntry.done (h : OnlyEntry s t ch e) : (t.chan ch).q.done = (s.chan ch).q.done := by
  obtain ⟨-, -, -, hreq⟩ := h
  exact congrArg (fun r => r.2.2) hreq

theorem OnlyEntry.integ (h : OnlyEntry s t ch e) (c : Nat) : (t.chan c).i = (s.chan c).i := by
  obtain ⟨-, hother, hi, -⟩ := h
  by_cases hc : c = ch
  · rw [hc, hi]
  · rw [hother c hc]

/-- The scheduler changes, and its one request becomes `f`. -/
theorem OnlyEntry.modSched {u : Sched → Sched} (h : OnlyEntry s t ch e)
    (hu : (u (t.chan ch).q).requests = ([f], (t.chan ch).q.link, (t.chan ch).q.done)) : OnlyEntry s (t.modSched ch u) ch f := by
  rw [h.link, h.done] at hu
  obtain ⟨hframe, hother, hi, -⟩ := h
  refine ⟨by rw [hframe]; rfl, fun c hc => ((onChan_modSched t ch u).2 c hc).trans (hother c hc), (State.modSched_i _ _ _ _).trans hi, ?_⟩
  rw [State.modSched_q]
  exact hu

/-- The scheduler changes beside its requests. -/
theorem OnlyEntry.modSched_same {u : Sched → Sched} (h : OnlyEntry s t ch e) (hu : (u (t.chan ch).q).requests = (t.chan ch).q.requests) :
    OnlyEntry s (t.modSched ch u) ch e :=
  h.modSched (hu.trans (by rw [Sched.requests, h.queue]))

theorem OnlyEntry.put (h : OnlyEntry s t ch e) (hid : f.id = e.id) : OnlyEntry s (t.modSched ch (fun q => q.put f)) ch f :=
  h.modSched (by simp [Sched.requests, Sched.put, h.queue, hid])

/-- Without partial writes on a granule that no merge entry holds, the merge buffer has nothing to handle. -/
theorem settleOn_of_unmerged {g : Nat} (hm : (s.chan ch).i.mergeOf g = none) (hp : ∀ e ∈ (s.chan ch).q.queue, ∀ h < 2, e.op.partialAt h = false) :
    settleOn ch g s = s := by
  have hwait : mergeWaiter (s.chan ch) = none := by
    simp only [mergeWaiter, List.findSome?_eq_none_iff]
    intro e he k hk
    simp [hp e he k (List.mem_range.1 hk)]
  have hroom (n : Nat) : settleRoom n ch s = s := by
    cases n with
    | zero => rfl
    | succ n => simp [settleRoom, hwait]
  have hgran (n : Nat) : settleGran n ch g s = s := by
    cases n with
    | zero => rfl
    | succ n =>
      unfold settleGran
      split
      · rfl
      · cases he : (s.chan ch).q.firstOn g with
        | none => rfl
        | some e => simp [hm, hp e (List.mem_of_find?_eq_some he) (g % 2) (Nat.mod_lt g (by decide))]
  rw [settleOn, hgran, hroom]

/-- A request that still needs a granule stays. -/
theorem leaveQueue_of_needed (hqueue : (s.chan ch).q.queue = [e]) (hlink : (s.chan ch).q.link = []) (hneed : e.need ≠ 0#2) :
    leaveQueue ch s = s := by
  simp [leaveQueue, hqueue, hlink, hneed]

/-- The one request of a channel leaves when it needs nothing more (R190). -/
theorem leaveQueue_of_served (hqueue : (s.chan ch).q.queue = [e]) (hlink : (s.chan ch).q.link = []) (hneed : e.need = 0#2) :
    leaveQueue ch s = { s with chans := (leaveQueue ch s).chans, sec := (leaveQueue ch s).sec } ∧
      (∀ c, c ≠ ch → (leaveQueue ch s).chan c = s.chan c) ∧ ((leaveQueue ch s).chan ch).q.queue = [] ∧
      ((leaveQueue ch s).chan ch).q.done = (s.chan ch).q.done ++ [{ e := e, how := .performed }] := by
  have hout : (s.chan ch).q.queue.filter (fun e => e.need = 0) = [e] := by
    rw [hqueue]
    exact List.filter_cons_of_pos (decide_eq_true hneed)
  have honce : leaveOnce ch s = releasePlace ch e.cls (s.modSched ch (Sched.performed e)) := by
    rw [leaveOnce, hout]
    rfl
  obtain ⟨hframe, hother, -, hq⟩ := onPlaces_releasePlace ch e.cls (s.modSched ch (Sched.performed e))
  rw [← honce, State.modSched_q] at hq
  rw [← honce] at hframe hother
  have hleave : leaveQueue ch s = leaveOnce ch s := by
    rw [leaveQueue, if_neg (by simp [hqueue, hlink, hneed])]
    exact leaveLoop_of_link_nil ((congrArg Sched.link hq :).trans hlink)
  rw [hleave]
  refine ⟨hframe, fun c hc => (hother c hc).trans ((onChan_modSched s ch _).2 c hc), ?_, (congrArg Sched.done hq :)⟩
  refine (congrArg Sched.queue hq :).trans ?_
  change (s.chan ch).q.queue.filter (fun e => e.need ≠ 0) = []
  rw [hqueue]
  exact List.filter_cons_of_neg (a := e) (fun h => of_decide_eq_true h hneed)

end

/-! ### A column command goes out and lands -/

/-- A column command for the queue on the open row `r` of bank `b`, on its way. -/
def Sched.colFlight (k b r col : Nat) (rd : Bool) (errs : List SymErr) (entry : Option Nat) (q : Sched) : Flight where
  due := if rd then q.clk + tCL k + 1 else q.clk + tCWL k + 1
  rd := rd
  clk := q.clk
  bank := b
  row := r
  col := col
  errs := errs
  entry := entry

/-- The scheduler after a column command for its queue on the open row `r` of bank `b`. -/
def Sched.colSent (k b r col : Nat) (rd : Bool) (errs : List SymErr) (entry : Option Nat) (q : Sched) : Sched :=
  { (q.column k b col rd none) with flights := q.flights ++ [q.colFlight k b r col rd errs entry] }

theorem requests_colSent (k b r col : Nat) (rd : Bool) (errs : List SymErr) (entry : Option Nat) (q : Sched) :
    (q.colSent k b r col rd errs entry).requests = q.requests := by
  simp only [Sched.requests, Sched.colSent, Sched.column, Sched.modBank, Sched.log]

theorem columnIssue_of_open {s : State} {ch b r : Nat} (col : Nat) (rd : Bool) (errs : List SymErr)
    (hrow : ((s.chan ch).q.bank b).row = some r) (hsr : ((s.chan ch).q.slice (dieOf b)).sr = false)
    (hal : ((s.chan ch).q.slice (dieOf b)).alert = false) (hdoom : doomed (s.chan ch).i (dieOf b) = false) :
    columnIssue ch b col rd errs none s = s.modSched ch (Sched.colSent (s.clu (cluOf ch)).step b r col rd errs
      (if rd then none else ((s.chan ch).q.queue.find? (fun e => !(writesAt ch s b r col e).isEmpty)).map (·.id))) := by
  unfold columnIssue
  dsimp only
  rw [hrow]
  dsimp only
  rw [if_neg (by simp [hsr, hal, hdoom])]
  rfl

/-- The one column command in flight has its effect. -/
theorem landAll_of_single {s : State} {ch : Nat} {f : Flight} (h : (s.chan ch).q.flights = [f]) :
    landAll ch s = landOne ch (s.modSched ch (fun q => { q with clk := maxOf (q.clk :: q.flights.map (·.due)) })) f := by
  have hdue : f.due ≤ maxOf ((s.chan ch).q.clk :: (s.chan ch).q.flights.map (·.due)) := by
    rw [h]
    exact Nat.le_max_right _ _
  have hflights : ((s.chan ch).q.flights.filter (fun g => g.due ≤ maxOf ((s.chan ch).q.clk :: (s.chan ch).q.flights.map (·.due)))) = [f] := by
    rw [h] at hdue ⊢
    exact List.filter_cons_of_pos (decide_eq_true hdue)
  rw [landAll, land, State.modSched_q]
  dsimp only
  rw [hflights]
  rfl

/-- A column command that the one request of a channel waits for goes out and lands (R134, R135). -/
theorem columnRow_lands {s : State} {ch b col row : Nat} {rd : Bool} {e : Entry} (hqueue : (s.chan ch).q.queue = [e])
    (hlink : (s.chan ch).q.link = []) (hstill : Claims.Still s ch) (hopen : sliceOpen s ch (dieOf b) = true) (hdie : dieOf b < 16)
    (hrow : ((s.chan ch).q.bank b).row = some row) (hnext : nextCmd ch s e = some (colCmd rd b col))
    (hwrites : rd = false → (writesAt ch s b row col e).isEmpty = false) :
    ∃ t f, columnRow ch b col rd [] s = landOne ch t f ∧ OnlyEntry s t ch e ∧ f.rd = rd ∧ f.bank = b ∧ f.row = row ∧ f.col = col ∧
      f.errs = [] ∧ f.job = none ∧ f.entry = (if rd then none else some e.id) := by
  have hsr := awake_of_nextCmd hnext
  have hal := alert_of_still hstill hdie
  obtain ⟨hfl, -⟩ := hstill
  obtain ⟨n, hdue⟩ : ∃ n, (s.chan ch).q.due (s.clu (cluOf ch)).step (colCmd rd b col) = some n := by
    cases rd <;> simp [colCmd, Sched.due, hrow, hsr]
  obtain ⟨s1, hs1⟩ : ∃ s1, s1 = s.modSched ch (Sched.clockTo n) := ⟨_, rfl⟩
  have hq1 : (s1.chan ch).q = (s.chan ch).q.clockTo n := by rw [hs1, State.modSched_q]
  have hi1 (c : Nat) : (s1.chan c).i = (s.chan c).i := by rw [hs1]; exact i_modSched s ch (Sched.clockTo n) c
  have hland : land ch (s.modSched ch (fun _ => (s.chan ch).q.clockTo n)) = s1 := by
    rw [hs1]
    exact land_of_no_flights (by rw [State.modSched_q]; exact hfl)
  have hcmd : nextCmd ch s1 e = some (colCmd rd b col) := by
    rw [hs1, nextCmd_modSched rfl]
    exact hnext
  have hwrites1 : writesAt ch s1 b row col e = writesAt ch s b row col e := by
    have hcells (g : Nat) : cellsOf s1 g = cellsOf s g := cellsOf_congr hi1 (by rw [hs1]; rfl) g
    simp only [writesAt, writable, Sched.before, hcells, hi1, hq1]
    rfl
  have hfind : (if rd then none else ((s1.chan ch).q.queue.find? (fun e => !(writesAt ch s1 b row col e).isEmpty)).map (·.id)) =
      if rd then none else some e.id := by
    cases rd with
    | true => rfl
    | false =>
      have : (s1.chan ch).q.queue = [e] := by rw [hq1]; exact hqueue
      simp [this, hwrites1, hwrites rfl]
  have hissue : columnRow ch b col rd [] s = landAll ch (s1.modSched ch (Sched.colSent (s1.clu (cluOf ch)).step b row col rd []
      (if rd then none else some e.id))) := by
    have hused : (s1.chan ch).q.queue.any (fun e => nextCmd ch s1 e = some (colCmd rd b col)) = true := by
      have : (s1.chan ch).q.queue = [e] := by rw [hq1]; exact hqueue
      simp [this, hcmd]
    rw [← hfind, ← columnIssue_of_open col rd [] (by rw [hq1]; exact hrow) (by rw [hq1]; exact hsr) (by rw [hq1]; exact hal)
      (by rw [hi1]; exact not_doomed_of_sliceOpen hopen)]
    unfold columnRow
    rw [if_pos hopen, until_of_due hdue]
    dsimp only
    rw [hland, if_pos hused]
    rfl
  have hflights : (((s1.chan ch).q).colSent (s1.clu (cluOf ch)).step b row col rd [] (if rd then none else some e.id)).flights =
      [(s1.chan ch).q.colFlight (s1.clu (cluOf ch)).step b row col rd [] (if rd then none else some e.id)] := by
    have hnone : (s1.chan ch).q.flights = [] := by rw [hq1]; exact hfl
    exact congrArg (· ++ _) hnone
  have honly : OnlyEntry s s1 ch e := by
    rw [hs1]
    exact (onlyEntry_refl hqueue hlink).modSched_same rfl
  refine ⟨_, _, hissue.trans (landAll_of_single (by rw [State.modSched_q]; exact hflights)), ?_, rfl, rfl, rfl, rfl, rfl, rfl, rfl⟩
  exact (honly.modSched_same (requests_colSent _ _ _ _ _ _ _ _)).modSched_same rfl

end Sys2Proof.Machine
end

section
/-! PROOF of O38: the column commands, and the scheduler on a single read (R134, R135, R137, R138, R163, R167). -/

namespace Sys2Proof.Machine

/-! ### RDC: the two granules of a chunk are taken (R107, R167) -/

/-- An RDC that has come serves half `h` of its chunk. -/
def takeHalf (ch : Nat) (f : Flight) (s : State) (h : Nat) : State :=
  match livesAt s ch f.bank f.row (2 * f.col + h) with
  | some g => leaveQueue ch (settleOn ch g (serveGran ch (g / 2) (g % 2) (errsOf h f.errs) s))
  | none => s

theorem landOne_read {s : State} {ch : Nat} {f : Flight} (hdoom : doomed (s.chan ch).i (dieOf f.bank) = false) (hjob : f.job = none)
    (hrd : f.rd = true) : landOne ch s f =
      takeHalf ch f (takeHalf ch f (s.modSched ch (fun q => { q with flights := q.flights.erase f })) 0) 1 := by
  unfold landOne
  dsimp only
  rw [State.modSched_i, hdoom, hjob, hrd]
  rfl

theorem errsOf_nil (h : Nat) : errsOf h [] = [] := rfl

/-- A clean granule decodes as it is stored. -/
theorem decodeGran_of_clean {s : State} {g : Nat} (fill : Bool) (h : Claims.Clean s g) :
    decodeGran g [] fill s = (s, .data (readGran s g []).1, false) := by
  obtain ⟨hdec, hinj⟩ := h
  simp [decodeGran, hdec, hinj]

/-- The read of half `h` of its chunk serves the one request of a channel. -/
theorem serveGran_read {s t : State} {ch h : Nat} {e : Entry} (ht : OnlyEntry s t ch e) (hop : e.op = .read)
    (hneed : e.need.getLsbD h = true) (hheld : e.heldG.getLsbD h = false) (hh : h < 2)
    (hm : (s.chan ch).i.mergeOf (2 * e.chunk + h) = none) (hc : Claims.Clean s (2 * e.chunk + h)) :
    serveGran ch e.chunk h [] t = t.modSched ch (fun q => q.put (e.took h (readGran s (2 * e.chunk + h) []).1)) := by
  have hfirst : (t.chan ch).q.firstOn (2 * e.chunk + h) = some e := by
    have hhalf : (2 * e.chunk + h) / 2 = e.chunk ∧ (2 * e.chunk + h) % 2 = h := by omega
    simp [Sched.firstOn, ht.queue, Entry.needs, hhalf, hneed]
  have hframe : t = { s with chans := t.chans } := ht.1
  have hread : readGran t (2 * e.chunk + h) [] = readGran s (2 * e.chunk + h) [] :=
    readGran_congr (ht.integ _) (by rw [hframe]) (by rw [hframe]) (by rw [hframe]) []
  have hdecode := decodeGran_of_clean false (clean_congr hc (ht.integ _) hread (by rw [hframe]))
  rw [hread] at hdecode
  unfold serveGran
  rw [hfirst]
  simp only [ht.integ, hm, hheld, hop, hdecode, takeData, takePart, Option.isSome_none, Bool.or_false, Bool.false_eq_true, if_false]

/-- One half of a chunk is taken for the one request of a channel. -/
theorem takeHalf_serves {s t : State} {ch h : Nat} {f : Flight} {e : Entry} (ht : OnlyEntry s t ch e) (hop : e.op = .read)
    (hneed : e.need.getLsbD h = true) (hheld : e.heldG.getLsbD h = false) (hh : h < 2)
    (hm : (s.chan ch).i.mergeOf (2 * e.chunk + h) = none) (hc : Claims.Clean s (2 * e.chunk + h))
    (hlives : livesAt s ch f.bank f.row (2 * f.col + h) = some (2 * e.chunk + h)) (herrs : f.errs = []) :
    ∃ u, takeHalf ch f t h = leaveQueue ch u ∧ OnlyEntry s u ch (e.took h (readGran s (2 * e.chunk + h) []).1) := by
  have hput := ht.put (f := e.took h (readGran s (2 * e.chunk + h) []).1) rfl
  have hhalf : (2 * e.chunk + h) / 2 = e.chunk ∧ (2 * e.chunk + h) % 2 = h := by omega
  have hframe : t = { s with chans := t.chans } := ht.1
  refine ⟨_, ?_, hput⟩
  rw [takeHalf, livesAt_congr ht.integ (by rw [hframe]), hlives]
  dsimp only
  rw [hhalf.1, hhalf.2, herrs, errsOf_nil, serveGran_read ht hop hneed hheld hh hm hc, settleOn_of_unmerged (by rw [hput.integ, hm])]
  intro x hx k _
  rw [hput.queue, List.mem_singleton] at hx
  rw [hx]
  exact congrArg (fun o => AccOp.partialAt o k) hop

theorem readGran_nil (s : State) (g : Nat) :
    readGran s g [] = (cellsGet s.mem (64 * physGran s g) 64, cellsGet s.chk (4 * physGran s g) 4) := by
  simp [readGran, applyFix, codeword, cellsGet]

theorem length_readGran (s : State) (g : Nat) : (readGran s g []).1.length = 64 := by
  simp [readGran_nil, cellsGet]

/-- Two granules taken one after the other are the two halves of the data. -/
theorem data_took {e : Entry} (he : e.data = []) {d d' : List (BitVec 8)} (hd : d.length = 64) (hd' : d'.length = 64) :
    ((e.took 0 d).took 1 d').data = d ++ d' := by
  have hfirst : (e.took 0 d).data = d ++ List.replicate 64 0 := by
    simp [Entry.took, Entry.served, he, patch, hd]
  have hne : (e.took 0 d).data ≠ [] := by
    intro h
    simpa [hfirst, hd] using congrArg List.length h
  have hsecond : ((e.took 0 d).took 1 d').data = patch (e.took 0 d).data 64 d' := congrArg (fun l => patch l 64 d') (if_neg hne)
  rw [hsecond, hfirst, patch, List.take_left' hd, List.drop_of_length_le (by simp [hd, hd']), List.append_nil]

/-! ### WRC: the two granules of a chunk are written (R107, R163) -/

/-- A write of a whole chunk covers each half whole. -/
theorem partialAt_whole {e : Entry} {h : Nat} {data : List (BitVec 8)} (hop : e.op = .write false 0xFFFF data) (hh : h < 2) :
    e.op.partialAt h = false := by
  rw [hop]
  obtain rfl | rfl : h = 0 ∨ h = 1 := by omega
  all_goals rfl

/-- A write of a whole chunk may write each half that it still needs. -/
theorem writable_whole {s : State} {ch h : Nat} {e f : Entry} {data : List (BitVec 8)} (hop : e.op = .write false 0xFFFF data)
    (hqueue : (s.chan ch).q.queue = [f]) (hid : f.id = e.id) (hneed : e.need.getLsbD h = true) (hh : h < 2)
    (hm : (s.chan ch).i.mergeOf (2 * e.chunk + h) = none) : writable ch s e h = true := by
  have hpart := partialAt_whole hop hh
  have hbefore : (s.chan ch).q.before e h = false := by simp [Sched.before, hqueue, hid]
  rw [hop] at hpart
  simp only [writable, Entry.needs, hneed, hbefore, hm, hop, hpart, Option.isNone_none, Bool.not_false, Bool.and_self]

/-- Both halves of such a write that lies in one chunk of cells go out in one command. -/
theorem writesAt_whole {s : State} {ch b row col : Nat} {e : Entry} {data : List (BitVec 8)} (hop : e.op = .write false 0xFFFF data)
    (hqueue : (s.chan ch).q.queue = [e]) (hneed : e.need = 3) (hm : ∀ h < 2, (s.chan ch).i.mergeOf (2 * e.chunk + h) = none)
    (hcells : ∀ h < 2, cellsOf s (2 * e.chunk + h) = (b, row, col)) : writesAt ch s b row col e = [0, 1] := by
  refine List.filter_eq_self.2 fun h hh => ?_
  have hlt := List.mem_range.1 hh
  have hbit : e.need.getLsbD h = true := by
    rw [hneed]
    obtain rfl | rfl : h = 0 ∨ h = 1 := by omega
    all_goals rfl
  simp [writable_whole hop hqueue rfl hbit hlt (hm h hlt), hcells h hlt]

theorem writePart_whole {s : State} {ch h : Nat} {e : Entry} {data : List (BitVec 8)} (hop : e.op = .write false 0xFFFF data)
    (hw : writable ch s e h = true) :
    writePart ch e h s = (putGran (2 * e.chunk + h) (some (slice data (64 * h) 64)) s, e.wrote h) := by
  rw [writePart, if_pos hw, hop]

/-- The two halves of `data` written to granules `g` and `g + 1`. -/
def putBoth (g : Nat) (data : List (BitVec 8)) (s : State) : State :=
  putGran (g + 1) (some (slice data 64 64)) (putGran g (some (slice data 0 64)) s)

theorem putBoth_frame (g : Nat) (data : List (BitVec 8)) (s : State) :
    putBoth g data s = { s with mem := (putBoth g data s).mem, chk := (putBoth g data s).chk } := by
  have hfirst := putGran_frame g (some (slice data 0 64)) s
  have hsecond := putGran_frame (g + 1) (some (slice data 64 64)) (putGran g (some (slice data 0 64)) s)
  rw [putBoth]
  generalize putGran (g + 1) _ _ = u at hsecond
  generalize putGran g _ _ = v at hfirst hsecond
  rw [hsecond, hfirst]

/-- With no move in progress each half stands at the one place of its granule, and no other byte changes. -/
theorem byte_putBoth {s : State} {g : Nat} {data : List (BitVec 8)} (h : Inv s) (hlen : data.length = 128) (hmove : movePlaces s g = [])
    (hmove' : movePlaces s (g + 1) = []) (a : Nat) :
    (putBoth g data s).byte a = if a / 64 = physGran s (g + 1) then data.getD (64 + a % 64) 0
      else if a / 64 = physGran s g then data.getD (a % 64) 0 else s.byte a := by
  have hfirst : (putGran g (some (slice data 0 64)) s).chans = s.chans ∧
      (putGran g (some (slice data 0 64)) s).tenderPart = s.tenderPart := by
    rw [putGran_frame]
    exact ⟨rfl, rfl⟩
  have hplace := physGran_congr (s := s) (t := putGran g (some (slice data 0 64)) s) (g := g + 1)
    (by rw [State.chan, hfirst.1]; rfl) hfirst.2
  have hlow : ∀ j < 64, (slice data 0 64).getD j 0 = data.getD j 0 := fun j hj => by
    simp [slice, List.getD_eq_getElem?_getD, List.getElem?_take_of_lt hj]
  have hhigh : ∀ j < 64, (slice data 64 64).getD j 0 = data.getD (64 + j) 0 := fun j hj => by
    simp [slice, List.getD_eq_getElem?_getD, List.getElem?_take_of_lt hj, List.getElem?_drop]
  have hj : a % 64 < 64 := Nat.mod_lt _ (by decide)
  rw [putBoth, byte_putGran (inv_putGran _ _ _ h) _ (by simp [slice, hlen]), byte_putGran h _ (by simp [slice, hlen]), hplace.1, hplace.2,
    hmove', hmove]
  simp only [List.mem_singleton, hlow _ hj, hhigh _ hj]

theorem landOne_write {s t : State} {ch : Nat} {f : Flight} {e : Entry} (hdoom : doomed (s.chan ch).i (dieOf f.bank) = false)
    (hjob : f.job = none) (hrd : f.rd = false) (hqueue : (s.chan ch).q.queue = [e]) (hentry : f.entry = some e.id)
    (ht : s.modSched ch (fun q => { q with flights := q.flights.erase f }) = t) :
    landOne ch s f = leaveQueue ch (settleChunk ch e.chunk
      (((writesAt ch t f.bank f.row f.col e).foldl (fun (a : State × Entry) g => writePart ch a.2 g a.1) (t, e)).1.modSched ch
        (fun q => q.put ((writesAt ch t f.bank f.row f.col e).foldl (fun (a : State × Entry) g => writePart ch a.2 g a.1) (t, e)).2))) := by
  have hfind : (t.chan ch).q.queue.find? (fun x => some x.id = f.entry) = some e := by
    rw [← ht, State.modSched_q]
    simp [hqueue, hentry]
  have hdoom' : doomed (t.chan ch).i (dieOf f.bank) = false := by
    rw [← ht, State.modSched_i]
    exact hdoom
  unfold landOne
  dsimp only
  rw [ht]
  simp only [hdoom', hjob, hrd, hfind, Bool.false_eq_true, if_false]

/-- Both halves of the one write of a channel are written. -/
theorem writes_whole {s : State} {ch b row col : Nat} {e : Entry} {data : List (BitVec 8)} (hop : e.op = .write false 0xFFFF data)
    (hqueue : (s.chan ch).q.queue = [e]) (hneed : e.need = 3) (hm : ∀ h < 2, (s.chan ch).i.mergeOf (2 * e.chunk + h) = none)
    (hcells : ∀ h < 2, cellsOf s (2 * e.chunk + h) = (b, row, col)) :
    (writesAt ch s b row col e).foldl (fun (a : State × Entry) g => writePart ch a.2 g a.1) (s, e) =
      (putBoth (2 * e.chunk) data s, (e.wrote 0).wrote 1) := by
  have hfirst : writePart ch e 0 s = (putGran (2 * e.chunk) (some (slice data 0 64)) s, e.wrote 0) :=
    writePart_whole hop (writable_whole hop hqueue rfl (by rw [hneed]; rfl) (by decide) (hm 0 (by decide)))
  have hchan : (putGran (2 * e.chunk) (some (slice data 0 64)) s).chan ch = s.chan ch := by rw [putGran_frame]; rfl
  have hop' : (e.wrote 0).op = .write false 0xFFFF data := hop
  have hsecond : writePart ch (e.wrote 0) 1 (putGran (2 * e.chunk) (some (slice data 0 64)) s) =
      (putBoth (2 * e.chunk) data s, (e.wrote 0).wrote 1) :=
    writePart_whole hop' (writable_whole (f := e) hop' (by rw [hchan]; exact hqueue) rfl (by simp [Entry.wrote, Entry.served, hneed]) (by decide)
      (by rw [hchan]; exact hm 1 (by decide)))
  rw [writesAt_whole hop hqueue hneed hm hcells, List.foldl_cons, List.foldl_cons, List.foldl_nil, hfirst, hsecond]

/-! ### A clock of the scheduler with one read waiting for a closed bank (R138) -/

/-- What the ACT that timing permits finds: a closed bank of an awake slice, below RAAMMT. -/
theorem closed_of_due_act {q : Sched} {step b r n : Nat} (h : q.due step (.act b r) = some n) :
    (q.bank b).row = none ∧ (q.slice (dieOf b)).sr = false ∧ r < 24576 ∧ (q.bank b).raa < 576 := by
  simp only [Sched.due] at h
  split_ifs at h with hok
  simp only [Bool.and_eq_true, Option.isNone_iff_eq_none, Bool.not_eq_true', decide_eq_true_eq] at hok
  obtain ⟨⟨⟨hrow, hsr⟩, hraa⟩, hr⟩ := hok
  exact ⟨hrow, hsr, hr, hraa⟩

/-- All commands of entries that are `e` are the next command of `e`. -/
theorem eq_of_mem_cmds {s : State} {ch : Nat} {e : Entry} {l : List Entry} {x y : Cmd} (h : nextCmd ch s e = some x) (hl : ∀ z ∈ l, z ∈ [e])
    (hy : y ∈ l.filterMap (nextCmd ch s)) : y = x := by
  obtain ⟨z, hz, hyz⟩ := List.mem_filterMap.1 hy
  rw [List.mem_singleton.1 (hl z hz), h] at hyz
  exact (Option.some.inj hyz).symm

theorem map_split {α β : Type} (f : α → β) (l : List α) (x : α) (m : List α) : (l ++ [x] ++ m).map f = l.map f ++ f x :: m.map f := by
  simp

/-- The one entry of a queue is all of its class. -/
theorem byClass_single {e : Entry} (h : e.cls ≤ 7) : [7, 6, 5, 4, 3, 2, 1, 0].flatMap (fun c => [e].filter (fun e => e.cls = c)) = [e] := by
  interval_cases hc : e.cls <;> simp [hc]

/-- The picks of a channel that owes no maintenance and whose one request waits for an ACT: that ACT, and after it the PREs of rows that the
predictor closes (R138, R142). -/
theorem candidates_of_act {s : State} {ch b r : Nat} {e : Entry} (hstill : Claims.Still s ch) (hmaint : (s.chan ch).q.maint = [])
    (hqueue : (s.chan ch).q.queue = [e]) (hnext : nextCmd ch s e = some (.act b r)) (hcls : e.cls ≤ 7)
    (hstep : (s.clu (cluOf ch)).inStep = false) (hready : s.cluReady (cluOf ch) = true) (hls : s.ls.on = false) :
    ∃ as ps : List Pick, candidates ch s = as ++ { cmd := .act b r } :: ps ∧ (∀ p ∈ as, p = { cmd := .act b r }) ∧
      ∀ p ∈ ps, ∃ b', p = { cmd := .pre b' } := by
  have hep : (s.chan ch).q.episode = none := episode_of_still hstill
  have hpicks : maintPicks ch s = [] := by simp [maintPicks, hmaint]
  unfold candidates
  have hall : [e].filterMap (nextCmd ch s) = [.act b r] := List.filterMap_cons_some hnext
  simp only [hep, hpicks, hqueue, hstep, hready, hls, byClass_single hcls, hall, Bool.or_false, Bool.true_or, Bool.not_true,
    Bool.false_eq_true, if_false, List.nil_append]
  refine ⟨_, _, map_split (fun c : Cmd => ({ cmd := c } : Pick)) _ (.act b r) _, fun p hp => ?_, fun p hp => ?_⟩
  · obtain ⟨x, hx, rfl⟩ := List.mem_map.1 hp
    simp only [List.mem_append] at hx
    refine congrArg (fun c : Cmd => ({ cmd := c } : Pick)) ?_
    rcases hx with (hx | hx) | hx
    · exact eq_of_mem_cmds hnext (fun y hy => List.mem_of_mem_filter (List.mem_of_mem_filter hy)) hx
    · exact eq_of_mem_cmds hnext (fun y hy => List.mem_of_mem_filter (List.mem_of_mem_filter hy)) hx
    · refine eq_of_mem_cmds hnext (fun y hy => ?_) (List.mem_of_mem_filter hx)
      obtain ⟨_, _, hy⟩ := List.mem_flatMap.1 hy
      exact List.mem_of_mem_filter (List.mem_of_mem_filter hy)
  · obtain ⟨_, hx, rfl⟩ := List.mem_map.1 hp
    obtain ⟨y, -, rfl⟩ := List.mem_map.1 hx
    exact ⟨y.1, rfl⟩

theorem find?_of_first {α : Type} {p : α → Bool} {x : α} {l m : List α} (hl : ∀ y ∈ l, y = x) (hx : p x = true) :
    (l ++ x :: m).find? p = some x := by
  cases l with
  | nil => exact List.find?_cons_of_pos hx
  | cons y l => rw [hl y List.mem_cons_self]; exact List.find?_cons_of_pos hx

theorem maint_act (q : Sched) (step b r : Nat) : (q.act step b r).maint = q.maint := by
  unfold Sched.act
  dsimp only
  split <;> rfl

theorem maint_blockCheck (ch b : Nat) (s : State) : ((blockCheck ch b s).chan ch).q.maint = (s.chan ch).q.maint := by
  rcases blockCheck_cases ch b s with h | h
  · rw [h]
  · rw [h, show ((s.modSched ch (Sched.blockBank b)).modClu (cluOf ch) _).chan ch = (s.modSched ch (Sched.blockBank b)).chan ch from rfl,
      State.modSched_q]
    rfl

/-- Of such picks the ACT goes out, and nothing else. -/
theorem clockOut_of_act {s : State} {ch b r : Nat} (step : Nat) {as ps : List Pick} (has : ∀ p ∈ as, p = { cmd := .act b r })
    (hps : ∀ p ∈ ps, ∃ b', p = { cmd := .pre b' }) (hmaint : (s.chan ch).q.maint = []) (hinj : injArmed s 3 ch = none) :
    clockOut ch step (as ++ { cmd := .act b r } :: ps) s =
      blockCheck ch b (s.modSched ch (fun q => q.act (s.clu (cluOf ch)).step b r)) := by
  have hcol (q : Sched) : ∀ p ∈ as ++ { cmd := .act b r } :: ps, p.onCol q = false := by
    intro p hp
    rcases List.mem_append.1 hp with hp | hp
    · rw [has p hp]; rfl
    · rcases List.mem_cons.1 hp with rfl | hp
      · rfl
      · obtain ⟨b', rfl⟩ := hps p hp
        rfl
  have hlast (t : State) : (as ++ { cmd := .act b r } :: ps).find? (fun p => p.onCol (s.chan ch).q && legal (t.chan ch).q step p.cmd &&
      (p.cmd != .replay || (t.chan ch).q.replay = (s.chan ch).q.replay)) = none :=
    List.find?_eq_none.2 fun p hp => by simp [hcol _ p hp]
  have hout : pickOut ch (some { cmd := .act b r }) s = blockCheck ch b (s.modSched ch (fun q => q.act (s.clu (cluOf ch)).step b r)) := by
    have hinj' : injArmed (blockCheck ch b (s.modSched ch (fun q => q.act (s.clu (cluOf ch)).step b r))) 3 ch = none := by
      have hflt : (blockCheck ch b (s.modSched ch (fun q => q.act (s.clu (cluOf ch)).step b r))).flt = s.flt := by
        rcases blockCheck_cases ch b (s.modSched ch (fun q => q.act (s.clu (cluOf ch)).step b r)) with h | h <;> rw [h] <;> rfl
      rw [injArmed, hflt]
      exact hinj
    change injectParity ch (.act b r) (issue ch { cmd := .act b r } s) = _
    rw [issue_act]
    unfold injectParity
    simp only [hinj']
  have hmaint' : ((blockCheck ch b (s.modSched ch (fun q => q.act (s.clu (cluOf ch)).step b r))).chan ch).q.maint = [] := by
    rw [maint_blockCheck, State.modSched_q, maint_act, hmaint]
  unfold clockOut
  simp only [hlast, find?_of_first has (p := fun p : Pick => !p.onCol (s.chan ch).q) rfl, hout]
  exact overrunCheck_of_no_maint hmaint'

/-- A pick may go out now (R143, R178). -/
def Pick.goes (ch step : Nat) (s : State) (p : Pick) : Bool :=
  legal (s.chan ch).q step p.cmd && !doomed (s.chan ch).i (p.cmd.die (s.chan ch).q)

/-- A clock that finds one read waiting for a closed bank issues its ACT. -/
theorem schedClock_of_act {s : State} {ch b r : Nat} {e : Entry} (hls : s.ls.on = false) (hqueue : (s.chan ch).q.queue = [e])
    (h : Claims.WaitsForAct s ch e b r) :
    ∃ w, schedClock ch s = blockCheck ch b (s.modSched ch (fun q => (q.clocked w).act (s.clu (cluOf ch)).step b r)) := by
  obtain ⟨⟨-, hcls, hmerge, hnext⟩, ⟨hstill, hmaint, hinj⟩, ⟨hstep, hready, hdoom⟩, n, hdue, hn⟩ := h
  have ⟨hfl, hal, _⟩ := hstill
  have hland : land ch (s.modSched ch (fun q => { q with clk := q.clk + 1 })) = s.modSched ch (fun q => { q with clk := q.clk + 1 }) :=
    land_of_no_flights (by rw [State.modSched_q]; exact hfl)
  have hraise : raiseDue ch (s.modSched ch (fun q => { q with clk := q.clk + 1 })) = s.modSched ch (fun q => { q with clk := q.clk + 1 }) := by
    simp [raiseDue, hal]
  refine ⟨nextMode ch (s.modSched ch (fun q => { q with clk := q.clk + 1 })), ?_⟩
  rw [schedClock_eq ch s (s.modSched ch (fun q => { q with clk := q.clk + 1 }))
    (by rw [hland, hraise, closeDue_of_no_merge (by rw [State.modSched_i, hmerge])]), modSched_modSched]
  generalize nextMode ch _ = w
  obtain ⟨u, hu⟩ : ∃ u, s.modSched ch (Sched.clocked w) = u := ⟨_, rfl⟩
  have hq : (u.chan ch).q = (s.chan ch).q.clocked w := by rw [← hu, State.modSched_q]
  have hi : (u.chan ch).i = (s.chan ch).i := by rw [← hu, State.modSched_i]
  have hmaint' : (u.chan ch).q.maint = [] := by rw [hq]; exact hmaint
  obtain ⟨as, ps, hpicks, has, hps⟩ := candidates_of_act (s := u) (ch := ch) (b := b) (r := r) (e := e) (by rw [Claims.Still, hq]; exact hstill)
    hmaint' (by rw [hq]; exact hqueue) (by rw [← hu, nextCmd_modSched rfl]; exact hnext) hcls
    (by rw [← hu]; exact hstep) (by rw [← hu]; exact hready) (by rw [← hu]; exact hls)
  have hlegal : legal (u.chan ch).q (s.clu (cluOf ch)).step (.act b r) = true := by
    have hdue' : (u.chan ch).q.due (s.clu (cluOf ch)).step (.act b r) = some n := by rw [hq]; exact hdue
    rw [legal, hdue', hq]
    exact decide_eq_true hn
  have hpass : Pick.goes ch (s.clu (cluOf ch)).step u { cmd := .act b r } = true := by
    rw [Pick.goes, hlegal, hi]
    simpa [Cmd.die] using hdoom
  have hgo : picksNow ch (s.clu (cluOf ch)).step u = as ++ { cmd := .act b r } :: ps.filter (Pick.goes ch (s.clu (cluOf ch)).step u) := by
    change (candidates ch u).filter (Pick.goes ch (s.clu (cluOf ch)).step u) = _
    rw [hpicks, List.filter_append, List.filter_cons_of_pos hpass, List.filter_eq_self.2 fun p hp => by rw [has p hp]; exact hpass]
  change clockOut ch _ (picksNow ch _ (s.modSched ch (Sched.clocked w))) (s.modSched ch (Sched.clocked w)) = _
  rw [hu, hgo, clockOut_of_act _ has (fun p hp => hps p (List.mem_of_mem_filter hp)) hmaint' (by rw [← hu]; exact hinj), ← hu, modSched_modSched]
  rfl

section
variable {s : State} {c : ChanId} {b : BankId} {col : Fin 8} {e : Entry} {row : Nat}

/-- RDC answers the read that waits for it (R107, R135, R167). -/
theorem exec_rdc (hcalm : Calm s) (hqueue : (s.chan c.val).q.queue = [e]) (hlink : (s.chan c.val).q.link = []) (hstill : Claims.Still s c.val)
    (hneed : e.need = 3) (hrow : ((s.chan c.val).q.bank b.val).row = some row) (hopen : sliceOpen s c.val (dieOf b.val) = true)
    (hm : (s.chan c.val).i.mergeOf (2 * e.chunk) = none) (hm' : (s.chan c.val).i.mergeOf (2 * e.chunk + 1) = none)
    (hop : e.op = .read) (hnext : nextCmd c.val s e = some (.rdc b.val col.val))
    (hlives : livesAt s c.val b.val row (2 * col.val) = some (2 * e.chunk))
    (hlives' : livesAt s c.val b.val row (2 * col.val + 1) = some (2 * e.chunk + 1))
    (hheld : e.heldG = 0) (hdata : e.data = []) (hc : Claims.Clean s (2 * e.chunk)) (hc' : Claims.Clean s (2 * e.chunk + 1)) :
    ∃ t, exec (.rdc c b col []) s = .next t ∧ (t.chan c.val).q.queue = [] ∧
      (∃ f, (t.chan c.val).q.done = (s.chan c.val).q.done ++ [{ e := f, how := .performed }] ∧ f.id = e.id ∧ f.src = e.src ∧
        f.data = (readGran s (2 * e.chunk) []).1 ++ (readGran s (2 * e.chunk + 1) []).1 ∧ f.poisonBits = e.poisonBits) ∧
      t = { s with chans := t.chans, sec := t.sec } ∧ ∀ c', c' ≠ c.val → t.chan c' = s.chan c' := by
  obtain ⟨u, f, hcmd, hu, hrd, hbank, hfrow, hcol, herrs, hjob, -⟩ := columnRow_lands (rd := true) (col := col.val) hqueue hlink hstill hopen
    (dieOf_lt b) hrow hnext (fun h => by cases h)
  have hdoom : doomed (u.chan c.val).i (dieOf f.bank) = false := by rw [hu.integ, hbank]; exact not_doomed_of_sliceOpen hopen
  have h0 := hu.modSched_same (u := fun q => { q with flights := q.flights.erase f }) rfl
  rw [landOne_read hdoom hjob hrd] at hcmd
  generalize u.modSched c.val (fun q => { q with flights := q.flights.erase f }) = v at h0 hcmd
  obtain ⟨v1, hv1, h1⟩ := takeHalf_serves (f := f) h0 hop (h := 0) (by rw [hneed]; rfl) (by rw [hheld]; rfl) (by decide) hm hc
    (by rw [hbank, hfrow, hcol]; exact hlives) herrs
  generalize hd : (readGran s (2 * e.chunk + 0) []).1 = d at h1
  rw [leaveQueue_of_needed h1.queue h1.link (by simp [Entry.took, Entry.served, hneed])] at hv1
  obtain ⟨v2, hv2, h2⟩ := takeHalf_serves (f := f) h1 hop (h := 1) (by simp [Entry.took, Entry.served, hneed])
    (by simp [Entry.took, Entry.served, hheld]) (by decide) hm' hc' (by rw [hbank, hfrow, hcol]; exact hlives') herrs
  obtain ⟨hframe, hother, hgone, hdone⟩ := leaveQueue_of_served h2.queue h2.link (by simp [Entry.took, Entry.served, hneed])
  have hdone2 := h2.done
  obtain ⟨hframe2, hother2, -⟩ := h2
  rw [hv1, hv2] at hcmd
  generalize leaveQueue c.val v2 = t at hcmd hframe hother hgone hdone
  have hfinal : t = { s with chans := t.chans, sec := t.sec } := by
    rw [hframe2] at hframe
    exact hframe
  refine ⟨t, ?_, hgone, ⟨(e.took 0 d).took 1 (readGran s (2 * e.chunk + 1) []).1, ?_, rfl, rfl, ?_, rfl⟩, hfinal,
    fun c' hne => (hother c' hne).trans (hother2 c' hne)⟩
  · refine congrArg Host.Outcome.next ((congrArg (settle s) hcmd).trans ?_)
    exact settle_ports s t (by rw [hfinal]; exact hcalm) (by rw [hfinal]) (by rw [hfinal])
  · rw [hdone, hdone2]
    rfl
  · rw [← hd]
    exact data_took hdata (length_readGran _ _) (length_readGran _ _)

/-- WRC performs the write that waits for it (R107, R135, R163). -/
theorem exec_wrc {data : List (BitVec 8)} (hcalm : Calm s) (hqueue : (s.chan c.val).q.queue = [e]) (hlink : (s.chan c.val).q.link = [])
    (hstill : Claims.Still s c.val) (hneed : e.need = 3) (hrow : ((s.chan c.val).q.bank b.val).row = some row)
    (hopen : sliceOpen s c.val (dieOf b.val) = true) (hm : (s.chan c.val).i.mergeOf (2 * e.chunk) = none)
    (hm' : (s.chan c.val).i.mergeOf (2 * e.chunk + 1) = none) (hop : e.op = .write false 0xFFFF data) (hlen : data.length = 128)
    (hnext : nextCmd c.val s e = some (.wrc b.val col.val)) (hcells : cellsOf s (2 * e.chunk) = (b.val, row, col.val))
    (hcells' : cellsOf s (2 * e.chunk + 1) = (b.val, row, col.val)) (hinv : Inv s) (hmove : movePlaces s (2 * e.chunk) = [])
    (hmove' : movePlaces s (2 * e.chunk + 1) = []) :
    ∃ t, exec (.wrc c b col) s = .next t ∧ (t.chan c.val).q.queue = [] ∧
      (∃ f, (t.chan c.val).q.done = (s.chan c.val).q.done ++ [{ e := f, how := .performed }] ∧ f.id = e.id ∧ f.src = e.src ∧ f.need = 0) ∧
      (∀ j < 64, t.byte (64 * physGran s (2 * e.chunk + 1) + j) = data.getD (64 + j) 0) ∧
      (physGran s (2 * e.chunk) ≠ physGran s (2 * e.chunk + 1) →
        ∀ j < 64, t.byte (64 * physGran s (2 * e.chunk) + j) = data.getD j 0) ∧
      (∀ a, a / 64 ≠ physGran s (2 * e.chunk) → a / 64 ≠ physGran s (2 * e.chunk + 1) → t.byte a = s.byte a) ∧
      t = { s with chans := t.chans, sec := t.sec, mem := t.mem, chk := t.chk } ∧ ∀ c', c' ≠ c.val → t.chan c' = s.chan c' := by
  have hms : ∀ h < 2, (s.chan c.val).i.mergeOf (2 * e.chunk + h) = none := fun h hh => by
    obtain rfl | rfl : h = 0 ∨ h = 1 := by omega
    · exact hm
    · exact hm'
  have hplaces : ∀ h < 2, cellsOf s (2 * e.chunk + h) = (b.val, row, col.val) := fun h hh => by
    obtain rfl | rfl : h = 0 ∨ h = 1 := by omega
    · exact hcells
    · exact hcells'
  obtain ⟨u, f, hcmd, hu, hrd, hbank, hfrow, hcol, -, hjob, hentry⟩ := columnRow_lands (rd := false) (col := col.val) hqueue hlink hstill hopen
    (dieOf_lt b) hrow hnext (fun _ => by rw [writesAt_whole hop hqueue hneed hms hplaces]; rfl)
  have hdoom : doomed (u.chan c.val).i (dieOf f.bank) = false := by rw [hu.integ, hbank]; exact not_doomed_of_sliceOpen hopen
  obtain ⟨v, hv⟩ : ∃ v, u.modSched c.val (fun q => { q with flights := q.flights.erase f }) = v := ⟨_, rfl⟩
  have hland := landOne_write hdoom hjob hrd hu.queue hentry hv
  have h0 : OnlyEntry s v c.val e := by rw [← hv]; exact hu.modSched_same rfl
  have hframe0 : v = { s with chans := v.chans } := h0.1
  have hplace (g : Nat) := physGran_congr (g := g) (congrArg Integ.redirects (h0.integ _)) (show v.tenderPart = s.tenderPart by rw [hframe0])
  rw [hbank, hfrow, hcol, writes_whole hop h0.queue hneed (fun h hh => by rw [h0.integ]; exact hms h hh)
    (fun h hh => by rw [cellsOf_congr h0.integ (by rw [hframe0])]; exact hplaces h hh)] at hland
  have hbytes := byte_putBoth (s := v) (g := 2 * e.chunk) (inv_congr s v (by rw [hframe0]) (by rw [hframe0]) hinv) hlen
    (by rw [(hplace _).2]; exact hmove) (by rw [(hplace _).2]; exact hmove')
  simp only [(hplace _).1] at hbytes
  have hframe1 := putBoth_frame (2 * e.chunk) data v
  generalize putBoth (2 * e.chunk) data v = w at hland hbytes hframe1
  have hchan (k : Nat) : w.chan k = v.chan k := by rw [hframe1]; rfl
  have hw : OnlyEntry w w c.val e := onlyEntry_refl (by rw [hchan]; exact h0.queue) (by rw [hchan]; exact h0.link)
  have hput := hw.put (f := (e.wrote 0).wrote 1) rfl
  have hsettle : settleChunk c.val e.chunk (w.modSched c.val (fun q => q.put ((e.wrote 0).wrote 1))) =
      w.modSched c.val (fun q => q.put ((e.wrote 0).wrote 1)) := by
    have hnone : ∀ x ∈ ((w.modSched c.val (fun q => q.put ((e.wrote 0).wrote 1))).chan c.val).q.queue, ∀ h < 2, x.op.partialAt h = false := by
      rw [hput.queue]
      intro x hx h hh
      rw [List.mem_singleton.1 hx]
      exact partialAt_whole (e := (e.wrote 0).wrote 1) hop hh
    rw [settleChunk, settleOn_of_unmerged (by rw [hput.integ, hchan, h0.integ, hm]) hnone,
      settleOn_of_unmerged (by rw [hput.integ, hchan, h0.integ, hm']) hnone]
  obtain ⟨hframe2, hother, hgone, hdone⟩ := leaveQueue_of_served hput.queue hput.link (by simp [Entry.wrote, Entry.served, hneed])
  rw [hsettle] at hland
  generalize leaveQueue c.val (w.modSched c.val (fun q => q.put ((e.wrote 0).wrote 1))) = t at hland hframe2 hother hgone hdone
  have hfinal : t = { s with chans := t.chans, sec := t.sec, mem := t.mem, chk := t.chk } := by
    rw [hframe1, hframe0] at hframe2
    rw [hframe2]
    rfl
  have hbyte (a : Nat) : t.byte a = w.byte a := by rw [hframe2]; rfl
  have hbyte0 (a : Nat) : v.byte a = s.byte a := by rw [hframe0]; rfl
  refine ⟨t, ?_, hgone, ⟨(e.wrote 0).wrote 1, ?_, rfl, rfl, by simp [Entry.wrote, Entry.served, hneed]⟩, fun j hj => ?_, fun hne j hj => ?_,
    fun a ha ha' => ?_, hfinal, fun c' hne => ?_⟩
  · refine congrArg Host.Outcome.next ((congrArg (settle s) (hcmd.trans hland)).trans ?_)
    exact settle_ports s t (by rw [hfinal]; exact hcalm) (by rw [hfinal]) (by rw [hfinal])
  · rw [hdone, hput.done, hchan, h0.done]
  · rw [hbyte, hbytes, if_pos (by omega)]
    congr 1; omega
  · rw [hbyte, hbytes, if_neg (by omega), if_pos (by omega)]
    congr 1; omega
  · rw [hbyte, hbytes, if_neg ha', if_neg ha, hbyte0]
  · rw [hother c' hne]
    obtain ⟨-, hsame, -⟩ := hput
    obtain ⟨-, hsame0, -⟩ := h0
    rw [hsame c' hne, hchan, hsame0 c' hne]

/-- A clock opens the row that the one read waits for (R138). -/
theorem exec_schedulerIssue (hcalm : Calm s) (hon : ctrlOn s c.val = true) (hqueue : (s.chan c.val).q.queue = [e])
    (h : Claims.WaitsForAct s c.val e b.val row) :
    ∃ t, exec (.schedulerIssue c) s = .next t ∧ Claims.OnlySched s t c (fun x => x = b.val) ∧
      (t.chan c.val).q.clk = (s.chan c.val).q.clk + 1 ∧ ((t.chan c.val).q.bank b.val).row = some row := by
  obtain ⟨w, hclock⟩ := schedClock_of_act (not_lightship_of_ctrlOn hon) hqueue h
  obtain ⟨-, ⟨hstill, -⟩, -, n, hdue, -⟩ := h
  obtain ⟨hrow, hsr, hr, hraa⟩ := closed_of_due_act hdue
  have hclocked (q : Sched) : q.clocked w = { q.clockTo 0 with writeMode := w } := by simp [Sched.clocked, Sched.clockTo]
  have hsent : schedClock c.val s = blockCheck c.val b.val
      (sentAt c.val 0 (fun q => { q with writeMode := w }.act (s.clu (cluOf c.val)).step b.val row) s) := by
    rw [hclock]
    simp only [hclocked, sentAt]
  obtain ⟨honly, hclk, w', hbank⟩ := blockCheck_facts (s := s) (c := c) (n := 0)
    (f := fun q => { q with writeMode := w }.act (s.clu (cluOf c.val)).step b.val row)
    (fun q => keepsApart_act { q with writeMode := w } (s.clu (cluOf c.val)).step b.val row)
  obtain ⟨hopened, -⟩ := bank_act (q := { (s.chan c.val).q.clockTo 0 with writeMode := w }) (s.clu (cluOf c.val)).step hrow hsr
    (alert_of_still hstill (dieOf_lt b)) hr hraa
  rw [← hsent] at honly hclk hbank
  refine ⟨_, congrArg Host.Outcome.next ((if_pos hon).trans (settle_onlySched hcalm honly)), honly, ?_, ?_⟩
  · rw [hclk, Sched.clockTo, Nat.max_zero]
  · rw [hbank]
    exact hopened

end

/-- Settles O38: the one request of the channel gets the command that it waits for, and that command does its work on it. -/
theorem columnCommandsServe : Obligations.ColumnCommandsServe := by
  intro s c b col e row hcalm hon hqueue hlink hstill q g
  refine ⟨fun hneed hrow hopen hm hm' => ⟨fun hop hnext hlives hlives' hheld hdata hc hc' => ?_,
    fun data hop hlen hnext hcells hcells' hinv hmove hmove' => ?_⟩, fun hwaits => ?_⟩
  · exact exec_rdc hcalm hqueue hlink hstill hneed hrow hopen hm hm' hop hnext hlives hlives' hheld hdata hc hc'
  · exact exec_wrc hcalm hqueue hlink hstill hneed hrow hopen hm hm' hop hlen hnext hcells hcells' hinv hmove hmove'
  · exact exec_schedulerIssue hcalm hon hqueue hwaits

end Sys2Proof.Machine
end

section
/-! PROOF of O51: the decisions on Renjan commands (R155, R316, R320 to R330). -/

namespace Sys2Proof.Machine

/-! ### Which decision a command's code selects (R319) -/

section
variable {m : Option Nat} {later : List (Nat × Nat)} {x : Mbx} {s : State}

theorem decideCmd_stackIdSet (h : x.cmd = 0x0102) : decideCmd m later x s = rStackIdSet x s := by rw [decideCmd, h]; rfl
theorem decideCmd_portFence (h : x.cmd = 0x0202) : decideCmd m later x s = rPortFence later x s := by rw [decideCmd, h]; rfl
theorem decideCmd_portUnfence (h : x.cmd = 0x0203) : decideCmd m later x s = rPortUnfence later x s := by rw [decideCmd, h]; rfl
theorem decideCmd_relaySet (h : x.cmd = 0x0204) : decideCmd m later x s = rRelaySet x s := by rw [decideCmd, h]; rfl
theorem decideCmd_clusterStep (h : x.cmd = 0x0301) : decideCmd m later x s = rClusterStep m x s := by rw [decideCmd, h]; rfl
theorem decideCmd_clusterPower (h : x.cmd = 0x0302) : decideCmd m later x s = rClusterPower m later x s := by rw [decideCmd, h]; rfl
theorem decideCmd_sectAdmit (h : x.cmd = 0x0401) : decideCmd m later x s = rSectAdmit x s := by rw [decideCmd, h]; rfl
theorem decideCmd_streamAlloc (h : x.cmd = 0x0501) : decideCmd m later x s = rStreamAlloc x s := by rw [decideCmd, h]; rfl
theorem decideCmd_streamFree (h : x.cmd = 0x0502) : decideCmd m later x s = rStreamFree x s := by rw [decideCmd, h]; rfl
theorem decideCmd_fwRegionSet (h : x.cmd = 0x0509) : decideCmd m later x s = rFwRegionSet x s := by rw [decideCmd, h]; rfl
theorem decideCmd_fwRegionClear (h : x.cmd = 0x050A) : decideCmd m later x s = rFwRegionClear x s := by rw [decideCmd, h]; rfl
theorem decideCmd_channelRetire (h : x.cmd = 0x0604) : decideCmd m later x s = rChannelRetire x s := by rw [decideCmd, h]; rfl
theorem decideCmd_fuseProgram (h : x.cmd = 0x0607) : decideCmd m later x s = rFuseProgram m x s := by rw [decideCmd, h]; rfl
theorem decideCmd_lanConfig (h : x.cmd = 0x0703) : decideCmd m later x s = rLanConfig x s := by rw [decideCmd, h]; rfl
theorem decideCmd_watchSelect (h : x.cmd = 0x0803) : decideCmd m later x s = rWatchSelect x s := by rw [decideCmd, h]; rfl
theorem decideCmd_lifecycleAdvance (h : x.cmd = 0x0A02) : decideCmd m later x s = rLifecycleAdvance m x s := by rw [decideCmd, h]; rfl
theorem decideCmd_keeperReset (h : x.cmd = 0x0A03) : decideCmd m later x s = rKeeperReset s := by rw [decideCmd, h]; rfl
theorem decideCmd_faultInject (h : x.cmd = 0x0B01) : decideCmd m later x s = rFaultInject x s := by rw [decideCmd, h]; rfl
theorem decideCmd_foghornDrive (h : x.cmd = 0x0B02) : decideCmd m later x s = rFoghornDrive x s := by rw [decideCmd, h]; rfl
theorem decideCmd_lightshipExit (h : x.cmd = 0x0B03) : decideCmd m later x s = rLightshipExit s := by rw [decideCmd, h]; rfl

end

/-! ### The boundary (R155, R316) -/

section
variable {s s' : State} {y : Staged} {st : Nat} {w : List Word32}

/-- The one staged command waits on where its accesses cannot issue. -/
theorem stagedCmds_waits (hdb : s.tnd.dbq = []) (hstaged : s.kpr.staged = [y]) (hwaits : cmdWaits s y.req = true) : stagedCmds s = s := by
  have hstay : s.kpr.staged.filter (fun y => cmdWaits s y.req) = s.kpr.staged := by rw [hstaged]; exact List.filter_cons_of_pos hwaits
  have hgo : s.kpr.staged.filter (fun y => !cmdWaits s y.req) = [] := by simp [hstaged, hwaits]
  have hbells : (s.tnd.dbq.map (·.stream)).dedup.foldl (fun s n => doorbellContextRead n s) s = s := by rw [hdb]; rfl
  rw [stagedCmds, hbells, hgo, State.modKpr, hstay]
  rfl

/-- The state with its staged commands taken out. -/
def State.unstaged (s : State) : State := s.modKpr (fun k => { k with staged := [] })

/-- The one staged command is answered as it is decided. -/
theorem stagedCmds_decides (hdb : s.tnd.dbq = []) (hstaged : s.kpr.staged = [y]) (hkept : y.dropped = false) (hgoes : cmdWaits s y.req = false)
    (hd : decideCmd (some y.mb) [] y.req { s with kpr := { s.kpr with staged := [] } } = (s', some (st, w))) :
    stagedCmds s = respond y.mb st w false s' := by
  have hstay : s.kpr.staged.filter (fun y => cmdWaits s y.req) = [] := by simp [hstaged, hgoes]
  have hgo : s.kpr.staged.filter (fun y => !cmdWaits s y.req) = [y] := by simp [hstaged, hgoes]
  have hkpr : s.modKpr (fun k => { k with staged := k.staged.filter (fun y => cmdWaits s y.req) }) = s.unstaged :=
    congrArg (fun l => s.modKpr (fun k => { k with staged := l })) hstay
  have hd' : decideCmd (some y.mb) [] y.req s.unstaged = (s', some (st, w)) := hd
  have hrun (counts : Staged → Bool) : runStaged counts [y] s.unstaged [] = (s', [(y, some (st, w))]) := by
    rw [runStaged, hkept]
    change runStaged counts [] (decideCmd (some y.mb) [] y.req _).1 ([] ++ [(y, (decideCmd (some y.mb) [] y.req _).2)]) = _
    rw [hd']
    rfl
  have hanswer : answerStaged [(y, some (st, w))] s' = respond y.mb st w false s' := by
    rw [answerStaged, hkept]
    rfl
  have hbells : (s.tnd.dbq.map (·.stream)).dedup.foldl (fun s n => doorbellContextRead n s) s = s := by rw [hdb]; rfl
  rw [stagedCmds, hbells, hgo, hkpr, hrun]
  exact hanswer

end

/-! ### PORT_FENCE (R123, R321) -/

theorem fMgr_send (tick : Nat) (b : UpBody) (x : Port) : (x.send tick b).fr.fMgr = x.fr.fMgr := by
  have hnak (x : Port) : x.payNak.fr.fMgr = x.fr.fMgr := by
    unfold Port.payNak
    split <;> rfl
  unfold Port.send Port.pump
  split
  · split
    · exact hnak _
    · rfl
  · rfl

theorem fMgr_answer (tick : Nat) (me : StackId) (t status detail : Nat) (data : List (BitVec 8)) (x : Port) :
    (x.answer tick me t status detail data).fr.fMgr = x.fr.fMgr := by
  unfold Port.answer
  dsimp only
  split
  · exact fMgr_send _ _ _
  · rfl

/-- A port fenced with cause MANAGER carries that cause. -/
theorem fMgr_fence (tick : Nat) (me : StackId) (x : Port) : (x.fence tick me .mgr).fr.fMgr = true := by
  have hfold (l : List Nat) (y : Port) : (l.foldl (fun y t => y.answer tick me t stFENCED 0x02 []) y).fr.fMgr = y.fr.fMgr := by
    induction l generalizing y with
    | nil => rfl
    | cons t l ih => rw [List.foldl_cons, ih, fMgr_answer]
  unfold Port.fence
  split
  · rfl
  · exact hfold _ _

/-- PORT_FENCE gives its ports cause MANAGER, and leaves the other ports alone. -/
theorem rPortFence_facts (x : Mbx) (s : State) : (rPortFence [] x s).2 = some (0, []) ∧
    (∀ p < 32, (x.q 0).getLsbD p = true → ((rPortFence [] x s).1.port p).fr.fMgr = true) ∧
    ∀ p, (x.q 0).getLsbD p = false → (rPortFence [] x s).1.port p = s.port p := by
  have hset : (portSet (x.q 0)).filter (fun p => !([] : List (Nat × Nat)).contains (15, p)) = portSet (x.q 0) := by simp
  obtain ⟨-, hother, hfenced⟩ := foldl_touches (get := State.port) (I := fun _ => True) (C := fun _ _ => True) (P := fun _ _ y => y.fr.fMgr = true)
    (f := fun s p => fencePort p .mgr s) id (fun _ _ _ _ => trivial) (fun t p q _ _ hq => port_modPort_ne _ _ _ _ hq)
    (fun t p _ _ => by rw [fencePort, id, port_modPort_same]; exact fMgr_fence _ _ _) (l := portSet (x.q 0))
    (by rw [List.map_id]; exact List.nodup_range.filter _) (s := s) trivial (fun _ _ => trivial)
  refine ⟨rfl, fun p hp hbit => ?_, fun p hbit => ?_⟩
  all_goals
    rw [rPortFence, hset]
  · exact hfenced p (List.mem_filter.2 ⟨List.mem_range.2 hp, hbit⟩)
  · refine hother p fun hmem => ?_
    rw [List.map_id] at hmem
    rw [(List.mem_filter.1 hmem).2] at hbit
    cases hbit

/-! ### Clusters (R155, R322) -/

theorem rClusterStep_accepts {m : Option Nat} {x : Mbx} {s : State} (hls : s.ls.on = false) (hready : s.cluReady (bitsOf (x.q 0) 0 3) = true) :
    (rClusterStep m x s).2 = none ∧ ((rClusterStep m x s).1.clu (bitsOf (x.q 0) 0 3)).mgrTarget = bitsOf (x.q 0) 4 2 := by
  have hset : ((s.modClu (bitsOf (x.q 0) 0 3) (fun u => { u with mgrTarget := bitsOf (x.q 0) 4 2 })).clu (bitsOf (x.q 0) 0 3)).mgrTarget =
      bitsOf (x.q 0) 4 2 := by
    rw [State.clu_modClu, if_pos rfl]
  rw [rClusterStep, if_neg (by simp [hls, hready])]
  cases m with
  | none => exact ⟨rfl, hset⟩
  | some m => exact ⟨rfl, hset⟩

theorem cluReady_cleared (w : BitVec 16) {k : Nat} : (w &&& ~~~(1#16 <<< k)).getLsbD k = false := by
  by_cases hk : k < 16
  · simp [hk]
  · simp [BitVec.getLsbD_of_ge _ _ (Nat.le_of_not_lt hk)]

theorem waitFor_ready (m : Option Nat) (w : Wait) (s : State) : (waitFor m w s).1.ready = s.ready := by
  cases m <;> rfl

theorem ready_cluDown (k : Nat) (s : State) : (cluDown k s).ready = s.ready &&& ~~~(1#16 <<< k) := by
  have hfold (l : List Nat) (s : State) : (l.foldl (fun s j => { (s.modChan (4 * k + j) Chan.unpowered) with
      ret := { s.ret with chans := tset s.ret.chans (4 * k + j) (some (s.chan (4 * k + j)).i.retained) } }) s).ready = s.ready := by
    induction l generalizing s with
    | nil => rfl
    | cons j l ih => exact ih _
  exact congrArg (· &&& ~~~(1#16 <<< k)) (hfold (List.range 4) s)

/-- Where a cluster's readiness is gone, the loss of its domain does not bring it back. -/
theorem cluReady_domDown {k : Nat} (hk : k < 8) {s : State} (h : s.cluReady k = false) : (domDown (36 + k) s).cluReady k = false := by
  unfold domDown
  dsimp only
  split
  · exact h
  · rw [if_neg (by omega), if_pos (by omega), Nat.add_sub_cancel_left, State.cluReady, ready_cluDown]
    exact cluReady_cleared _

/-- The cluster that CLUSTER_POWER switches off: to step 0, to drain where it has power, and no longer ready. -/
def cluLeaves (k : Nat) (s : State) : State :=
  { (s.modClu k (fun u => { u with mgrTarget := 0, draining := s.domOn (36 + k) })) with ready := s.ready &&& ~~~(1#16 <<< k) }

/-- CLUSTER_POWER off ends the readiness of the cluster, whether or not its domain stays on to drain. -/
theorem rClusterPower_off {m : Option Nat} {x : Mbx} {s : State} (hoff : (x.q 0).getLsbD 8 = false) (hls : s.ls.on = false) :
    (rClusterPower m [] x s).1.cluReady (bitsOf (x.q 0) 0 3) = false := by
  have hk : bitsOf (x.q 0) 0 3 < 8 := Nat.mod_lt _ (by decide)
  have hcmd : rClusterPower m [] x s = waitFor m (.cluOff (bitsOf (x.q 0) 0 3))
      (if (cluLeaves (bitsOf (x.q 0) 0 3) s).domOn (36 + bitsOf (x.q 0) 0 3) then cluLeaves (bitsOf (x.q 0) 0 3) s
        else domDown (36 + bitsOf (x.q 0) 0 3) (cluLeaves (bitsOf (x.q 0) 0 3) s)) := by
    rw [rClusterPower, if_neg (by simp [hls]), if_neg (by simp), if_neg (fun h => by rw [hoff] at h; cases h)]
    rfl
  generalize bitsOf (x.q 0) 0 3 = k at hk hcmd ⊢
  have hleaves : (cluLeaves k s).cluReady k = false := cluReady_cleared _
  rw [hcmd, State.cluReady, waitFor_ready]
  split
  · exact hleaves
  · exact cluReady_domDown hk hleaves

/-! ### Refusals that the state gives reason for (R322 to R329) -/

section
variable {m : Option Nat} {x : Mbx} {s : State}

/-- SECT_ADMIT above what the live channels can hold (R199). -/
theorem rSectAdmit_overcommits (hlive : s.ready.extractLsb' 0 8 ≠ 0) (hp : ∀ c < 7, bitsOf (x.q 0) (3 * c) 3 ≤ 5)
    (h : (liveCounts s).1 < (List.range 7).foldl (fun n c => n + bitsOf (x.q 0) (3 * c) 3) 1) :
    rSectAdmit x s = (s, some (6, [])) := by
  have hvalid : ¬ (List.range 7).any (fun c => bitsOf (x.q 0) (3 * c) 3 > 5) = true := by
    simp only [List.any_eq_true, List.mem_range, decide_eq_true_eq, not_exists, not_and, Nat.not_lt]
    exact hp
  rw [rSectAdmit]
  dsimp only
  rw [if_neg hlive, if_neg hvalid, if_pos h]
  rfl

/-- STREAM_ALLOC of a stream that is in use (R252). -/
theorem rStreamAlloc_busy (hready : streamReady s (bitsOf (x.q 0) 0 18) = true) (hcls : bitsOf (x.q 3) 16 3 ≠ 7)
    (hdesc : ((x.q 1).toNat + bitsOf (x.q 2) 0 16 * 2 ^ 32) % 64 = 0) (hst : (ctxOf s (bitsOf (x.q 0) 0 18)).state ≠ sFREE) :
    rStreamAlloc x s = (s, some (5, [])) := by
  rw [rStreamAlloc, if_neg (by simp [hready]), if_neg (not_or.2 ⟨hcls, fun h => h hdesc⟩), if_pos (.inl hst)]
  rfl

/-- STREAM_FREE of a stream that is free or at work (R252). -/
theorem rStreamFree_busy (hready : streamReady s (bitsOf (x.q 0) 0 18) = true)
    (hst : (ctxOf s (bitsOf (x.q 0) 0 18)).state ∈ [sFREE, sQUEUED, sRUNNING, sSTOPPING, sPREEMPTED]) :
    rStreamFree x s = (s, some (5, [])) := by
  have hnot : ∀ v ∈ [sFREE, sQUEUED, sRUNNING, sSTOPPING, sPREEMPTED], v ≠ sIDLE ∧ v ≠ sDONE ∧ v ≠ sSTOPPED ∧ v ≠ sUNUSABLE := by decide
  rw [rStreamFree, if_neg (by simp [hready]), if_pos (hnot _ hst)]
  rfl

/-- FW_REGION_SET of a region that is in use (R324). -/
theorem rFwRegionSet_busy (hused : (tget none s.regions (bitsOf (x.q 0) 0 6)).isSome = true) (hpages : bitsOf (x.q 3) 0 25 ≠ 0)
    (hlo : -1074 ≤ ((x.q 4).extractLsb' 0 12).toInt) (hhi : ((x.q 4).extractLsb' 0 12).toInt ≤ 1023)
    (htop : (x.q 1).toNat + bitsOf (x.q 2) 0 5 * 2 ^ 32 + 4096 * bitsOf (x.q 3) 0 25 ≤ hvTopOf s) :
    rFwRegionSet x s = (s, some (5, [])) := by
  rw [rFwRegionSet, if_neg (by rw [not_or, not_or, not_or]; exact ⟨hpages, by omega, by omega, by omega⟩), if_pos (by simp [hused])]
  rfl

/-- FUSE_PROGRAM of the critical bank outside lifecycle state FACTORY (R325). -/
theorem rFuseProgram_denied (hbank : bitsOf (x.q 0) 0 8 = 0) (hn : fuseCount (x.q 0) ≠ 0)
    (hfit : bitsOf (x.q 0) 8 16 + fuseCount (x.q 0) ≤ 8) (hlife : s.ll.life ≠ 0) : rFuseProgram m x s = (s, some (7, [2])) := by
  have hsize : bankSize (bitsOf (x.q 0) 0 8) = 8 := by rw [hbank]; rfl
  rw [rFuseProgram, hsize, if_neg (by omega), if_pos ⟨hbank, hlife⟩]
  rfl

end

/-- Settles O51: the code selects a decision, and the conditions of each clause select its branch. -/
theorem renjanCommandsDecide : Obligations.RenjanCommandsDecide := by
  refine ⟨fun s s' y st w hdb hstaged hkept => ⟨stagedCmds_waits hdb hstaged, stagedCmds_decides hdb hstaged hkept⟩, ?_⟩
  intro s m x q
  refine ⟨fun hc hany htraffic => ?stackIdSet, fun hc => ?portFence, fun hc hports => ?portUnfence, fun hc hen hid => ?relaySet,
    fun hc => ?clusterStep, fun hc hoff hls => ?clusterPower, fun hc hlive hp h => ?sectAdmit, fun hc => ?streamAlloc, fun hc => ?streamFree,
    fun hc => ?fwRegionSet, fun hc hused => ?fwRegionClear, fun hc hready hkey => ?channelRetire, fun hc hg => ?lanConfig,
    fun hc hlife => ?watchSelect, fun hc hbank hn hfit hlife => ?fuseProgram, fun hc hto => ?lifecycleAdvance, fun hc => ?keeperReset,
    fun hc hchecker hunit hn => ?faultInject, fun hc hpulse => ?foghornDrive, fun hc hls => ?lightshipExit⟩
  case stackIdSet =>
    rw [decideCmd_stackIdSet hc]
    exact if_neg (by simp [hany, htraffic])
  case portFence =>
    rw [decideCmd_portFence hc]
    exact rPortFence_facts x s
  case portUnfence =>
    obtain ⟨p, hp, hbit, hlink⟩ := hports
    rw [decideCmd_portUnfence hc]
    refine if_pos (List.any_eq_true.2 ⟨p, List.mem_filter.2 ⟨List.mem_range.2 hp, hbit⟩, ?_⟩)
    simpa using hlink
  case relaySet =>
    rw [decideCmd_relaySet hc]
    exact if_pos (by simp [q, hen, hid])
  case clusterStep =>
    intro k hls hready
    rw [decideCmd_clusterStep hc]
    exact rClusterStep_accepts hls hready
  case clusterPower =>
    rw [decideCmd_clusterPower hc]
    exact rClusterPower_off hoff hls
  case sectAdmit =>
    rw [decideCmd_sectAdmit hc]
    exact rSectAdmit_overcommits hlive hp h
  case streamAlloc =>
    intro n hready hcls hdesc hst
    rw [decideCmd_streamAlloc hc]
    exact rStreamAlloc_busy hready hcls hdesc hst
  case streamFree =>
    intro n hready hst
    rw [decideCmd_streamFree hc]
    exact rStreamFree_busy hready hst
  case fwRegionSet =>
    intro n hused hpages hlo hhi htop
    rw [decideCmd_fwRegionSet hc]
    exact rFwRegionSet_busy hused hpages hlo hhi htop
  case fwRegionClear =>
    rw [decideCmd_fwRegionClear hc]
    exact if_neg (by simpa [Option.isSome_iff_ne_none] using hused)
  case channelRetire =>
    rw [decideCmd_channelRetire hc]
    exact (if_neg (by simpa using hready)).trans (if_pos hkey)
  case lanConfig =>
    rw [decideCmd_lanConfig hc]
    exact if_neg (Nat.not_lt.2 hg)
  case watchSelect =>
    rw [decideCmd_watchSelect hc]
    exact if_neg fun h => hlife h.1
  case fuseProgram =>
    rw [decideCmd_fuseProgram hc]
    exact rFuseProgram_denied hbank hn hfit hlife
  case lifecycleAdvance =>
    rw [decideCmd_lifecycleAdvance hc]
    exact if_pos (.inl hto)
  case keeperReset =>
    rw [decideCmd_keeperReset hc]
    rfl
  case faultInject =>
    rw [decideCmd_faultInject hc, rFaultInject]
    dsimp only
    rw [hchecker]
    exact if_neg (by rw [not_or, not_or]; exact ⟨by decide, hn, Nat.not_le.2 hunit⟩)
  case foghornDrive =>
    rw [decideCmd_foghornDrive hc]
    exact if_neg (by simp [hpulse])
  case lightshipExit =>
    rw [decideCmd_lightshipExit hc, rLightshipExit]
    dsimp only
    rw [if_pos (by simp [hls]), hls]
    rfl

end Sys2Proof.Machine
end

section
/-! SUPPORT. What Lantern's decisions change (R146, R154, R385 to R388), and the filtered pins (R345, R348). -/

namespace Sys2Proof.Machine

/-! ### Lantern's operations -/

/-- From `s` to `t` only Lantern, the arbiter, the Beacon unit, clusters and channels changed. -/
abbrev OnLantern (s t : State) : Prop :=
  t = { s with lan := t.lan, sec := t.sec, bcn := t.bcn, clus := t.clus, chans := t.chans }

theorem OnLantern.trans {s t u : State} (h : OnLantern s t) (h' : OnLantern t u) : OnLantern s u := by
  rw [h] at h'
  exact h'

theorem onLantern_emit (e : Ev) (s : State) : OnLantern s (emit e s) := by
  have h := emit_frame e s
  generalize emit e s = t at h
  rw [h]

theorem onLantern_foldl {α : Type} {f : State → α → State} (hf : ∀ s x, OnLantern s (f s x)) (l : List α) (s : State) :
    OnLantern s (l.foldl f s) := by
  induction l generalizing s with
  | nil => rfl
  | cons x l ih => exact (hf s x).trans (ih _)

/-- A quantity that each step keeps is kept. -/
theorem foldl_keeps {σ α β : Type} {f : σ → α → σ} {g : σ → β} (hf : ∀ s x, g (f s x) = g s) (l : List α) (s : σ) :
    g (l.foldl f s) = g s := by
  induction l generalizing s with
  | nil => rfl
  | cons x l ih => rw [List.foldl_cons, ih, hf]

/-- Lantern without its event register and the rates in the controllers. -/
def Lan.deciding (l : Lan) : Lan := { l with evt := {}, rate := 0 }

/-- What Lantern decides of the throttle level depends on no event register. -/
theorem k_of_deciding {l m : Lan} (h : l.deciding = m.deciding) : l.k = m.k := (congrArg Lan.k h :)

theorem lanRec_facts (inst : Nat) (pay : BitVec 96) (s : State) :
    OnLantern s (lanRec inst pay s) ∧ (lanRec inst pay s).lan = s.lan ∧ (lanRec inst pay s).sec = s.sec ∧
      (lanRec inst pay s).chans = s.chans := by
  have hf := emit_frame { unit := 0x0C, inst := inst, cls := .c0, fast := inst ≤ 1, payload := .value pay } s
  refine ⟨onLantern_emit _ _, ?_⟩
  unfold lanRec
  rw [hf]
  exact ⟨rfl, rfl, rfl⟩

/-- k takes the value that Lantern's state gives it (R387). -/
theorem setLevel_facts (first : Bool) (s : State) : OnLantern s (setLevel first s) ∧ (setLevel first s).lan.deciding = s.lan.deciding ∧
    (setLevel first s).lan.rate = s.lan.rate ∧ (setLevel first s).sec.k = s.lan.k := by
  unfold setLevel
  dsimp only
  split
  next hk => exact ⟨rfl, rfl, rfl, hk.symm⟩
  next =>
    refine ⟨OnLantern.trans rfl (lanRec_facts _ _ _).1, ?_, ?_, ?_⟩
    · rw [(lanRec_facts _ _ _).2.1]; rfl
    · rw [(lanRec_facts _ _ _).2.1]; rfl
    · rw [(lanRec_facts _ _ _).2.2.1]; rfl

theorem setThr_facts (s : State) : OnLantern s (setThr s) ∧ (setThr s).lan = s.lan ∧ (setThr s).sec = s.sec := by
  unfold setThr
  split <;> exact ⟨rfl, rfl, rfl⟩

/-- The dies whose refresh is to be doubled (R146, R326). -/
def Lan.ratesNow (l : Lan) : BitVec 16 :=
  match l.ovr with
  | some o => if o.doubled then 0xFFFF#16 else l.doubled
  | none => l.doubled

/-- The records of changed rates. -/
def rateRecords (own now old : BitVec 16) (s : State) : State :=
  (List.range 16).foldl (fun s d =>
    if now.getLsbD d != old.getLsbD d then
      lanRec (0x20 + d) (lanPay s (tempCode (tget none s.lan.eff d)) d false ((now.getLsbD d).toNat + (!own.getLsbD d).toNat * 2)) s
    else s) s

theorem rateRecords_facts (own now old : BitVec 16) (s : State) :
    OnLantern s (rateRecords own now old s) ∧ (rateRecords own now old s).lan = s.lan ∧ (rateRecords own now old s).sec = s.sec ∧
      (rateRecords own now old s).chans = s.chans := by
  refine ⟨onLantern_foldl (fun t d => ?_) _ _, foldl_keeps (fun t d => ?_) _ _, foldl_keeps (fun t d => ?_) _ _, foldl_keeps (fun t d => ?_) _ _⟩
  all_goals split
  · exact (lanRec_facts _ _ _).1
  · rfl
  · exact (lanRec_facts _ _ _).2.1
  · rfl
  · exact (lanRec_facts _ _ _).2.2.1
  · rfl
  · exact (lanRec_facts _ _ _).2.2.2
  · rfl

/-- The refresh rates `now` in the controllers that are ready. -/
def giveRates (now : BitVec 16) (s : State) : State :=
  (List.range 32).foldl (fun s ch => if s.cluReady (cluOf ch) then s.modSched ch (fun q => { q with doubled := now }) else s) s

theorem giveRates_facts (now : BitVec 16) (s : State) :
    giveRates now s = { s with chans := (giveRates now s).chans } ∧
      ∀ c < 32, s.cluReady (cluOf c) = true → ((giveRates now s).chan c).q.doubled = now := by
  obtain ⟨hframe, -, hgiven⟩ := foldl_touches (get := State.chan) (I := fun t => t = { s with chans := t.chans }) (C := fun _ _ => True)
    (P := fun c _ y => s.cluReady (cluOf c) = true → y.q.doubled = now)
    (f := fun s ch => if s.cluReady (cluOf ch) then s.modSched ch (fun q => { q with doubled := now }) else s) id
    (fun t c h _ => by
      split
      · rw [h]; rfl
      · exact h)
    (fun t c c' _ _ hne => by
      split
      · exact (onChan_modSched _ _ _).2 c' hne
      · rfl)
    (fun t c h _ hready => by
      have hready' : t.cluReady (cluOf c) = true := by rw [h]; exact hready
      rw [if_pos hready', id, State.modSched_q])
    (l := List.range 32) (by rw [List.map_id]; exact List.nodup_range) (s := s) rfl (fun _ _ => trivial)
  exact ⟨hframe, fun c hc => hgiven c (List.mem_range.2 hc)⟩

theorem setRates_eq (own : BitVec 16) (s : State) : setRates own s = if s.lan.ratesNow = s.lan.rate then s
    else rateRecords own s.lan.ratesNow s.lan.rate (lanEvt 3 (giveRates s.lan.ratesNow (s.modLan (fun l => { l with rate := s.lan.ratesNow })))) :=
  rfl

/-- The refresh rates reach the controllers that are ready (R146). -/
theorem setRates_facts (own : BitVec 16) (s : State) : OnLantern s (setRates own s) ∧ (setRates own s).lan.deciding = s.lan.deciding ∧
    (setRates own s).lan.rate = s.lan.ratesNow ∧ (setRates own s).sec = s.sec ∧
    (s.lan.rate ≠ s.lan.ratesNow → ∀ c < 32, s.cluReady (cluOf c) = true → ((setRates own s).chan c).q.doubled = s.lan.ratesNow) := by
  rw [setRates_eq]
  split
  next h => exact ⟨rfl, rfl, h.symm, rfl, fun hne => absurd h.symm hne⟩
  next =>
    obtain ⟨hframe, hgiven⟩ := giveRates_facts s.lan.ratesNow (s.modLan (fun l => { l with rate := s.lan.ratesNow }))
    generalize giveRates s.lan.ratesNow (s.modLan (fun l => { l with rate := s.lan.ratesNow })) = t at hframe hgiven
    obtain ⟨hon, hlan, hsec, hchans⟩ := rateRecords_facts own s.lan.ratesNow s.lan.rate (lanEvt 3 t)
    have ht : OnLantern s (lanEvt 3 t) := by rw [hframe]; rfl
    refine ⟨ht.trans hon, ?_, ?_, ?_, fun _ c hc hready => ?_⟩
    · rw [hlan, hframe]; rfl
    · rw [hlan, hframe]; rfl
    · rw [hsec, hframe]; rfl
    · rw [State.chan, hchans]
      exact hgiven c hc hready

/-- Cluster `k` takes the step limit `lim`. -/
def takeLimit (k lim : Nat) (s : State) : State :=
  if (s.clu k).limit = lim then s else lanEvt 6 (s.modClu k (fun u => { u with limit := lim }))

/-- The step limit of R388 and of the override reaches cluster `k`. -/
def giveLimit (s : State) (k : Nat) : State :=
  takeLimit k (max (tget 0 s.lan.lim k) (match s.lan.ovr with | some o => o.limit | none => 0)) s

theorem giveLimit_facts (s : State) (k : Nat) : OnLantern s (giveLimit s k) ∧ (giveLimit s k).lan.deciding = s.lan.deciding ∧
    (giveLimit s k).lan.rate = s.lan.rate ∧ (giveLimit s k).sec = s.sec := by
  unfold giveLimit takeLimit
  generalize max (tget 0 s.lan.lim k) _ = lim
  split <;> exact ⟨rfl, rfl, rfl, rfl⟩

theorem setLimits_eq (s : State) : setLimits s = (List.range 8).foldl giveLimit s := rfl

theorem setLimits_facts (s : State) : OnLantern s (setLimits s) ∧ (setLimits s).lan.deciding = s.lan.deciding ∧
    (setLimits s).lan.rate = s.lan.rate ∧ (setLimits s).sec = s.sec := by
  rw [setLimits_eq]
  exact ⟨onLantern_foldl (fun t k => (giveLimit_facts t k).1) _ _,
    foldl_keeps (g := fun s : State => s.lan.deciding) (fun t k => (giveLimit_facts t k).2.1) _ _,
    foldl_keeps (g := fun s : State => s.lan.rate) (fun t k => (giveLimit_facts t k).2.2.1) _ _,
    foldl_keeps (g := State.sec) (fun t k => (giveLimit_facts t k).2.2.2) _ _⟩

/-- Everything that follows from Lantern's state at a boundary. -/
theorem lanApply_facts (first : Bool) (own : BitVec 16) (s : State) :
    OnLantern s (lanApply first own s) ∧ (lanApply first own s).lan.deciding = s.lan.deciding ∧
      (lanApply first own s).lan.rate = s.lan.ratesNow ∧ (lanApply first own s).sec.k = s.lan.k := by
  obtain ⟨h1, hd1, -, hk1⟩ := setLevel_facts first s
  obtain ⟨h2, hl2, hs2⟩ := setThr_facts (setLevel first s)
  obtain ⟨h3, hd3, hr3, hs3, -⟩ := setRates_facts own (setThr (setLevel first s))
  obtain ⟨h4, hd4, hr4, hs4⟩ := setLimits_facts (setRates own (setThr (setLevel first s)))
  have hnow : (setThr (setLevel first s)).lan.ratesNow = s.lan.ratesNow := by
    rw [hl2]
    exact (congrArg Lan.ratesNow hd1 :)
  refine ⟨((h1.trans h2).trans h3).trans h4, ?_, ?_, ?_⟩
  · rw [lanApply, hd4, hd3, hl2, hd1]
  · rw [lanApply, hr4, hr3, hnow]
  · rw [lanApply, hs4, hs3, hs2, hk1]

theorem refreshHolds_facts (ch : Nat) (s : State) : OnLantern s (refreshHolds ch s) ∧ (refreshHolds ch s).lan = s.lan ∧
    (refreshHolds ch s).sec.k = s.sec.k := by
  obtain ⟨hframe, hsec⟩ := refreshHolds_frame ch s
  generalize refreshHolds ch s = t at hframe hsec
  refine ⟨by rw [hframe], by rw [hframe], by rw [hsec]⟩

/-- EFF computed anew changes neither Lantern nor k (R200). -/
theorem effRecompute_facts (s : State) : OnLantern s (effRecompute s) ∧ (effRecompute s).lan = s.lan ∧ (effRecompute s).sec.k = s.sec.k := by
  unfold effRecompute
  extract_lets x live prev r ready8 cause changed steps s1 s2
  have h1 : OnLantern s s1 ∧ s1.lan = s.lan ∧ s1.sec.k = s.sec.k := ⟨rfl, rfl, rfl⟩
  have h2 : OnLantern s s2 ∧ s2.lan = s.lan ∧ s2.sec.k = s.sec.k := by
    unfold s2
    split
    · refine ⟨(OnLantern.trans h1.1 rfl).trans (onLantern_emit _ _), ?_, ?_⟩
      · rw [emit_frame]; exact h1.2.1
      · rw [emit_frame]; exact h1.2.2
    · exact h1
  obtain ⟨hon, hlan, hk⟩ := h2
  refine ⟨hon.trans (onLantern_foldl (fun t ch => (refreshHolds_facts ch t).1) _ _), ?_, ?_⟩
  · exact (foldl_keeps (fun t ch => (refreshHolds_facts ch t).2.1) _ _).trans hlan
  · exact (foldl_keeps (g := fun s : State => s.sec.k) (fun t ch => (refreshHolds_facts ch t).2.2) _ _).trans hk

/-- The end of a command that changed only what Lantern's decisions change. -/
theorem settle_onLantern {s t : State} (hcalm : Calm s) (h : OnLantern s t) : settle s t = t :=
  settle_ports s t (by rw [h]; exact hcalm) (by rw [h]) (by rw [h])

/-- What follows from a decision `l` of Lantern outside a boundary. -/
theorem decided_facts (first : Bool) {s : State} (l : Lan) (hcalm : Calm s) : let t := effRecompute (lanApply first 0 { s with lan := l })
    settle s t = t ∧ OnLantern s t ∧ t.lan.deciding = l.deciding ∧ t.lan.rate = l.ratesNow ∧ t.sec.k = t.lan.k := by
  intro t
  obtain ⟨h1, hd1, hr1, hk1⟩ := lanApply_facts first 0 { s with lan := l }
  obtain ⟨h2, hl2, hk2⟩ := effRecompute_facts (lanApply first 0 { s with lan := l })
  have hon : OnLantern s t := (OnLantern.trans (t := { s with lan := l }) rfl h1).trans h2
  have hd : t.lan.deciding = l.deciding := by rw [hl2, hd1]
  exact ⟨settle_onLantern hcalm hon, hon, hd, by rw [hl2, hr1], by rw [hk2, hk1, k_of_deciding hd]⟩

/-! ### Bits set one by one -/

/-- The bits of a set to which each number that meets a condition has been added. -/
theorem getLsbD_foldl_set {n m : Nat} (p : Nat → Bool) (w : BitVec n) {i : Nat} (hi : i < n) :
    ((List.range m).foldl (fun w d => if p d then w ||| (1#n <<< d) else w) w).getLsbD i = (w.getLsbD i || (decide (i < m) && p i)) := by
  induction m with
  | zero => simp
  | succ m ih =>
    have hbit : ((1#n <<< m).getLsbD i) = decide (i = m) := by
      rw [Bool.eq_iff_iff, BitVec.getLsbD_shiftLeft, BitVec.getLsbD_one]
      simp only [Bool.and_eq_true, decide_eq_true_eq, Bool.not_eq_true', decide_eq_false_iff_not]
      omega
    rw [List.range_succ, List.foldl_append, List.foldl_cons, List.foldl_nil]
    by_cases him : i = m
    · subst him
      cases hp : p i <;> simp [ih, hbit, hp]
    · have hlt : (i < m + 1) ↔ i < m := by omega
      split <;> simp [ih, hbit, him, hlt]

/-! ### Pins -/

theorem src_modSrc (b : Bcn) (l k : Nat) (f : LSrc → LSrc) : (b.modSrc l f).src k = if k = l then f (b.src k) else b.src k := by
  rw [Bcn.src, Bcn.modSrc, tget_tmod]
  split
  next hk => rw [hk]; rfl
  next => rfl

/-- A capture changes no level source. -/
theorem src_capture (b : Bcn) (d : Day) (fast : Bool) (x : Rec) (l : Nat) : (b.capture d fast x).src l = b.src l := by
  have hring (f : Bool) (r : Ring) : (b.setRing f r).lsrc = b.lsrc := by cases f <;> rfl
  unfold Bcn.capture
  dsimp only
  split
  · exact congrArg (fun t => tget {} t l) (hring _ _)
  · rfl

/-- A level source takes the state that it is given. -/
theorem active_lsrcSet (d : Day) (l : Nat) (a : Bool) (b : Bcn) : ((lsrcSet d l a b).src l).active = a := by
  have htaken : ((b.modSrc l (fun y => { y with active := a })).src l).active = a := by rw [src_modSrc, if_pos rfl]
  unfold lsrcSet lsrcTry
  dsimp only
  split
  · rw [src_modSrc, if_pos rfl, src_capture]
    exact htaken
  · exact htaken

/-- An edge of SR_N is counted, and the source takes the level after it (R348). -/
theorem edgeSample_facts (d : Day) (low : Bool) (b : Bcn) : ((edgeSample d low b).src 1).active = low ∧
    ((edgeSample d low b).src 1).edges = min ((b.src 1).edges + 1) 255 := by
  have htaken : (b.modSrc 1 (fun y => { y with active := low, edges := min (y.edges + 1) 255 })).src 1 =
      { b.src 1 with active := low, edges := min ((b.src 1).edges + 1) 255 } := by rw [src_modSrc, if_pos rfl]
  unfold edgeSample
  dsimp only
  split
  · rw [src_modSrc, if_pos rfl, src_capture, htaken]
    exact ⟨rfl, rfl⟩
  · rw [htaken]
    exact ⟨rfl, rfl⟩

/-- Samples of TRIP_N: the filter runs over them, and after a change the level source shows the filtered level. -/
theorem tripSamples (s : State) (l : List Bool) :
    let p := l.foldl (filterStep 25) (s.lan.trip, s.lan.tripRun)
    let t := l.foldl tripSample s
    t = { s with lan := { s.lan with trip := p.1, tripRun := p.2 }, bcn := t.bcn } ∧ (p.1 = s.lan.trip ∨ (t.bcn.src 0).active = p.1) := by
  induction l using List.reverseRecOn with
  | nil => exact ⟨rfl, .inl rfl⟩
  | append_singleton l low ih =>
    simp only [List.foldl_append, List.foldl_cons, List.foldl_nil]
    obtain ⟨hframe, hsrc⟩ := ih
    generalize l.foldl tripSample s = t at hframe hsrc
    generalize l.foldl (filterStep 25) (s.lan.trip, s.lan.tripRun) = p at hframe hsrc
    have hlan : (t.lan.trip, t.lan.tripRun) = p := by rw [hframe]
    have htrip : t.lan.trip = p.1 := by rw [hframe]
    unfold tripSample
    dsimp only
    rw [hlan, htrip]
    split
    next hsame => exact ⟨by rw [hframe]; rfl, by rw [hsame]; exact hsrc⟩
    next => exact ⟨by rw [hframe]; rfl, .inr (active_lsrcSet _ _ _ _)⟩

/-- Samples of SR_N: after a change the source shows the filtered level, and an edge of the tick has been counted. -/
theorem srSamples (s : State) (l : List Bool) :
    let p := l.foldl (filterStep 25) (s.pwr.srLow, s.pwr.srRun)
    let t := l.foldl srSample s
    t = { s with pwr := { s.pwr with srLow := p.1, srRun := p.2 }, bcn := t.bcn } ∧
      ((p.1 = s.pwr.srLow ∧ t.bcn = s.bcn) ∨
        ((t.bcn.src 1).active = p.1 ∧ min ((s.bcn.src 1).edges + 1) 255 ≤ (t.bcn.src 1).edges)) := by
  induction l using List.reverseRecOn with
  | nil => exact ⟨rfl, .inl ⟨rfl, rfl⟩⟩
  | append_singleton l low ih =>
    simp only [List.foldl_append, List.foldl_cons, List.foldl_nil]
    obtain ⟨hframe, hsrc⟩ := ih
    generalize l.foldl srSample s = t at hframe hsrc
    generalize l.foldl (filterStep 25) (s.pwr.srLow, s.pwr.srRun) = p at hframe hsrc
    have hpwr : (t.pwr.srLow, t.pwr.srRun) = p := by rw [hframe]
    have hlow : t.pwr.srLow = p.1 := by rw [hframe]
    unfold srSample
    dsimp only
    rw [hpwr, hlow]
    split
    next hsame => exact ⟨by rw [hframe], by rw [hsame]; exact hsrc⟩
    next =>
      obtain ⟨hactive, hedges⟩ := edgeSample_facts t.day (filterStep 25 p low).1 t.bcn
      refine ⟨by rw [hframe]; rfl, .inr ⟨hactive, ?_⟩⟩
      have hcount : min ((s.bcn.src 1).edges + 1) 255 ≤ min ((t.bcn.src 1).edges + 1) 255 := by
        rcases hsrc with ⟨-, hb⟩ | ⟨-, hle⟩
        · rw [hb]
        · omega
      exact hcount.trans (le_of_eq hedges.symm)

/-- A filter of `m` samples follows a change that has lasted for `m` of them (R345). -/
theorem filterStep_replicate {m : Nat} (old low : Bool) (h : old ≠ low) (n k : Nat) (hk : k < m) :
    ((List.replicate n low).foldl (filterStep m) (old, k)).1 = if m ≤ k + n then low else old := by
  have hstays (n : Nat) : ((List.replicate n low).foldl (filterStep m) (low, 0)).1 = low := by
    induction n with
    | zero => rfl
    | succ n ih => rw [List.replicate_succ, List.foldl_cons, filterStep, if_pos rfl]; exact ih
  induction n generalizing k with
  | zero => rw [if_neg (by omega)]; rfl
  | succ n ih =>
    rw [List.replicate_succ, List.foldl_cons, filterStep, if_neg (Ne.symm h)]
    split
    next hlt =>
      rw [ih (k + 1) hlt]
      simp only [show k + 1 + n = k + (n + 1) by omega]
    next hge => rw [hstays, if_pos (by omega)]

end Sys2Proof.Machine
end

section
/-! SUPPORT. What the end of a command leaves as it is: all but the ports, the channels with their clusters and cells, the arbiter, the Beacon unit,
the fault word, lightship mode, messages, coverage, and the readiness that lightship mode takes away. -/

namespace Sys2Proof.Machine

/-- A state without what the collector, a lightship entry and the work of the channels can change; of the readiness it keeps the bits of Keeper,
the Light list and Lantern (R367, R435). -/
def State.aside (s : State) : State :=
  { s with ports := [], clus := [], chans := [], mem := [], chk := [], sec := {}, ready := s.ready &&& 0xE000#16, bcn := {}, flt := {}, ls := {}
           pcie := {}, wch := {} }

/-- A change of any field that does not show. -/
@[simp] theorem aside_mk (s : State) (ports clus chans mem chk sec bcn flt ls pcie wch) :
    (State.mk s.day s.staged ports s.clk clus chans mem chk sec s.regions s.stackId s.tenderPart s.ready bcn flt ls pcie s.pwr s.ret s.snap
      s.kpr s.lan s.ll wch s.tnd s.rlyTurn s.free s.pending).aside = s.aside := (rfl)

/-- A lightship entry leaves the readiness of these units. -/
@[simp] theorem aside_mk_ready (s : State) (ports clus chans mem chk sec bcn flt ls pcie wch) :
    (State.mk s.day s.staged ports s.clk clus chans mem chk sec s.regions s.stackId s.tenderPart (s.ready &&& 0xE000#16) bcn flt ls pcie s.pwr
      s.ret s.snap s.kpr s.lan s.ll wch s.tnd s.rlyTurn s.free s.pending).aside = s.aside := by
  simp only [State.aside, BitVec.and_assoc, BitVec.and_self]

@[simp] theorem aside_modPort (s : State) (p : Nat) (f : Port → Port) : (s.modPort p f).aside = s.aside := (rfl)
@[simp] theorem aside_modChan (s : State) (c : Nat) (f : Chan → Chan) : (s.modChan c f).aside = s.aside := (rfl)
@[simp] theorem aside_modClu (s : State) (k : Nat) (f : Clu → Clu) : (s.modClu k f).aside = s.aside := (rfl)
@[simp] theorem aside_modSec (s : State) (f : Sec → Sec) : (s.modSec f).aside = s.aside := (rfl)
@[simp] theorem aside_modFlt (s : State) (f : Flt → Flt) : (s.modFlt f).aside = s.aside := (rfl)
@[simp] theorem aside_modBcn (s : State) (f : Bcn → Bcn) : (s.modBcn f).aside = s.aside := (rfl)

@[simp] theorem aside_ite {c : Prop} [Decidable c] (s t : State) : (if c then s else t).aside = if c then s.aside else t.aside :=
  apply_ite State.aside c s t

@[simp] theorem aside_foldl {α : Type} {f : State → α → State} (hf : ∀ s x, (f s x).aside = s.aside) (l : List α) (s : State) :
    (l.foldl f s).aside = s.aside := by
  induction l generalizing s with
  | nil => rfl
  | cons x l ih => rw [List.foldl_cons, ih, hf]

@[simp] theorem aside_foldl_fst {α β : Type} {f : State × β → α → State × β} (hf : ∀ a x, (f a x).1.aside = a.1.aside)
    (l : List α) (a : State × β) : (l.foldl f a).1.aside = a.1.aside := by
  induction l generalizing a with
  | nil => rfl
  | cons x l ih => rw [List.foldl_cons, ih, hf]

@[simp] theorem aside_captureEv (e : Ev) (s : State) : (captureEv e s).aside = s.aside := by simp [captureEv]
@[simp] theorem aside_emit (e : Ev) (s : State) : (emit e s).aside = s.aside := by simp [emit]
@[simp] theorem aside_fhPulse (n : Nat) (s : State) : (fhPulse n s).aside = s.aside := by simp [fhPulse]
@[simp] theorem aside_msi (v : Nat) (s : State) : (msi v s).aside = s.aside := by simp [msi]
@[simp] theorem aside_allPorts (s : State) (f : Nat → Port → Port) : (State.allPorts s f).aside = s.aside := by simp [State.allPorts]

theorem aside_of_onEntry {s t : State} (h : OnEntry s t) : t.aside = s.aside := by
  obtain ⟨hframe, -⟩ := h
  rw [hframe]
  rfl

@[simp] theorem aside_lsEnter (cause : Nat) (s : State) : (lsEnter cause s).aside = s.aside := by
  cases hexit : s.ls.exitStaged with
  | true => rw [lsEnter, if_pos hexit]; rfl
  | false =>
    obtain ⟨u, hu, -, -, -, -, henter⟩ := lsEnter_facts (cause := cause) hexit
    rw [henter]
    split
    · obtain ⟨P, hP, -⟩ := allPorts_eq u (fun _ x => x.fence u.day.tick u.stackId .stack)
      rw [hP]
      exact (aside_mk_ready u P _ _ _ _ _ _ _ _ _ _).trans (aside_of_onEntry hu)
    · exact aside_of_onEntry hu

@[simp] theorem aside_collectOne (e : FaultEv) (s : State) : (collectOne e s).aside = s.aside := by simp [collectOne]
@[simp] theorem aside_collectLine (s : State) : (collectLine s).aside = s.aside := by simp [collectLine]
@[simp] theorem aside_chanSleep (doubled : Bool) (ch : Nat) (s : State) : (chanSleep doubled ch s).aside = s.aside := by simp [chanSleep]
@[simp] theorem aside_modSched (s : State) (c : Nat) (f : Sched → Sched) : (State.modSched s c f).aside = s.aside := by simp [State.modSched]
@[simp] theorem aside_chanHalt (doubled : Bool) (ch : Nat) (s : State) : (chanHalt doubled ch s).aside = s.aside := by simp [chanHalt]
@[simp] theorem aside_refreshHolds (ch : Nat) (s : State) : (refreshHolds ch s).aside = s.aside := by simp [refreshHolds]
@[simp] theorem aside_releasePlace (ch c : Nat) (s : State) : (releasePlace ch c s).aside = s.aside := by simp [releasePlace]
@[simp] theorem aside_leaveOnce (ch : Nat) (s : State) : (leaveOnce ch s).aside = s.aside := by simp [leaveOnce]
@[simp] theorem aside_modInteg (s : State) (c : Nat) (f : Integ → Integ) : (State.modInteg s c f).aside = s.aside := by simp [State.modInteg]
@[simp] theorem aside_putCells (p : Nat) (data chk : List (BitVec 8)) (s : State) : (putCells p data chk s).aside = s.aside := by simp [putCells]
@[simp] theorem aside_putGran (g : Nat) (v : Option (List (BitVec 8))) (s : State) : (putGran g v s).aside = s.aside := by simp [putGran]
@[simp] theorem aside_busAccess (g : Nat) (rd : Bool) (s : State) : (busAccess g rd s).aside = s.aside := by simp [busAccess]
@[simp] theorem aside_wake (ch : Nat) (s : State) : (wake ch s).aside = s.aside := by simp [wake]
@[simp] theorem aside_ownColumn (g : Nat) (rd : Bool) (s : State) : (ownColumn g rd s).aside = s.aside := by simp [ownColumn]
@[simp] theorem aside_ownWrite (g : Nat) (v : Option (List (BitVec 8))) (s : State) : (ownWrite g v s).aside = s.aside := by simp [ownWrite]
@[simp] theorem aside_ownCommit (s : State) : (ownCommit s).aside = s.aside := by simp [ownCommit]

@[simp] theorem aside_mergeClose (ch : Nat) (m : MergeE) (s : State) : (mergeClose ch m s).aside = s.aside := by
  unfold mergeClose
  dsimp only
  split <;> simp

@[simp] theorem aside_mergeEnd (ch : Nat) (m : MergeE) (s : State) : (mergeEnd ch m s).aside = s.aside := by simp [mergeEnd]

@[simp] theorem aside_mergeRoom (ch : Nat) (s : State) : (mergeRoom ch s).aside = s.aside := by
  unfold mergeRoom
  dsimp only
  split <;> simp

@[simp] theorem aside_settleGran (fuel ch g : Nat) (s : State) : (settleGran fuel ch g s).aside = s.aside := by
  induction fuel generalizing s with
  | zero => rfl
  | succ fuel ih =>
    unfold settleGran
    dsimp only
    repeat' split
    all_goals simp [ih]

@[simp] theorem aside_settleRoom (fuel ch : Nat) (s : State) : (settleRoom fuel ch s).aside = s.aside := by
  induction fuel generalizing s with
  | zero => rfl
  | succ fuel ih =>
    unfold settleRoom
    dsimp only
    repeat' split
    all_goals simp [ih]

@[simp] theorem aside_settleOn (ch g : Nat) (s : State) : (settleOn ch g s).aside = s.aside := by simp [settleOn]
@[simp] theorem aside_settleChunk (ch chunk : Nat) (s : State) : (settleChunk ch chunk s).aside = s.aside := by simp [settleChunk]
@[simp] theorem aside_enqueue (ch : Nat) (e : Entry) (s : State) : (enqueue ch e s).aside = s.aside := by simp [enqueue]

@[simp] theorem aside_admitLink (fuel ch : Nat) (s : State) : (admitLink fuel ch s).aside = s.aside := by
  induction fuel generalizing s with
  | zero => rfl
  | succ fuel ih =>
    unfold admitLink
    split
    · rfl
    · simp [ih]

@[simp] theorem aside_leaveLoop (fuel ch : Nat) (s : State) : (leaveLoop fuel ch s).aside = s.aside := by
  induction fuel generalizing s with
  | zero => rfl
  | succ fuel ih =>
    unfold leaveLoop
    dsimp only
    repeat' split
    all_goals simp [ih]

@[simp] theorem aside_leaveQueue (ch : Nat) (s : State) : (leaveQueue ch s).aside = s.aside := by simp [leaveQueue]
@[simp] theorem aside_endRequests (ch : Nat) (how : Fin_) (keep : Entry → Bool) (s : State) :
    (endRequests ch how keep s).aside = s.aside := by simp [endRequests]
@[simp] theorem aside_mergeFlush (ch : Nat) (s : State) : (mergeFlush ch s).aside = s.aside := by simp [mergeFlush]

@[simp] theorem aside_raiseInj (src inst : Nat) (c : Cls) (detail : BitVec 64) (inj : Bool) (s : State) :
    (raiseInj src inst c detail inj s).aside = s.aside := by simp [raiseInj]

@[simp] theorem aside_raise (src inst : Nat) (c : Cls) (detail : BitVec 64) (s : State) :
    (raise src inst c detail s).aside = s.aside := by simp [raise]
@[simp] theorem aside_parityAlert (ch d : Nat) (inj : Bool) (s : State) : (parityAlert ch d inj s).aside = s.aside := by simp [parityAlert]

@[simp] theorem aside_raiseDue (ch : Nat) (s : State) : (raiseDue ch s).aside = s.aside := by
  unfold raiseDue
  split <;> simp

@[simp] theorem aside_injUse (s : State) : (injUse s).aside = s.aside := by simp [injUse]
@[simp] theorem aside_dccRecord (ch : Nat) (c : Cls) (detail : BitVec 64) (count : Nat) (s : State) :
    (dccRecord ch c detail count s).aside = s.aside := by simp [dccRecord]
@[simp] theorem aside_countUE (g : Nat) (inj : Bool) (s : State) : (countUE g inj s).aside = s.aside := by simp [countUE]

@[simp] theorem aside_countCE (g : Nat) (fix : List (Nat × BitVec 8)) (inj : Bool) (s : State) : (countCE g fix inj s).aside = s.aside := by
  unfold countCE
  dsimp only
  repeat' split
  all_goals simp

@[simp] theorem aside_decodeGran (g : Nat) (errs : List (Nat × BitVec 8)) (fill : Bool) (s : State) :
    (decodeGran g errs fill s).1.aside = s.aside := by
  unfold decodeGran
  dsimp only
  repeat' split
  all_goals simp

@[simp] theorem aside_scrubGran (again : Bool) (g : Nat) (errs : List (Nat × BitVec 8)) (s : State) :
    (scrubGran again g errs s).aside = s.aside := by
  unfold scrubGran
  dsimp only
  split <;> simp

@[simp] theorem aside_copyGran (g dst : Nat) (errs : List (Nat × BitVec 8)) (s : State) : (copyGran g dst errs s).aside = s.aside := by
  unfold copyGran
  dsimp only
  split <;> simp

@[simp] theorem aside_moveGran (ch g n : Nat) (errs : List (Nat × BitVec 8)) (s : State) : (moveGran ch g n errs s).aside = s.aside := by
  unfold moveGran
  dsimp only
  split <;> simp

@[simp] theorem aside_scrubLand (ch : Nat) (j : ScrubJob) (errs : List SymErr) (s : State) : (scrubLand ch j errs s).aside = s.aside := by
  unfold scrubLand
  cases j with
  | rewrite g d =>
    dsimp only
    split <;> simp
  | visit g => simp
  | reread g => simp
  | move g n => simp
  | pointer p => exact aside_foldl (fun t i => by split <;> simp) _ _

@[simp] theorem aside_closeDue (ch : Nat) (s : State) : (closeDue ch s).aside = s.aside := by simp [closeDue]

@[simp] theorem aside_fillReturn (ch g : Nat) (errs : List (Nat × BitVec 8)) (s : State) : (fillReturn ch g errs s).aside = s.aside := by
  unfold fillReturn
  split
  · rfl
  · split
    · rfl
    · extract_lets r s1 fill s2 waits s3
      have h2 : s2.aside = s.aside := by simp [s2, s1, r]
      have h3 : s3.aside = s.aside := by
        unfold s3
        split
        · exact (aside_foldl (fun t e => by split <;> simp) _ _).trans h2
        · exact h2
      simp [h3]

theorem aside_drainTo {pa : Nat} {v : Word64} {s t : State} {n : Nat} (hd : drainTo pa v s = some (t, n)) : t.aside = s.aside := by
  unfold drainTo at hd
  extract_lets ch g b s1 r at hd
  have h1 : s1.aside = s.aside := by
    unfold s1
    repeat' split
    all_goals simp
  have hr : r.1.aside = s.aside := by simp [r, h1]
  split at hd
  · cases hd; rfl
  · split at hd
    · cases hd
    · split at hd
      · split at hd
        · obtain ⟨rfl, -⟩ := Prod.mk.inj (Option.some.inj hd)
          dsimp only
          split <;> simp [h1]
        · obtain ⟨rfl, -⟩ := Prod.mk.inj (Option.some.inj hd)
          exact h1
        · cases hd
      · split at hd
        · obtain ⟨rfl, -⟩ := Prod.mk.inj (Option.some.inj hd)
          simpa using hr
        · obtain ⟨rfl, -⟩ := Prod.mk.inj (Option.some.inj hd)
          exact hr

@[simp] theorem aside_takeData (ch : Nat) (r : State × GranRes) (g : Nat) (e : Entry) (s : State) (hr : r.1.aside = s.aside) :
    (takeData ch r g e s).aside = s.aside := by
  unfold takeData
  dsimp only
  split
  · split
    · simp [hr]
    · split
      · rfl
      · simp [hr, aside_drainTo ‹_›]
      · simp [hr, aside_drainTo ‹_›]
  · simp [hr]

@[simp] theorem aside_serveGran (ch chunk g : Nat) (errs : List (Nat × BitVec 8)) (s : State) :
    (serveGran ch chunk g errs s).aside = s.aside := by
  unfold serveGran
  repeat' split
  all_goals simp

@[simp] theorem aside_writePart (ch : Nat) (e : Entry) (g : Nat) (s : State) : (writePart ch e g s).1.aside = s.aside := by
  unfold writePart
  split <;> simp

@[simp] theorem aside_landOne (ch : Nat) (s : State) (f : Flight) : (landOne ch s f).aside = s.aside := by
  unfold landOne
  extract_lets s1
  have h1 : s1.aside = s.aside := by simp [s1]
  split
  · exact h1
  · split
    · simp [h1]
    · split
      · exact (aside_foldl (fun t i => by split <;> simp) _ _).trans h1
      · split
        · exact h1
        · simp [h1]

@[simp] theorem aside_land (ch : Nat) (s : State) : (land ch s).aside = s.aside := by simp [land]

@[simp] theorem aside_scrubTake (ch : Nat) (p : Pick) (s : State) : (scrubTake ch p s).aside = s.aside := by
  unfold scrubTake
  repeat' split
  all_goals simp

@[simp] theorem aside_blockCheck (ch b : Nat) (s : State) : (blockCheck ch b s).aside = s.aside := by simp [blockCheck]

@[simp] theorem aside_columnIssue (ch b col : Nat) (rd : Bool) (errs : List SymErr) (job : Option ScrubJob) (s : State) :
    (columnIssue ch b col rd errs job s).aside = s.aside := by
  unfold columnIssue
  dsimp only
  split <;> simp

@[simp] theorem aside_reissue (ch : Nat) (i : Issued) (s : State) : (reissue ch i s).aside = s.aside := by
  unfold reissue
  split <;> simp

@[simp] theorem aside_issue (ch : Nat) (p : Pick) (s : State) : (issue ch p s).aside = s.aside := by
  unfold issue
  dsimp only
  repeat' split
  all_goals simp

@[simp] theorem aside_recover (fuel ch : Nat) (s : State) : (recover ch fuel s).aside = s.aside := by
  induction fuel generalizing s with
  | zero => rfl
  | succ fuel ih =>
    unfold recover
    dsimp only
    repeat' split
    all_goals simp [ih]

@[simp] theorem aside_stopChannel (doubled : Bool) (ch : Nat) (s : State) : (stopChannel doubled ch s).aside = s.aside := by simp [stopChannel]

@[simp] theorem aside_lsControllers (s : State) : (lsControllers s).aside = s.aside := by
  unfold lsControllers
  extract_lets s1 s2
  have h1 : s1.aside = s.aside := aside_foldl (fun t c => aside_stopChannel true c t) _ _
  have h2 : s2.aside = s1.aside := aside_foldl (fun t k => aside_modClu t k _) _ _
  rw [aside_allPorts, h2, h1]

@[simp] theorem aside_collectPass (s : State) : (collectPass s).aside = s.aside := by
  have hline : (if s.flt.line.isEmpty then s else collectLine s).aside = s.aside := by
    split
    · rfl
    · exact aside_collectLine s
  unfold collectPass
  dsimp only
  generalize (if s.flt.line.isEmpty then s else collectLine s) = t at hline ⊢
  split
  · rw [aside_lsControllers]
    exact hline
  · exact hline

@[simp] theorem aside_collect (s : State) : (collect s).aside = s.aside := by simp [collect]
@[simp] theorem aside_readyRecords (old : BitVec 48) (s : State) : (readyRecords old s).aside = s.aside := by simp [readyRecords]
@[simp] theorem aside_capTrack (old : BitVec 16) (s : State) : (capTrack old s).aside = s.aside := by simp [capTrack]

@[simp] theorem aside_settle (s0 s : State) : (settle s0 s).aside = s.aside := by
  unfold settle
  dsimp only
  split <;> simp

end Sys2Proof.Machine
end

section
/-! PROOF of O55: Lantern's publication, the ends of its periods, the pins, and the return of a refresh rate (R146, R326, R345, R348, R378, R379,
R384, R385, R387, R426). -/

namespace Sys2Proof.Machine

/-! ### What a publication tells (R378, R379) -/

/-- The round that Lantern has published, and the sensors that it takes for failed. -/
def Lan.told (l : Lan) : Bool × Nat × Nat × Nat × Bool × BitVec 64 × BitVec 12 :=
  (l.published, l.pubTick, l.round, l.rounds, l.due, l.failDie, l.failBase)

def State.told (s : State) : Bool × Nat × Nat × Nat × Bool × BitVec 64 × BitVec 12 := s.lan.told

theorem told_of_aside {s t : State} (h : t.aside = s.aside) : t.told = s.told := (congrArg State.told h :)

theorem told_foldl {α : Type} {f : State → α → State} (hf : ∀ s x, (f s x).told = s.told) (l : List α) (s : State) :
    (l.foldl f s).told = s.told := foldl_keeps hf l s

theorem told_lanRec (inst : Nat) (pay : BitVec 96) (s : State) : (lanRec inst pay s).told = s.told := told_of_aside (aside_emit _ _)
theorem told_raise (src inst : Nat) (c : Cls) (detail : BitVec 64) (s : State) : (raise src inst c detail s).told = s.told :=
  told_of_aside (aside_raise _ _ _ _ _)
theorem told_raiseLs (src inst : Nat) (c : Cls) (detail : BitVec 64) (inj : Bool) (cause : Nat) (s : State) :
    (raiseLs src inst c detail inj cause s).told = s.told := (rfl)
theorem told_lsEnter (cause : Nat) (s : State) : (lsEnter cause s).told = s.told := told_of_aside (aside_lsEnter _ _)
theorem told_lanLevel (l : Nat) (on : Bool) (pay : BitVec 96) (s : State) : (lanLevel l on pay s).told = s.told := (rfl)
theorem told_supOut (f : Lan → Tab Nat) (s : State) : (s.modLan (fun l => { l with supOut := f l })).told = s.told := (rfl)

/-- Reports of a round leave what it tells. -/
theorem told_dieReport (old : Lan) (s : State) (d : Nat) : (dieReport old s d).told = s.told := by
  unfold dieReport
  extract_lets l nf declared restored pay s1 s2 s3
  have h1 : s1.told = s.told := told_lanRec _ _ _
  have h2 : s2.told = s1.told := by
    unfold s2
    split <;> rfl
  have h3 : s3.told = s2.told := by
    unfold s3
    split <;> rfl
  split
  · rfl
  · exact (told_foldl (fun t _ => told_raise _ _ _ _ t) _ _).trans (h3.trans (h2.trans h1))

theorem told_critReport (old : Lan) (s : State) : (critReport old s).told = s.told := by
  unfold critReport
  extract_lets l bnew crit newc hotBase at_ wh temp pay det s1 s2 s3
  have hlist : s3.told = s.told := by
    unfold s3
    split
    · rfl
    · have h1 : s1.told = s.told := told_lanRec _ _ _
      have h2 : s2.told = s1.told := by
        refine (told_foldl (fun t i => told_raise _ _ _ _ t) _ _).trans ?_
        split <;> rfl
      refine (told_foldl (fun t c => told_raiseLs _ _ _ _ _ _ t) _ _).trans (Eq.trans ?_ (h2.trans h1))
      split <;> rfl
  split
  · exact (told_lsEnter _ _).trans hlist
  · exact hlist

theorem told_voltStep (s : State) (m : Nat) : (voltStep s m).told = s.told := by
  unfold voltStep
  extract_lets v out n pay s1 s2
  have h2 : s2.told = s.told := (told_lanLevel _ _ _ _).trans (told_supOut _ _)
  split
  · exact (told_raiseLs _ _ _ _ _ _ _).trans h2
  · exact h2

/-- A sensor with an invalid reading is failed from the publication on (R379). -/
theorem sense_fails (r : Sys2Proof.LanRound) (l : Lan) :
    (∀ i < 64, (sense r l).failDie.getLsbD i = (l.failDie.getLsbD i || !validTemp (r.die.getD i none))) ∧
      ∀ i < 12, (sense r l).failBase.getLsbD i = (l.failBase.getLsbD i || !validTemp (r.base.getD i none)) := by
  have hset {n m : Nat} (valid : Nat → Bool) (w : BitVec n) {i : Nat} (hn : i < n) (hm : i < m) :
      ((List.range m).foldl (fun w d => if valid d then w else w ||| (1#n <<< d)) w).getLsbD i = (w.getLsbD i || !valid i) := by
    have hflip : (fun (w : BitVec n) (d : Nat) => if valid d then w else w ||| (1#n <<< d)) =
        fun w d => if !valid d then w ||| (1#n <<< d) else w := by
      funext w d
      cases valid d <;> rfl
    rw [hflip, getLsbD_foldl_set (fun d => !valid d) w hn]
    simp [hm]
  exact ⟨fun i hi => hset (fun i => validTemp (r.die.getD i none)) l.failDie hi hi,
    fun i hi => hset (fun i => validTemp (r.base.getD i none)) l.failBase hi hi⟩

theorem told_dieStep (l : Lan) (d : Nat) : (dieStep l d).told = l.told := (rfl)

theorem told_estimate (s : State) (base : Rat) (l : Lan) : (estimate s base l).told = l.told := (rfl)

theorem told_lanCounts (m tick : Nat) (l : Lan) :
    (lanCounts m tick l).told = (true, tick, m, l.told.2.2.2.1 + 1, true, l.told.2.2.2.2.2) := (rfl)

theorem told_forgetsActivations (s : State) (ch : Nat) : (s.modSched ch (fun q => { q with dieAct := [], dieCol := [] })).told = s.told := (rfl)

/-- What a publication tells is the round that `sense` took and `lanCounts` counted, and its last act is Lantern's ready bit. -/
theorem publish_facts {s : State} (r : Sys2Proof.LanRound) (hheld : s.pwr.held = false) (hne : s.day.tick ≠ 0) (h64 : s.day.tick % 64 = 0)
    (hnew : s.lan.published = true → s.lan.pubTick ≠ s.day.tick) :
    (publish r s).told = (true, s.day.tick, s.day.tick / 64 - 1, s.lan.rounds + 1, true, (sense r s.lan).failDie, (sense r s.lan).failBase) ∧
      (publish r s).ready.getLsbD 15 = true := by
  unfold publish
  extract_lets t old base l0 l1 l2 s0 s1 s2 s3 s4 s5
  have hguard : ¬ (s.pwr.held || t = 0 || t % 64 ≠ 0 || (s.lan.published && s.lan.pubTick = t)) = true := by
    simpa [t, hheld, hne, h64] using hnew
  rw [if_neg hguard]
  have hestimate : l1.told = l0.told := by
    unfold l1
    split
    · exact told_estimate _ _ _
    · rfl
  have hjudged : l2.told = l0.told := (foldl_keeps told_dieStep _ _).trans hestimate
  have hkept : s5.told = s1.told :=
    calc s5.told = s4.told := told_foldl told_voltStep _ _
      _ = s3.told := told_critReport _ _
      _ = s2.told := told_foldl (told_dieReport old) _ _
      _ = s1.told := told_foldl told_forgetsActivations _ _
  have hbit (w : BitVec 16) : (w ||| 0x8000#16).getLsbD 15 = true := by simp
  have hcounted : s1.told = (lanCounts (t / 64 - 1) t l2).told := rfl
  have htold : s1.told = (true, t, t / 64 - 1, l0.told.2.2.2.1 + 1, true, l0.told.2.2.2.2.2) := by
    rw [hcounted, told_lanCounts, hjudged]
  clear_value s5
  exact ⟨hkept.trans htold, hbit _⟩

theorem exec_lanternPublish {s : State} (r : Sys2Proof.LanRound) (hheld : s.pwr.held = false) (hne : s.day.tick ≠ 0)
    (h64 : s.day.tick % 64 = 0) (hnew : s.lan.published = true → s.lan.pubTick ≠ s.day.tick) :
    ∃ t, exec (.lanternPublish r) s = .next t ∧ t.lan.published = true ∧ t.lan.pubTick = s.day.tick ∧
      t.lan.round = s.day.tick / 64 - 1 ∧ t.lan.rounds = s.lan.rounds + 1 ∧ t.lan.due = true ∧ t.ready.getLsbD 15 = true ∧
      (∀ i < 64, t.lan.failDie.getLsbD i = (s.lan.failDie.getLsbD i || !validTemp (r.die.getD i none))) ∧
      ∀ i < 12, t.lan.failBase.getLsbD i = (s.lan.failBase.getLsbD i || !validTemp (r.base.getD i none)) := by
  obtain ⟨hpub, hbit⟩ := publish_facts r hheld hne h64 hnew
  have hexec : exec (.lanternPublish r) s = .next (settle s (publish r s)) := rfl
  have haside := aside_settle s (publish r s)
  have htold := (told_of_aside haside).trans hpub
  have hmask : (settle s (publish r s)).ready &&& 0xE000#16 = (publish r s).ready &&& 0xE000#16 := (congrArg State.ready haside :)
  have hready : (settle s (publish r s)).ready.getLsbD 15 = true := by
    rw [← hbit]
    simpa using congrArg (fun w : BitVec 16 => w.getLsbD 15) hmask
  obtain ⟨hdie, hbase⟩ := sense_fails r s.lan
  generalize settle s (publish r s) = t at hexec htold hready
  simp only [State.told, Lan.told, Prod.mk.injEq] at htold
  obtain ⟨hp, ht, hr, hn, hdue, hfd, hfb⟩ := htold
  exact ⟨t, hexec, hp, ht, hr, hn, hdue, hready, fun i hi => by rw [hfd, hdie i hi], fun i hi => by rw [hfb, hbase i hi]⟩

/-! ### The ends of the grace period and of an override (R385, R387) -/

section
variable {s : State} {e : Nat}

theorem exec_graceEnd (hcalm : Calm s) (hend : s.lan.graceEnd = some e) (hdue : e ≤ s.day.tick) :
    ∃ t, exec .graceEnd s = .next t ∧ t.lan.graceEnd = none ∧ t.lan.enforcing = true ∧ t.lan.level = max 1 (kOf s.lan.dieMax) ∧
      t.sec.k = t.lan.k ∧ t.mem = s.mem ∧ t.chk = s.chk ∧ t.ports = s.ports := by
  have hexec : exec .graceEnd s = .next (settle s (graceEnd s)) := rfl
  have hcmd : graceEnd s = effRecompute (lanApply true 0
      { s with lan := { s.lan with graceEnd := none, enforcing := true, level := max 1 (kOf s.lan.dieMax) } }) := by
    rw [graceEnd, hend]
    exact if_neg (Nat.not_lt.2 hdue)
  obtain ⟨hsettle, hon, hd, -, hk⟩ := decided_facts true
    { s.lan with graceEnd := none, enforcing := true, level := max 1 (kOf s.lan.dieMax) } hcalm
  rw [← hcmd] at hsettle hon hd hk
  rw [hsettle] at hexec
  generalize graceEnd s = t at hexec hon hd hk
  exact ⟨t, hexec, (congrArg Lan.graceEnd hd :), (congrArg Lan.enforcing hd :), (congrArg Lan.level hd :), hk,
    (congrArg State.mem hon :), (congrArg State.chk hon :), (congrArg State.ports hon :)⟩

theorem exec_overrideEnd {o : Ovr} (hcalm : Calm s) (hovr : s.lan.ovr = some o) (hend : o.ends = some e) (hdue : e ≤ s.day.tick) :
    ∃ t, exec .overrideEnd s = .next t ∧ t.lan.ovr = none ∧ t.sec.k = t.lan.k ∧ t.lan.rate = s.lan.doubled ∧ t.lan.doubled = s.lan.doubled ∧
      t.mem = s.mem ∧ t.chk = s.chk ∧ t.ports = s.ports := by
  have hexec : exec .overrideEnd s = .next (settle s (overrideEnd s)) := rfl
  have hcmd : overrideEnd s = effRecompute (lanApply false 0 { s with lan := { s.lan with ovr := none } }) := by
    simp only [overrideEnd, hovr, hend]
    exact if_neg (Nat.not_lt.2 hdue)
  obtain ⟨hsettle, hon, hd, hr, hk⟩ := decided_facts false { s.lan with ovr := none } hcalm
  rw [← hcmd] at hsettle hon hd hr hk
  rw [hsettle] at hexec
  generalize overrideEnd s = t at hexec hon hd hr hk
  exact ⟨t, hexec, (congrArg Lan.ovr hd :), hk, hr, (congrArg Lan.doubled hd :),
    (congrArg State.mem hon :), (congrArg State.chk hon :), (congrArg State.ports hon :)⟩

end

/-! ### The return of a refresh rate (R146, R384) -/

/-- A boundary takes a die that has been marked out of Lantern's doubled set. -/
theorem lanReturn_drops (s : State) {d : Nat} (hd : d < 16) (hmark : s.lan.returning.getLsbD d = true) :
    (lanReturn s).1.lan.doubled.getLsbD d = false := by
  have hback := getLsbD_foldl_set (m := 16)
    (fun d => s.lan.doubled.getLsbD d && (s.lan.returning.getLsbD d || s.lan.cooled s.day.tick d)) (0#16) hd
  have hdrop : (lanReturn s).1.lan.doubled = s.lan.doubled &&& ~~~((List.range 16).foldl (fun (w : BitVec 16) d =>
      if s.lan.doubled.getLsbD d && (s.lan.returning.getLsbD d || s.lan.cooled s.day.tick d) then w ||| (1#16 <<< d) else w) 0#16) := rfl
  rw [hdrop, BitVec.getLsbD_and, BitVec.getLsbD_not, hback]
  simp [hd, hmark]

theorem exec_refreshRateReturn (s : State) (d : DieId) :
    (s.lan.cooled (s.day.tick + 1) d.val = true →
      exec (.refreshRateReturn d) s = .next { s with lan := { s.lan with returning := s.lan.returning ||| (1#16 <<< d.val) } }) ∧
    (s.lan.cooled (s.day.tick + 1) d.val = false → exec (.refreshRateReturn d) s = .next s) := by
  have hexec : exec (.refreshRateReturn d) s = .next (rateReturn d.val s) := rfl
  refine ⟨fun hcool => ?_, fun hwarm => ?_⟩
  · rw [hexec, rateReturn, if_pos hcool]; rfl
  · rw [hexec, rateReturn, if_neg (by simp [hwarm])]

/-- Without an override the doubled set is Lantern's own. -/
theorem setRates_own {s : State} (own : BitVec 16) (hovr : s.lan.ovr = none) : (setRates own s).lan.rate = s.lan.doubled ∧
    (s.lan.rate ≠ s.lan.doubled → ∀ c < 32, s.cluReady (cluOf c) = true → ((setRates own s).chan c).q.doubled = s.lan.doubled) := by
  have hnow : s.lan.ratesNow = s.lan.doubled := by rw [Lan.ratesNow, hovr]
  obtain ⟨-, -, hrate, -, hgiven⟩ := setRates_facts own s
  rw [hnow] at hrate hgiven
  exact ⟨hrate, hgiven⟩

/-! ### The pins (R345, R348) -/

theorem exec_tripN (s : State) (l : List Bool) : let p := l.foldl (filterStep 25) (s.lan.trip, s.lan.tripRun)
    ∃ t, exec (.tripN l) s = .next t ∧ t = { s with lan := { s.lan with trip := p.1, tripRun := p.2 }, bcn := t.bcn } ∧
      (p.1 ≠ s.lan.trip → (t.bcn.src 0).active = p.1) := by
  obtain ⟨hframe, hsrc⟩ := tripSamples s l
  exact ⟨l.foldl tripSample s, rfl, hframe, hsrc.resolve_left⟩

theorem exec_srN (s : State) (l : List Bool) : let p := l.foldl (filterStep 25) (s.pwr.srLow, s.pwr.srRun)
    ∃ t, exec (.srN l) s = .next t ∧ t = { s with pwr := { s.pwr with srLow := p.1, srRun := p.2 }, bcn := t.bcn } ∧
      (p.1 ≠ s.pwr.srLow → (t.bcn.src 1).active = p.1 ∧ min ((s.bcn.src 1).edges + 1) 255 ≤ (t.bcn.src 1).edges) := by
  obtain ⟨hframe, hsrc⟩ := srSamples s l
  exact ⟨l.foldl srSample s, rfl, hframe, fun hne => hsrc.resolve_left (fun h => hne h.1)⟩

/-- Settles O55: a publication is read off what the reports of its round leave alone, the ends of the grace period and of an override off what
Lantern's decisions change, the doubled set off its bits, and the pins by induction on their samples. -/
theorem lanternAndPinsAct : Obligations.LanternAndPinsAct :=
  ⟨fun _ r _ hheld hne h64 hnew => exec_lanternPublish r hheld hne h64 hnew,
    fun _ _ hcalm hend hdue => exec_graceEnd hcalm hend hdue,
    fun _ _ _ hcalm hovr hend hdue => exec_overrideEnd hcalm hovr hend hdue,
    fun s d _ => ⟨(exec_refreshRateReturn s d).1, (exec_refreshRateReturn s d).2, lanReturn_drops s d.isLt,
      fun own hovr => setRates_own own hovr⟩,
    fun s l => ⟨exec_tripN s l, exec_srN s l⟩,
    fun n k old low hne hk => filterStep_replicate old low hne n k hk⟩

end Sys2Proof.Machine
end
